-- ==== Sys2Proof/Word.lean ====
section
/-! DEFINITION. The words of the column link: one character, one station address, and the two ways the manual
joins characters. -/

namespace Sys2Proof

/-- A character of the column link: eight data bits (R1). -/
abbrev Byte := BitVec 8

/-- A station address, four bits of a frame header; 1–15 name stations, 0 as a target names all of them (§1.2). -/
abbrev Addr := BitVec 4

/-- A two-character field, least significant character first (§2.2). -/
abbrev Word16 := BitVec 16

end Sys2Proof
end

