-- ==== Sys2Proof/Config.lean ====
section
/-! DEFINITION. What an installation fixes: the configuration record (§1.2, R17), and the one value the manual leaves
to the external memory. -/

namespace Sys2Proof

/-- The configuration copy: the fields of a valid configuration record (§1.2, R17). Power is in u (1 u = 10 W). -/
structure ConfigCopy where
  /-- own address, 1–15 -/
  own : Addr
  /-- console address, 1–15, not the own address -/
  console : Addr
  /-- own class, 0–3 -/
  cls : Nat
  /-- budget B, 100–1100 u -/
  budget : Nat
  /-- aux draw, 0–50 u -/
  aux : Nat
  /-- own floor F, 0–400 u -/
  floor : Nat
  /-- steam generator rating, 80–300 u -/
  steamRating : Nat
  /-- top element rating, 50–300 u -/
  topRating : Nat
  /-- bottom element rating, 50–300 u -/
  bottomRating : Nat
  /-- ring element rating, 50–300 u -/
  ringRating : Nat
  /-- default hardness, 0–40 °dH -/
  hardness : Nat
  deriving DecidableEq, Repr

/-- The retained record as the external memory gives it back (R140). The manual states its fields and that the check
byte makes the bytes' sum 0 modulo 256, and no layout: the fields are held as read, `mark` by its code of §2.2
(NONE 0, AGENT_IN 1, RINSE_NEEDED 2), and `sumOk` says whether the sum is 0 (notes/assumptions/4). -/
structure StoredRecord where
  account : Nat
  hardness : Nat
  mark : Nat
  sumOk : Bool
  deriving DecidableEq, Repr, Inhabited

/-- What the memory holds after a write it never reported (R143: 'whatever state the memory holds'). A free value:
it has no body, and `n` numbers its uses (notes/assumptions/5). -/
opaque Config.freeRecord (n : Nat) : StoredRecord

end Sys2Proof
end

