-- ==== Sys2Proof/Syntax.lean ====
section
/-! DEFINITION. The commands of the C40, one constructor per row of spec/opcode_table.json: the frames, orders and
events that reach it from outside, and the running out of its own timers and counts. -/

namespace Sys2Proof

/-- The contents of a NOTICE payload (§3.1); power values in u, 0–65,535. -/
structure Notice where
  /-- class, 0–3 -/
  cls : Nat
  /-- flag bit 0 -/
  raise : Bool
  /-- flag bit 1 -/
  leave : Bool
  /-- flag bit 2 -/
  asleep : Bool
  claim : Nat
  wanted : Nat
  floor : Nat
  deriving DecidableEq, Repr

/-- Why a reception failed (R3). -/
inductive ReceptionFailure
  /-- the length field as received is above 24 -/
  | lengthAbove24
  /-- a character's stop bit read dominant -/
  | framingError
  /-- the line became idle before the frame's last character -/
  | earlyIdle
  deriving DecidableEq, Repr

/-- What the retained store gives at power-on (R140). -/
inductive RetainedRead
  /-- the record the memory was left holding -/
  | stored
  /-- another record: a memory prepared or altered while the C40 was without power -/
  | holds (r : StoredRecord)
  /-- no answer to the read -/
  | noAnswer
  deriving DecidableEq, Repr

/-- What one sampling round takes from the input pins (R83): five 10-bit codes and the six switches' levels. -/
structure Samples where
  cavA : BitVec 10
  cavB : BitVec 10
  probe : BitVec 10
  boiler : BitVec 10
  hum : BitVec 10
  /-- LEVEL_LOW: true is wet -/
  levelLow : Bool
  /-- LEVEL_HIGH: true is wet -/
  levelHigh : Bool
  /-- TANK_PRESENT: true is present -/
  tankPresent : Bool
  /-- TANK_LOW: true is low -/
  tankLow : Bool
  /-- DOOR: true is open -/
  door : Bool
  /-- LOCK_FB: true is locked -/
  lockFb : Bool
  deriving DecidableEq, Repr

/-- The commands. An order carries its frame's corrected sender and the payload characters that follow the order
code (§2.2); every length is a form, so that a wrong length is refused as R23 states. -/
inductive Instr
  /-- POWER_ON (R17): the supply comes; the configuration memory's answer (none: no answer) and the retained store's -/
  | powerOn (config : Option (List Byte)) (retained : RetainedRead)
  /-- LINE_IDLE (R1) -/
  | lineIdle
  /-- FRAME_START (R3): a start bit; the reading of the idle clock at it, in bit times (R7) -/
  | frameStart (idleBits : Nat)
  /-- FRAME_RECEIVED (R5): all the characters of the frame, in order -/
  | frameReceived (chars : List Byte)
  /-- RECEPTION_FAILED (R3) -/
  | receptionFailed (cause : ReceptionFailure)
  /-- NOTICE_RECEIVED (R42) -/
  | noticeReceived (sender : Addr) (notice : Notice)
  /-- ORDER_MALFORMED_CODE (R23): the whole payload, empty or opening with a code that names no order -/
  | orderMalformedCode (sender : Addr) (payload : List Byte)
  /-- WAKE (R26) -/
  | wake (sender : Addr) (args : List Byte)
  /-- SLEEP (R27) -/
  | sleep (sender : Addr) (args : List Byte)
  /-- RESTART (R33) -/
  | restart (sender : Addr) (args : List Byte)
  /-- SET_CLIMATE (R29) -/
  | setClimate (sender : Addr) (args : List Byte)
  /-- STOP_CLIMATE (R30) -/
  | stopClimate (sender : Addr) (args : List Byte)
  /-- LOAD_OPEN (R163) -/
  | loadOpen (sender : Addr) (args : List Byte)
  /-- LOAD_STAGE (R164) -/
  | loadStage (sender : Addr) (args : List Byte)
  /-- LOAD_CLOSE (R166) -/
  | loadClose (sender : Addr) (args : List Byte)
  /-- LOAD_ABANDON (R171) -/
  | loadAbandon (sender : Addr) (args : List Byte)
  /-- RECIPE_START (R177) -/
  | recipeStart (sender : Addr) (args : List Byte)
  /-- RECIPE_CONFIRM (R185) -/
  | recipeConfirm (sender : Addr) (args : List Byte)
  /-- RECIPE_SKIP (R186) -/
  | recipeSkip (sender : Addr) (args : List Byte)
  /-- RECIPE_ABORT (R192) -/
  | recipeAbort (sender : Addr) (args : List Byte)
  /-- DESCALE_START (R145) -/
  | descaleStart (sender : Addr) (args : List Byte)
  /-- DESCALE_CONFIRM (R147) -/
  | descaleConfirm (sender : Addr) (args : List Byte)
  /-- DESCALE_ABORT (R154) -/
  | descaleAbort (sender : Addr) (args : List Byte)
  /-- SET_HARDNESS (R31) -/
  | setHardness (sender : Addr) (args : List Byte)
  /-- DROP_PEER (R45) -/
  | dropPeer (sender : Addr) (args : List Byte)
  /-- CLEAR_TRIP (R203) -/
  | clearTrip (sender : Addr) (args : List Byte)
  /-- DRAIN_NOW (R32) -/
  | drainNow (sender : Addr) (args : List Byte)
  /-- CONFIRMATION_SENT (R12) -/
  | confirmationSent
  /-- FRAME_BEGIN (R7): the reading of the idle clock, in bit times -/
  | frameBegin (idleBits : Nat)
  /-- COLLISION_DETECTED (R8) -/
  | collisionDetected
  /-- FRAME_SENT (R11) -/
  | frameSent
  /-- REPORT_CONFIRMATION (R13): the character heard; none for one with a framing error -/
  | reportConfirmation (char : Option Byte)
  /-- CONFIRMATION_WAIT_EXPIRED (R13) -/
  | confirmationWaitExpired
  /-- CONSOLE_SILENCE_EXPIRED (R16) -/
  | consoleSilenceExpired
  /-- CYCLE_TIMER_EXPIRED (R35) -/
  | cycleTimerExpired
  /-- EVENTS_TIMER_EXPIRED (R36) -/
  | eventsTimerExpired
  /-- DIAG_TIMER_EXPIRED (R37) -/
  | diagTimerExpired
  /-- PEER_ENTRY_STALE (R43): the entry's address -/
  | peerEntryStale (address : Addr)
  /-- RAISE_HOLD_END (R55) -/
  | raiseHoldEnd
  /-- NOTICE_PERIOD_EXPIRED (R52) -/
  | noticePeriodExpired
  /-- LISTEN_IN_END (R59) -/
  | listenInEnd
  /-- STARVE_ENTRY_EXPIRED (R60) -/
  | starveEntryExpired
  /-- STARVE_EXIT_EXPIRED (R60) -/
  | starveExitExpired
  /-- ZERO_CROSSING (R66): the time, in µs, since the crossing the drive measures from (R65, R66, R69) -/
  | zeroCrossing (interval : Nat)
  /-- MEASURE_TIMEOUT (R65) -/
  | measureTimeout
  /-- MAINS_TIMEOUT (R67) -/
  | mainsTimeout
  /-- RECOVERY_TIMEOUT (R69) -/
  | recoveryTimeout
  /-- SAMPLING_ROUND (R83) -/
  | samplingRound (samples : Samples)
  /-- DISAGREEMENT_CONDITION (R91) -/
  | disagreementCondition
  /-- REGULATOR_STEP (R101) -/
  | regulatorStep
  /-- FAN_CYCLE (R109) -/
  | fanCycle
  /-- FILL_PULSE (R118) -/
  | fillPulse
  /-- FILL_PULSE_END (R118) -/
  | fillPulseEnd
  /-- WAIT_WATER_EXPIRED (R127) -/
  | waitWaterExpired
  /-- COOL_TIME_EXPIRED (R129) -/
  | coolTimeExpired
  /-- DRAIN_COMPLETE (R130) -/
  | drainComplete
  /-- METERING_TICK (R137) -/
  | meteringTick
  /-- RETAINED_WRITE_COMPLETE (R143): what the read-back gives -/
  | retainedWriteComplete (readBack : StoredRecord)
  /-- RETAINED_WRITE_TIMEOUT (R143): what the memory is left holding -/
  | retainedWriteTimeout (held : StoredRecord)
  /-- SOAK_COMPLETE (R150) -/
  | soakComplete
  /-- RINSE_HEAT_LIMIT (R151) -/
  | rinseHeatLimit
  /-- STAGE_TICK (R183) -/
  | stageTick
  /-- LOCK_TRAVEL_TIMEOUT (R198) -/
  | lockTravelTimeout
  /-- POWER_FAILURE (R141): what the memory is left holding if a retained write was in progress -/
  | powerFailure (left : StoredRecord)
  deriving DecidableEq, Repr

end Sys2Proof
end

