-- ==== Sys2Proof/Decode.lean ====
section
/-! DEFINITION. The host's decoding hook. No row of spec/opcode_table.json gives bits ("fields" and "fixed" are empty
in all 64): a command of the C40 is a frame or an event, not a word, so no word spells one. The C40's own decoders
stand elsewhere: the frame's check code in Machine/Frames.lean, the order codes in Machine/LinkEvents.lean. -/

namespace Sys2Proof

/-- The command a table word spells: none, since no row of the table has bits. -/
def decodeTableWord (_nbits _w : Nat) : Option Instr := none

end Sys2Proof
end

