-- ==== Sys2Proof/Machine/State.lean ====
section
/-! DEFINITION. The state of the C40, block by block (§0.2): plain data, every field at its power-on value in
`State.reset`. Timers on the 1 ms time base hold the milliseconds they have run; `none` is a stopped timer. -/

namespace Sys2Proof.Machine

/-! ### Link unit -/

/-- Whether the part has power and a valid configuration (R17, R18). -/
inductive RunState
  /-- without supply, or the supply has come and POWER_ON has not yet been taken -/
  | off
  /-- CONFIG_FAULT (R18) -/
  | configFault
  /-- the blocks are started -/
  | running
  deriving DecidableEq, Repr

/-- The receive state (R1, R3, R19). -/
inductive Rx
  /-- no character starts a frame until the line has been idle (R1) -/
  | waitIdle
  /-- the line is idle: the next start bit begins a frame -/
  | idle
  /-- a frame is being received -/
  | receiving
  deriving DecidableEq, Repr

/-- What the C40 is doing with the head of its transmit queue (R7, R11, R13). -/
inductive Tx
  | idle
  /-- the head frame is on the line; the characters it is made of -/
  | sending (chars : List Byte)
  /-- a REPORT has been sent and its confirmation is awaited -/
  | awaiting
  deriving DecidableEq, Repr

/-- The set of pending events, one bit per member (§2.2). -/
abbrev EventSet := BitVec 16

/-- A report as built (R35 to R37): its payload, and what its acceptance acts on (R39, R15). -/
inductive Report
  /-- CLIMATE, SUPPLY, WATER or RECIPE; acceptance has no effect (R35) -/
  | cycle (payload : List Byte)
  /-- EVENTS, with the events it carries -/
  | events (carried : EventSet)
  /-- DIAG, with whether it carries a HELD latch and a set lost-correction flag -/
  | diag (held lost : Bool) (payload : List Byte)
  deriving DecidableEq, Repr

/-- What a queued frame carries (R9). -/
inductive Body
  | notice (n : Notice)
  | report (r : Report)
  deriving DecidableEq, Repr

/-- A frame of the transmit queue (R8, R9). -/
structure Frame where
  body : Body
  /-- its own count of collisions, below 8 (R8) -/
  collisions : Nat
  /-- the slots of backoff it owes (R7, R8) -/
  backoff : Nat
  /-- a RAISE whose raise has been abandoned: its leaving the queue has no effect (R54) -/
  abandoned : Bool
  deriving DecidableEq, Repr

/-- The refusal reasons (§2.2). -/
inductive Reason
  | malformed | notConsole | asleep | recipeActive | descaling | lockout | slotBusy | queueTaken | slotState
  | missingStages | badProgram | stalePrompt | peerFresh | tripped | conditionPresent | notNow | rinseRequired
  deriving DecidableEq, Repr

/-- A confirmation (§1.2). -/
inductive Confirmation
  | accept
  | busy
  | refuse (r : Reason)
  deriving DecidableEq, Repr

/-- The six link counters, 0–65,535 each (R14). -/
structure Counters where
  clean : Nat
  corrected : Nat
  bad : Nat
  foreign : Nat
  collisions : Nat
  dropped : Nat
  deriving DecidableEq, Repr

/-- The contents of a HELD correction latch (R15). -/
structure Latched where
  syndrome : Nat
  sender : Addr
  kind : BitVec 4
  deriving DecidableEq, Repr

/-- The link unit (chapter 1). -/
structure LinkUnit where
  rx : Rx
  tx : Tx
  /-- the transmit queue, head first; at most 4 frames (R9) -/
  queue : List Frame
  /-- the confirmation to be sent in the gap (R12) -/
  confirmation : Option Confirmation
  counters : Counters
  /-- the correction latch; none is EMPTY (R15) -/
  latch : Option Latched
  /-- the lost-correction flag (R15) -/
  lost : Bool
  /-- the backoff register (R8) -/
  lfsr : BitVec 16
  /-- the console silence timer (R16) -/
  silence : Option Nat
  /-- a listen-in RESTART has yet to take effect in the link unit (R19) -/
  restartOwed : Bool
  deriving DecidableEq, Repr

/-! ### Order decoder -/

inductive Power
  | standby | active | windDown
  deriving DecidableEq, Repr

/-- The pending events (§2.2). -/
inductive Event
  | stageStarted | prompt | coreTimeout | recipeDone | recipeAborted | descaleAdvice | descaleWaitUser | descaleDone
  | tankEmpty | starved | trip | clamped | retainedLost | dupAddress | programClamped | configRestored
  deriving DecidableEq, Repr

/-- The kinds of the report cycle (R35). -/
inductive CycleKind
  | climate | supply | water | recipe
  deriving DecidableEq, Repr

/-- The order decoder (chapter 2). -/
structure OrderDecoder where
  power : Power
  /-- a RESTART is pending (R33) -/
  restartPending : Bool
  events : EventSet
  cycle : CycleKind
  /-- the 250 ms cycle timer (R35) -/
  cycleTimer : Nat
  /-- the 250 ms events timer (R36) -/
  eventsTimer : Option Nat
  /-- the 10,000 ms DIAG timer (R37) -/
  diagTimer : Nat
  deriving DecidableEq, Repr

/-! ### Supply sharing unit -/

/-- The values of a FRESH or STALE entry (§3.2), in u. -/
structure PeerValues where
  cls : Nat
  claim : Nat
  wanted : Nat
  floor : Nat
  deriving DecidableEq, Repr

/-- An entry of the peer table (§3.2). -/
inductive PeerEntry
  | empty
  /-- with its age in ms -/
  | fresh (v : PeerValues) (age : Nat)
  | stale (v : PeerValues)
  deriving DecidableEq, Repr

/-- The raise state with what it keeps (R53 to R55). -/
inductive Raise
  | none
  /-- the RAISE notice waits on the link; the pre-raise value -/
  | queued (pre : Nat)
  /-- the notice has gone; the milliseconds of the 250 ms raise hold -/
  | holding (pre : Nat) (held : Nat)
  /-- the raised value waits for a claim point -/
  | waiting (pre : Nat) (raised : Nat)
  deriving DecidableEq, Repr

/-- The supply sharing unit (chapter 3). -/
structure SupplyUnit where
  /-- the peer table: the entry of address a stands at a − 1 (§3.2) -/
  peers : Vector PeerEntry 15
  /-- the claim in force C (R49) -/
  claim : Nat
  /-- the announced claim Ca (R49) -/
  announced : Nat
  raise : Raise
  /-- A of the last computation (R48) -/
  lastA : Nat
  /-- W of the last computation -/
  lastW : Nat
  /-- Fo of the last computation -/
  lastFo : Nat
  /-- the last computation found contention -/
  contention : Bool
  starved : Bool
  /-- the 5000 ms entry timer (R60) -/
  entryTimer : Option Nat
  /-- the 5000 ms exit timer (R60) -/
  exitTimer : Option Nat
  /-- the 3500 ms listen-in timer; none once listen-in has ended (R59) -/
  listenIn : Option Nat
  /-- the 1000 ms notice period; none until listen-in has ended (R52) -/
  period : Option Nat
  deriving DecidableEq, Repr

/-! ### Load planner and burst drive -/

/-- The burst loads (R64). -/
inductive LoadId
  | steamHeater | top | bottom | ring
  deriving DecidableEq, Repr

/-- A record of the load list (R64); the rating stands in the configuration copy. -/
structure Load where
  /-- per mille of the rating -/
  demand : Nat
  /-- in W -/
  grant : Nat
  /-- half-cycle count n -/
  count : Nat
  /-- in W·half-cycles -/
  carry : Nat
  /-- the power-limited flag -/
  limited : Bool
  /-- plan position k -/
  position : Nat
  deriving DecidableEq, Repr

/-- The load list: one record for each load (R64). -/
structure Loads where
  steamHeater : Load
  top : Load
  bottom : Load
  ring : Load
  deriving DecidableEq, Repr

/-- The four triac gates (R78). -/
structure Gates where
  steamHeater : Bool
  top : Bool
  bottom : Bool
  ring : Bool
  deriving DecidableEq, Repr

/-- The drive state with its measurement or recovery count (R65, R69). -/
inductive Drive
  /-- a reference crossing has been seen; the intervals counted and their sum in µs -/
  | measuring (reference : Bool) (count : Nat) (sum : Nat)
  | running
  /-- a reference crossing has been seen; the regular crossings counted -/
  | mainsAbsent (reference : Bool) (count : Nat)
  deriving DecidableEq, Repr

/-- The load planner and burst drive (chapter 4). -/
structure Planner where
  drive : Drive
  /-- the half-cycle index of the window in progress (R66); 99 where the next accepted crossing is a window start -/
  half : Nat
  loads : Loads
  /-- the pool recorded at the last window start, in W (R71) -/
  pool : Nat
  /-- the shed counter, in watt-windows (R76) -/
  shed : Nat
  gates : Gates
  /-- milliseconds since the crossing the 100 ms time limits of R65, R67 and R69 run from -/
  sinceCrossing : Nat
  deriving DecidableEq, Repr

/-! ### Measurement unit -/

/-- The status of an analog channel (§5.3). -/
inductive Status
  | starting | valid | short | open
  deriving DecidableEq, Repr

/-- A published value (R86, R88): 0.1 °C or 0.1 %. -/
inductive Reading
  | value (v : Int)
  | invalid
  | absent
  deriving DecidableEq, Repr

/-- An analog channel (§5.3). -/
structure Channel where
  status : Status
  /-- the ring, oldest code first, at most 8 -/
  ring : List Nat
  /-- the published value -/
  value : Reading
  deriving DecidableEq, Repr

/-- A switch channel (R92). -/
structure Switch where
  /-- the published level; none is UNKNOWN -/
  published : Option Bool
  runLevel : Bool
  runLength : Nat
  deriving DecidableEq, Repr

inductive TankState
  | absent | low | present
  deriving DecidableEq, Repr

inductive Mains
  | hz50 | hz60
  deriving DecidableEq, Repr

/-- The measurement unit (chapter 5). -/
structure Measurement where
  cavA : Channel
  cavB : Channel
  probe : Channel
  boiler : Channel
  hum : Channel
  levelLow : Switch
  levelHigh : Switch
  tankPresent : Switch
  tankLow : Switch
  door : Switch
  lockFb : Switch
  /-- the regulated cavity value (R89); none is INVALID -/
  regulated : Option Int
  /-- the trip cavity value (R90); none is INVALID -/
  tripCavity : Option Int
  /-- the disagreement count, 0–300 (R91) -/
  disagreeCount : Nat
  /-- the disagreement condition as published (R91) -/
  disagreement : Bool
  /-- the tank state (R93) -/
  tank : TankState
  /-- the mains frequency; none until measured (R65) -/
  mains : Option Mains
  deriving DecidableEq, Repr

/-! ### Climate regulator -/

inductive Mode
  | convection | topBottom | grill | steam | combi | keepWarm
  deriving DecidableEq, Repr

inductive Owner
  | none | manual | recipe
  deriving DecidableEq, Repr

/-- The fields of a climate request that has a mode (R96). -/
structure Request where
  mode : Mode
  /-- cavity setpoint, 0.1 °C -/
  cavity : Int
  /-- humidity setpoint, 0.1 %, in COMBI -/
  humidity : Option Nat
  /-- fan level, 1–5 -/
  fan : Nat
  deriving DecidableEq, Repr

/-- A regulator context (R100). -/
structure RegContext where
  /-- the error of the last step -/
  error : Int
  /-- the integrator I, 0–256,000 -/
  integrator : Nat
  /-- the output u of the last step, 0–1000 -/
  output : Nat
  /-- the hold counter -/
  holds : Nat
  deriving DecidableEq, Repr

/-- The climate regulator (chapter 6). -/
structure Climate where
  owner : Owner
  /-- the mode, setpoints and fan level; none where the request has no mode -/
  request : Option Request
  temperature : RegContext
  humidity : RegContext
  /-- the vent actuator is open (R110) -/
  ventOpen : Bool
  /-- milliseconds into the fan's 1000 ms cycle; none while the fan does not run (R109) -/
  fanCycle : Option Nat
  deriving DecidableEq, Repr

/-! ### Steam generator controller -/

inductive BoilerState
  | off | fill | heat | steam | refill | waitWater | cool | drain | dryFault
  deriving DecidableEq, Repr

inductive BoilerUser
  | climate | descale
  deriving DecidableEq, Repr

/-- The steam generator controller (chapter 7). -/
structure Boiler where
  state : BoilerState
  user : BoilerUser
  /-- steam wanted, as last handed (R120) -/
  steamWanted : Bool
  /-- the kept steam demand (R120) -/
  steamDemand : Nat
  /-- the derate signal (R139) -/
  derate : Bool
  /-- the fill pulse count (R118) -/
  pulses : Nat
  /-- milliseconds since the last pulse began, while the three conditions of R118 hold -/
  pulseTimer : Option Nat
  /-- milliseconds of the pulse that drives the fill pump (R118) -/
  pumpDrive : Option Nat
  /-- the 2000 ms WAIT_WATER wait (R127) -/
  wait : Option Nat
  /-- the mark of an entry by fill limit (R127) -/
  limitMark : Bool
  /-- the COOL time in ms, up to 1,800,000 (R129) -/
  coolTime : Nat
  /-- the drain count in ms (R130) -/
  drainCount : Nat
  deriving DecidableEq, Repr

/-! ### Scale and descale unit -/

inductive Mark
  | none | agentIn | rinseNeeded
  deriving DecidableEq, Repr

inductive Phase
  | idle | prepDrain | awaitAgent | locking | soakFill | soakHeat | soak | drainAgent | awaitRinse | rinse | unlocking
  | done | recoverDrain | recoverRinse
  deriving DecidableEq, Repr

/-- The phase LOCKING was entered from (R148). -/
inductive LockingFrom
  | awaitAgent | recoverDrain | recoverRinse
  deriving DecidableEq, Repr

/-- The step of a rinse cycle (R151). -/
inductive RinseStep
  | fill | heat | drain
  deriving DecidableEq, Repr

/-- The scale and descale unit (chapter 8). -/
structure Scale where
  /-- the scale account, 0–400,000 (R137) -/
  account : Nat
  /-- the hardness held, 0–40 °dH -/
  hardness : Nat
  /-- the retained mark as held in the C40's memory -/
  mark : Mark
  /-- the metering sum (R137) -/
  meteringSum : Nat
  phase : Phase
  lockingFrom : LockingFrom
  /-- the soak count in s (R150) -/
  soakCount : Nat
  /-- the rinse cycle number (R151) -/
  rinseCycle : Nat
  rinseStep : RinseStep
  /-- the heating time in s (R151) -/
  heatingTime : Nat
  /-- the drain the present phase or step needs has ended (R151, R153) -/
  drained : Bool
  /-- WRITING, with the record being written; none is IDLE (R143) -/
  writing : Option StoredRecord
  /-- milliseconds since the write began (R143) -/
  writeTimer : Nat
  rewritePending : Bool
  retry : Bool
  /-- the retained-write failure count (R143) -/
  failures : Nat
  deriving DecidableEq, Repr

/-! ### Recipe engine -/

inductive SlotId
  | a | b
  deriving DecidableEq, Repr

inductive SlotState
  | empty | loading | ready | queued | running
  deriving DecidableEq, Repr

/-- A stage record as received: its fourteen characters in order (§9.2). -/
structure StageRecord where
  /-- character 1 -/
  kind : Byte
  /-- character 2: mode or repeat target -/
  selector : Byte
  /-- character 3: presence flags -/
  flags : Byte
  /-- characters 4–5 -/
  cavity : Word16
  /-- characters 6–7 -/
  humidity : Word16
  /-- character 8 -/
  fan : Byte
  /-- character 9: condition or repeat count -/
  condition : Byte
  /-- characters 10–11 -/
  value : Word16
  /-- characters 12–13 -/
  limit : Word16
  /-- character 14 -/
  prompt : Byte
  deriving DecidableEq, Repr

/-- The end condition of a program stage (§9.2). -/
inductive Condition
  /-- seconds -/
  | time (n : Nat)
  /-- seconds -/
  | timeAtTemp (n : Nat)
  /-- 0.1 °C -/
  | core (n : Nat)
  | confirm
  deriving DecidableEq, Repr

/-- A program stage (R169); the kind of a heating stage is told by its mode. -/
inductive Stage
  | heating (request : Request) (condition : Condition) (limit : Option Nat) (prompt : Option Nat)
  | prompt (limit : Option Nat) (code : Nat)
  | loop (target : Nat) (count : Nat)
  | finish
  deriving DecidableEq, Repr

/-- A program slot (R159). -/
structure Slot where
  state : SlotState
  tag : Nat
  /-- the declared count -/
  count : Nat
  /-- the 24 stage places; the received-index set is the set of the filled ones (R165) -/
  places : Vector (Option StageRecord) 24
  program : List Stage
  /-- the steam program item -/
  steam : Bool
  deriving DecidableEq, Repr

/-- The stage context (R176). -/
structure StageContext where
  index : Nat
  stageClock : Nat
  atTempClock : Nat
  /-- waiting for confirmation -/
  waiting : Bool
  /-- the prompt that stands -/
  prompt : Option Nat
  deriving DecidableEq, Repr

/-- The hold-reason set (R175). -/
structure HoldSet where
  power : Bool
  water : Bool
  probe : Bool
  trip : Bool
  deriving DecidableEq, Repr

/-- The recipe engine (chapters 9 and 10). -/
structure RecipeEngine where
  slotA : Slot
  slotB : Slot
  /-- the running slot -/
  running : Option SlotId
  /-- the queued slot -/
  queued : Option SlotId
  /-- the stage context, while a slot is RUNNING -/
  context : Option StageContext
  /-- the repeat-counter map: stage index and count, by rising index (R182) -/
  repeats : List (Nat × Nat)
  holds : HoldSet
  deriving DecidableEq, Repr

/-! ### Protection unit -/

inductive Trip
  | cavityOvertemp | boilerDry | sensor | lock
  deriving DecidableEq, Repr

/-- The trip set (R200). -/
structure TripSet where
  cavityOvertemp : Bool
  boilerDry : Bool
  sensor : Bool
  lock : Bool
  deriving DecidableEq, Repr

inductive LockCommand
  | none | engage | release
  deriving DecidableEq, Repr

inductive LockState
  | unlocked | locking | locked | unlocking | fault
  deriving DecidableEq, Repr

/-- The protection unit (chapter 11). The door state is a function of the published DOOR level (R196). -/
structure Protection where
  trips : TripSet
  command : LockCommand
  lock : LockState
  /-- the travel timer in ms (R198) -/
  travel : Nat
  deriving DecidableEq, Repr

/-! ### The whole -/

/-- The C40, the external memory's retained record, and the queue of commands that wait. -/
structure State where
  /-- the commands that wait, first in first out -/
  pending : List Instr
  run : RunState
  /-- the configuration copy (R17); zeros until a valid record has been read -/
  config : ConfigCopy
  /-- the retained record as the external memory holds it (R140) -/
  store : StoredRecord
  /-- milliseconds into the present second of the time base -/
  second : Nat
  /-- the model's own counter of free values used (notes/assumptions/5) -/
  freeUses : Nat
  link : LinkUnit
  od : OrderDecoder
  ssu : SupplyUnit
  lpd : Planner
  mu : Measurement
  cr : Climate
  sgc : Boiler
  sdu : Scale
  re : RecipeEngine
  pu : Protection
  deriving DecidableEq, Repr

/-- Reasons to stop with a fault: none. No command of the C40 stops the machine; the manual's protective conditions are
trips and CONFIG_FAULT, which are states (R18, R200). -/
inductive Fault
  deriving DecidableEq, Repr

/-- Reasons to refuse a command. -/
inductive Refusal
  /-- raised by `exec` for a command without a meaning in this model; none is left. Safe: nothing is claimed of it -/
  | notModelled (mnemonic : String)
  deriving DecidableEq, Repr

/-! ### Reset values -/

/-- All six counters 0 (R19). -/
def Counters.zero : Counters := ⟨0, 0, 0, 0, 0, 0⟩

/-- The link unit after power-on (R19); the backoff register is loaded by POWER_ON. -/
def LinkUnit.reset : LinkUnit :=
  { rx := .waitIdle, tx := .idle, queue := [], confirmation := none, counters := .zero, latch := none,
    lost := false, lfsr := 0, silence := none, restartOwed := false }

/-- The order decoder after power-on (R40). -/
def OrderDecoder.reset : OrderDecoder :=
  { power := .standby, restartPending := false, events := 0, cycle := .climate, cycleTimer := 0,
    eventsTimer := none, diagTimer := 0 }

/-- The supply sharing unit after power-on (R63); POWER_ON starts listen-in. -/
def SupplyUnit.reset : SupplyUnit :=
  { peers := .replicate 15 .empty, claim := 0, announced := 0, raise := .none, lastA := 0, lastW := 0,
    lastFo := 0, contention := false, starved := false, entryTimer := none, exitTimer := none,
    listenIn := none, period := none }

/-- A load without demand at plan position k. -/
def Load.rest (k : Nat) : Load :=
  { demand := 0, grant := 0, count := 0, carry := 0, limited := false, position := k }

/-- The load list after either reset, in the plan order STEAM_HEATER, RING, TOP, BOTTOM (R82). -/
def Loads.reset : Loads :=
  { steamHeater := .rest 0, ring := .rest 1, top := .rest 2, bottom := .rest 3 }

/-- Every gate off. -/
def Gates.off : Gates := ⟨false, false, false, false⟩

/-- The planner and burst drive after power-on (R82). -/
def Planner.reset : Planner :=
  { drive := .measuring false 0 0, half := 99, loads := .reset, pool := 0, shed := 0, gates := .off,
    sinceCrossing := 0 }

/-- An analog channel after either reset; the probe publishes ABSENT (R95). -/
def Channel.reset (r : Reading) : Channel := { status := .starting, ring := [], value := r }

/-- A switch channel after either reset (R92). -/
def Switch.reset : Switch := { published := none, runLevel := false, runLength := 0 }

/-- The measurement unit after a reset that leaves the mains frequency `f` (R95). -/
def Measurement.resetWith (f : Option Mains) : Measurement :=
  { cavA := .reset .invalid, cavB := .reset .invalid, probe := .reset .absent, boiler := .reset .invalid,
    hum := .reset .invalid, levelLow := .reset, levelHigh := .reset, tankPresent := .reset, tankLow := .reset,
    door := .reset, lockFb := .reset, regulated := none, tripCavity := none, disagreeCount := 0,
    disagreement := false, tank := .absent, mains := f }

/-- A regulator context after either reset (R116). -/
def RegContext.reset : RegContext := { error := 0, integrator := 0, output := 0, holds := 0 }

/-- The climate regulator after either reset (R116). -/
def Climate.reset : Climate :=
  { owner := .none, request := none, temperature := .reset, humidity := .reset, ventOpen := true,
    fanCycle := none }

/-- The steam generator controller after power-on (R136). The drain count and the COOL time hold 0 for the manual's none
(DESIGN CHOICE, notes/assumptions/42). -/
def Boiler.reset : Boiler :=
  { state := .off, user := .climate, steamWanted := false, steamDemand := 0, derate := false, pulses := 0,
    pulseTimer := none, pumpDrive := none, wait := none, limitMark := false, coolTime := 0, drainCount := 0 }

/-- The scale and descale unit before the retained record is read (R158). The soak count, the rinse cycle and the heating
time hold 0 for the manual's none (DESIGN CHOICE, notes/assumptions/42). -/
def Scale.reset : Scale :=
  { account := 0, hardness := 0, mark := .none, meteringSum := 0, phase := .idle, lockingFrom := .awaitAgent,
    soakCount := 0, rinseCycle := 0, rinseStep := .fill, heatingTime := 0, drained := false, writing := none,
    writeTimer := 0, rewritePending := false, retry := false, failures := 0 }

/-- An EMPTY slot (R174). The tag and the declared count hold 0, and the steam program item no, for the manual's none
(DESIGN CHOICE, notes/assumptions/42). -/
def Slot.reset : Slot :=
  { state := .empty, tag := 0, count := 0, places := .replicate 24 none, program := [], steam := false }

/-- No hold reason. -/
def HoldSet.empty : HoldSet := ⟨false, false, false, false⟩

/-- The recipe engine after either reset (R174, R195). -/
def RecipeEngine.reset : RecipeEngine :=
  { slotA := .reset, slotB := .reset, running := none, queued := none, context := none, repeats := [],
    holds := .empty }

/-- No trip. -/
def TripSet.empty : TripSet := ⟨false, false, false, false⟩

/-- The protection unit after power-on (R207). The travel timer holds 0 for stopped (DESIGN CHOICE, notes/assumptions/42). -/
def Protection.reset : Protection := { trips := .empty, command := .none, lock := .unlocked, travel := 0 }

/-- The configuration copy while no valid record has been read (notes/assumptions/3). -/
def noConfig : ConfigCopy :=
  { own := 0, console := 0, cls := 0, budget := 0, aux := 0, floor := 0, steamRating := 0, topRating := 0,
    bottomRating := 0, ringRating := 0, hardness := 0 }

/-- A retained store that has never been written (notes/assumptions/4). -/
def blankStore : StoredRecord := { account := 0, hardness := 0, mark := 0, sumOk := false }

/-- The C40 as the supply comes: every field at its power-on value, before POWER_ON has read the records
(notes/assumptions/1). -/
def State.reset : State :=
  { pending := [], run := .off, config := noConfig, store := blankStore, second := 0, freeUses := 0,
    link := .reset, od := .reset, ssu := .reset, lpd := .reset, mu := .resetWith none, cr := .reset,
    sgc := .reset, sdu := .reset, re := .reset, pu := .reset }

end Sys2Proof.Machine
end

