-- ==== Sys2Proof/Machine/Operands.lean ====
section
/-! DEFINITION. What the rules read: judgements formed from the state that several blocks use. Nothing here changes
the state. -/

namespace Sys2Proof.Machine

/-! ### Numbers -/

/-- One more, saturating at 65,535 (§0.6). -/
def bump (n : Nat) : Nat := min (n + 1) 65535

/-- A sum, saturating at 65,535 (§0.6). -/
def addSat (n k : Nat) : Nat := min (n + k) 65535

/-- n / d rounded toward plus infinity. -/
def ceilDiv (n d : Nat) : Nat := (n + d - 1) / d

/-- `x` brought into lo–hi (R98): below becomes lo, above becomes hi. -/
def clampInt (lo hi x : Int) : Int := if x < lo then lo else if hi < x then hi else x

/-- `x` brought into lo–hi. -/
def clampNat (lo hi x : Nat) : Nat := if x < lo then lo else if hi < x then hi else x

/-- A two-character field, least significant character first (§2.2). -/
def wordOf (lo hi : Byte) : Word16 := hi ++ lo

/-- The two characters of a number, least significant first (§2.2). -/
def chars2 (n : Nat) : List Byte := [BitVec.ofNat 8 n, BitVec.ofNat 8 (n / 256)]

/-- The two characters of a signed number in two's complement (§2.2). -/
def chars2Int (i : Int) : List Byte := chars2 (BitVec.ofInt 16 i).toNat

/-! ### Collections -/

/-- The bit of an event in the EVENTS report (§2.2). -/
def Event.bit : Event → Nat
  | .stageStarted => 0 | .prompt => 1 | .coreTimeout => 2 | .recipeDone => 3
  | .recipeAborted => 4 | .descaleAdvice => 5 | .descaleWaitUser => 6 | .descaleDone => 7
  | .tankEmpty => 8 | .starved => 9 | .trip => 10 | .clamped => 11
  | .retainedLost => 12 | .dupAddress => 13 | .programClamped => 14 | .configRestored => 15

/-- The set that holds one event. -/
def Event.mask (e : Event) : EventSet := BitVec.twoPow 16 e.bit

/-- Membership in the pending event set. -/
def EventSet.has (es : EventSet) (e : Event) : Bool := es.getLsbD e.bit

def TripSet.has (t : TripSet) : Trip → Bool
  | .cavityOvertemp => t.cavityOvertemp
  | .boilerDry => t.boilerDry
  | .sensor => t.sensor
  | .lock => t.lock

def TripSet.put (t : TripSet) (k : Trip) (b : Bool) : TripSet :=
  match k with
  | .cavityOvertemp => { t with cavityOvertemp := b }
  | .boilerDry => { t with boilerDry := b }
  | .sensor => { t with sensor := b }
  | .lock => { t with lock := b }

/-- The trip set is empty. -/
def TripSet.none (t : TripSet) : Bool := !t.cavityOvertemp && !t.boilerDry && !t.sensor && !t.lock

def HoldSet.none (h : HoldSet) : Bool := !h.power && !h.water && !h.probe && !h.trip

def Loads.get (l : Loads) : LoadId → Load
  | .steamHeater => l.steamHeater
  | .top => l.top
  | .bottom => l.bottom
  | .ring => l.ring

def Loads.set (l : Loads) (i : LoadId) (x : Load) : Loads :=
  match i with
  | .steamHeater => { l with steamHeater := x }
  | .top => { l with top := x }
  | .bottom => { l with bottom := x }
  | .ring => { l with ring := x }

/-- The same change to each of the four records. -/
def Loads.map (f : Load → Load) (l : Loads) : Loads :=
  { steamHeater := f l.steamHeater, top := f l.top, bottom := f l.bottom, ring := f l.ring }

def Gates.get (g : Gates) : LoadId → Bool
  | .steamHeater => g.steamHeater
  | .top => g.top
  | .bottom => g.bottom
  | .ring => g.ring

/-- The rating of a load, in u (R17, R64). -/
def rating (c : ConfigCopy) : LoadId → Nat
  | .steamHeater => c.steamRating
  | .top => c.topRating
  | .bottom => c.bottomRating
  | .ring => c.ringRating

/-- The rating in W, written rating_W (chapter 4). -/
def ratingW (c : ConfigCopy) (i : LoadId) : Nat := rating c i * 10

/-! ### The published set -/

/-- LEVEL_LOW is published wet; UNKNOWN counts as dry (R117). -/
def lowWet (s : State) : Bool := s.mu.levelLow.published == some true

/-- LEVEL_HIGH is published wet; UNKNOWN counts as dry (R117). -/
def highWet (s : State) : Bool := s.mu.levelHigh.published == some true

/-- The boiler is full (R117). -/
def boilerFull (s : State) : Bool := lowWet s && highWet s

/-- The tank is ready (R117). -/
def tankReady (s : State) : Bool := s.mu.tank == .present

/-- The tank is seated (R117). -/
def tankSeated (s : State) : Bool := s.mu.tank != .absent

/-- A VALID reading at or above `v`; INVALID satisfies no comparison (R117). -/
def Reading.atLeast (r : Reading) (v : Int) : Bool :=
  match r with
  | .value x => v ≤ x
  | _ => false

/-- A VALID reading below `v`. -/
def Reading.below (r : Reading) (v : Int) : Bool :=
  match r with
  | .value x => x < v
  | _ => false

/-- A VALID reading above `v`. -/
def Reading.above (r : Reading) (v : Int) : Bool :=
  match r with
  | .value x => v < x
  | _ => false

/-- A reading that is a value. -/
def Reading.isValue : Reading → Bool
  | .value _ => true
  | _ => false

/-- The value of a reading, if it is one. -/
def Reading.toOption : Reading → Option Int
  | .value x => some x
  | _ => none

/-- The boiler value. -/
def boilerValue (s : State) : Reading := s.mu.boiler.value

/-- The door state is open: DOOR is published open or is UNKNOWN (R196). -/
def doorOpen (s : State) : Bool := s.mu.door.published != some false

/-! ### Supply -/

/-- The oven has work (R46). -/
def hasWork (s : State) : Bool :=
  s.od.power == .active && (s.cr.owner != .none || s.sdu.phase != .idle)

/-- The burst drive counts as inactive (R50). -/
def driveInactive (s : State) : Bool := s.lpd.drive != .running

/-! ### Steam -/

/-- A mode that uses steam (R98). -/
def Mode.steams : Mode → Bool
  | .steam | .combi => true
  | _ => false

/-- Steam is wanted: the request has a steam mode and BOILER_DRY is not in the trip set (R108). -/
def steamShould (s : State) : Bool :=
  (match s.cr.request with
   | some r => r.mode.steams
   | none => false) && !s.pu.trips.boilerDry

/-! ### Descale -/

/-- The descale is frozen by a LOCK trip (R153). -/
def frozen (s : State) : Bool := s.pu.trips.lock

/-- The lock travels (R24, R21). -/
def lockTravelling (s : State) : Bool := s.pu.lock == .locking || s.pu.lock == .unlocking

/-! ### Recipe -/

def RecipeEngine.slot (r : RecipeEngine) : SlotId → Slot
  | .a => r.slotA
  | .b => r.slotB

def RecipeEngine.setSlot (r : RecipeEngine) (i : SlotId) (x : Slot) : RecipeEngine :=
  match i with
  | .a => { r with slotA := x }
  | .b => { r with slotB := x }

def SlotId.other : SlotId → SlotId
  | .a => .b
  | .b => .a

/-- The program stage in progress (R176). -/
def currentStage (s : State) : Option Stage :=
  match s.re.running, s.re.context with
  | some i, some c => (s.re.slot i).program[c.index]?
  | _, _ => none

/-- A stage of kind STEAM or COMBI. -/
def Stage.steams : Stage → Bool
  | .heating r _ _ _ => r.mode.steams
  | _ => false

/-- A stage whose condition is CORE. -/
def Stage.isCore : Stage → Bool
  | .heating _ (.core _) _ _ => true
  | _ => false

/-- The limit time a stage carries. -/
def Stage.limit : Stage → Option Nat
  | .heating _ _ l _ => l
  | .prompt l _ => l
  | _ => none

/-- A trip affects a stage (R189). -/
def Trip.affects : Trip → Stage → Bool
  | .boilerDry, .heating r _ _ _ => r.mode.steams
  | _, .heating _ _ _ _ => true
  | _, _ => false

/-- The trip set holds a trip that affects the stage (R189). -/
def TripSet.affects (t : TripSet) (st : Stage) : Bool :=
  (t.cavityOvertemp && Trip.cavityOvertemp.affects st) || (t.boilerDry && Trip.boilerDry.affects st)
    || (t.sensor && Trip.sensor.affects st) || (t.lock && Trip.lock.affects st)

/-- The recipe states (R175). -/
inductive RecipeState
  | idle | running | pausedDoor | waitPrompt | held
  deriving DecidableEq, Repr

/-- The recipe state: the first line of R175 that applies. -/
def recipeState (s : State) : RecipeState :=
  match s.re.running with
  | none => .idle
  | some _ =>
    if (match s.re.context with
        | some c => c.waiting
        | none => false) then .waitPrompt
    else if !s.re.holds.none then .held
    else if doorOpen s then .pausedDoor
    else .running

/-! ### Outputs -/

/-- The output lines other than the gates. The vent actuator is not driven outside a started C40 (R18). -/
structure Outputs where
  fanRelay : Bool
  lamp : Bool
  ventOpen : Option Bool
  fillPump : Bool
  drainPump : Bool
  lockEngage : Bool
  lockRelease : Bool
  deriving DecidableEq, Repr

/-- The fan runs: a request with a mode is held, the power state is ACTIVE and the door is closed (R109). -/
def fanShould (s : State) : Bool := s.cr.request.isSome && s.od.power == .active && !doorOpen s

/-- The level the fan runs at; 0 while it is off (R109, R115). -/
def fanLevel (s : State) : Nat :=
  match s.cr.fanCycle, s.cr.request with
  | some _, some r => r.fan
  | _, _ => 0

/-- The fan relay: on for the first level × 200 ms of each cycle of 1000 ms, so that level 5 is on throughout (R109). -/
def fanRelay (s : State) : Bool :=
  match s.cr.fanCycle with
  | some t => decide (t % 1000 < fanLevel s * 200)
  | none => false

/-- The output lines, each from the state of its owner (R18, R109, R110, R118, R197). -/
def outputs (s : State) : Outputs :=
  if s.run = .running then
    { fanRelay := fanRelay s
      lamp := s.od.power == .active && (s.cr.owner != .none || doorOpen s)
      ventOpen := some s.cr.ventOpen
      fillPump := s.sgc.pumpDrive.isSome
      drainPump := s.sgc.state == .drain && tankSeated s
      lockEngage := s.pu.lock == .locking
      lockRelease := s.pu.lock == .unlocking }
  else
    { fanRelay := false, lamp := false, ventOpen := none, fillPump := false, drainPump := false,
      lockEngage := false, lockRelease := false }

end Sys2Proof.Machine
end

