-- ==== Sys2Proof/Machine/Frames.lean ====
section
/-! DEFINITION. Frames on the line: layouts (§1.2, §3.1), the check code (R4, R5) and the characters a frame is sent
as. -/

namespace Sys2Proof.Machine

/-! ### The check code -/

/-- The data bits of characters in transmission order: bit 0 of the first character first (R4). -/
def bitsOf : List Byte → List Bool
  | [] => []
  | b :: bs => (List.range 8).map b.getLsbD ++ bitsOf bs

/-- A power of two, or 0. -/
def isPow2 (n : Nat) : Bool := n &&& (n - 1) == 0

/-- p(1), p(2), …: the positive integers below 256 that are not powers of two, rising (R4). -/
def dataPositions : List Nat := (List.range 256).filter fun n => !isPow2 n

/-- Check bits 0–7 as one number: check bit k is the exclusive-or of the data bits whose position has bit k set, so
the check bits together are the exclusive-or of the positions of the set data bits (R4). -/
def checkBits : List Bool → List Nat → BitVec 8
  | true :: bs, p :: ps => BitVec.ofNat 8 p ^^^ checkBits bs ps
  | false :: bs, _ :: ps => checkBits bs ps
  | _, _ => 0

/-- The exclusive-or of bits. -/
def parity : List Bool → Bool
  | [] => false
  | b :: bs => b ^^ parity bs

/-- The two check characters of the given header and payload characters (R4). -/
def checkChars (data : List Byte) : List Byte :=
  let bits := bitsOf data
  let c := checkBits bits dataPositions
  [c, if parity bits ^^ parity (bitsOf [c]) then 1 else 0]

/-- The frame's outcome at the check code (R5). -/
inductive CheckOutcome
  | clean (data : List Byte)
  | corrected (data : List Byte) (syndrome : Nat)
  | bad
  deriving DecidableEq, Repr

/-- The characters with data bit `j` (from 0) inverted. -/
def flipBit (data : List Byte) (j : Nat) : List Byte :=
  data.modify (j / 8) fun b => b ^^^ BitVec.twoPow 8 (j % 8)

/-- The length field of header and payload characters (§1.2). -/
def lengthField (data : List Byte) : Nat :=
  match data[2]? with
  | some l => l.toNat
  | none => 0

/-- The table of R5 on the data characters and the two check characters as received; a correction that changes the
length field makes the frame BAD. -/
def checkFrame (data : List Byte) (c0 c1 : Byte) : CheckOutcome :=
  let bits := bitsOf data
  let syndrome := (checkBits bits dataPositions ^^^ c0).toNat
  let badOverall := parity bits ^^ parity (bitsOf [c0]) ^^ c1.getLsbD 0
  if syndrome = 0 then
    if badOverall then .corrected data 0 else .clean data
  else if !badOverall then .bad
  else if isPow2 syndrome then .corrected data syndrome
  else
    let j := dataPositions.idxOf syndrome
    if j < bits.length then
      let fixed := flipBit data j
      if lengthField fixed = lengthField data then .corrected fixed syndrome else .bad
    else .bad

/-! ### Layouts -/

/-- A frame's header and payload, as taken (§1.2). -/
structure Taken where
  kind : BitVec 4
  sender : Addr
  target : Addr
  payload : List Byte
  deriving DecidableEq, Repr

/-- The header fields in their corrected form (R2). -/
def takenOf : List Byte → Taken
  | h1 :: h2 :: _ :: payload =>
    { kind := h1.extractLsb' 4 4, sender := h1.extractLsb' 0 4, target := h2.extractLsb' 0 4, payload }
  | _ => { kind := 0, sender := 0, target := 0, payload := [] }

/-- What a reception gives: the check code's outcome, or the failure of R3. -/
inductive Reception
  | complete (o : CheckOutcome)
  | failed (c : ReceptionFailure)
  deriving DecidableEq, Repr

/-- The end of a frame found from the length field as received (R3). Characters beyond the frame's last belong to no
frame. -/
def receive (chars : List Byte) : Reception :=
  match chars with
  | h1 :: h2 :: l :: rest =>
    if 24 < l.toNat then .failed .lengthAbove24
    else
      match rest.drop l.toNat with
      | c0 :: c1 :: _ => .complete (checkFrame (h1 :: h2 :: l :: rest.take l.toNat) c0 c1)
      | _ => .failed .earlyIdle
  | _ => .failed .earlyIdle

/-- The flag character of a notice (§3.1). -/
def noticeFlags (n : Notice) : Byte :=
  BitVec.ofNat 8 (n.raise.toNat + 2 * n.leave.toNat + 4 * n.asleep.toNat)

/-- The ten payload characters of a notice (§3.1). -/
def noticePayload (n : Notice) : List Byte :=
  [BitVec.ofNat 8 n.cls, noticeFlags n] ++ chars2 n.claim ++ chars2 n.wanted ++ chars2 n.floor ++ [0, 0]

/-- The notice ten payload characters spell; bits the manual ignores are ignored (§3.1). -/
def noticeOf : List Byte → Option Notice
  | [c, f, c0, c1, w0, w1, f0, f1, _, _] =>
    some { cls := (c.extractLsb' 0 2).toNat, raise := f.getLsbD 0, leave := f.getLsbD 1, asleep := f.getLsbD 2,
           claim := (wordOf c0 c1).toNat, wanted := (wordOf w0 w1).toNat, floor := (wordOf f0 f1).toNat }
  | _ => none

/-- The payload of a report, report code included (§2.2). -/
def Report.payload : Report → List Byte
  | .cycle p => p
  | .events es => 5 :: chars2 es.toNat
  | .diag _ _ p => p

/-- The payload of a frame. -/
def Body.payload : Body → List Byte
  | .notice n => noticePayload n
  | .report r => r.payload

/-- Kind and target of a frame the C40 sends (R2). -/
def Body.header (c : ConfigCopy) : Body → BitVec 4 × Addr
  | .notice _ => (1, 0)
  | .report _ => (3, c.console)

/-- The characters a frame is sent as: header, payload and check characters (R2, R4). -/
def frameChars (c : ConfigCopy) (b : Body) : List Byte :=
  let (kind, target) := b.header c
  let data := (kind ++ c.own : Byte) :: ((0#4 ++ target : Byte)) :: BitVec.ofNat 8 b.payload.length :: b.payload
  data ++ checkChars data

/-- The code of a refusal reason (§2.2). -/
def Reason.code : Reason → Nat
  | .malformed => 1 | .notConsole => 2 | .asleep => 3 | .recipeActive => 4 | .descaling => 5 | .lockout => 6
  | .slotBusy => 7 | .queueTaken => 8 | .slotState => 9 | .missingStages => 10 | .badProgram => 11
  | .stalePrompt => 12 | .peerFresh => 13 | .tripped => 14 | .conditionPresent => 15 | .notNow => 16
  | .rinseRequired => 17

/-- The confirmation character (§1.2). -/
def Confirmation.char : Confirmation → Byte
  | .accept => 0x20
  | .busy => 0x40
  | .refuse r => BitVec.ofNat 8 (128 + r.code)

/-! ### The configuration record -/

/-- The sum of characters (§1.2). -/
def byteSum (bytes : List Byte) : Nat := (bytes.map BitVec.toNat).sum

/-- The configuration copy of a record, if the record is valid: its sum is 0 modulo 256 and every field is in its
range (§1.2, R17). -/
def configOf (bytes : List Byte) : Option ConfigCopy :=
  match bytes with
  | [own, con, cls, b0, b1, aux, f0, f1, g0, g1, t0, t1, m0, m1, r0, r1, hard, _] =>
    let budget := (wordOf b0 b1).toNat
    let floor := (wordOf f0 f1).toNat
    let steam := (wordOf g0 g1).toNat
    let top := (wordOf t0 t1).toNat
    let bottom := (wordOf m0 m1).toNat
    let ring := (wordOf r0 r1).toNat
    if byteSum bytes % 256 = 0
        ∧ 1 ≤ own.toNat ∧ own.toNat ≤ 15 ∧ 1 ≤ con.toNat ∧ con.toNat ≤ 15 ∧ con ≠ own ∧ cls.toNat ≤ 3
        ∧ 100 ≤ budget ∧ budget ≤ 1100 ∧ aux.toNat ≤ 50 ∧ floor ≤ 400
        ∧ 80 ≤ steam ∧ steam ≤ 300 ∧ 50 ≤ top ∧ top ≤ 300 ∧ 50 ≤ bottom ∧ bottom ≤ 300
        ∧ 50 ≤ ring ∧ ring ≤ 300 ∧ hard.toNat ≤ 40 then
      some { own := own.setWidth 4, console := con.setWidth 4, cls := cls.toNat, budget, aux := aux.toNat, floor,
             steamRating := steam, topRating := top, bottomRating := bottom, ringRating := ring,
             hardness := hard.toNat }
    else none
  | _ => none

/-! ### The retained record -/

/-- The mark of its code (§2.2). -/
def markOf : Nat → Option Mark
  | 0 => some .none
  | 1 => some .agentIn
  | 2 => some .rinseNeeded
  | _ => none

def Mark.code : Mark → Nat
  | .none => 0
  | .agentIn => 1
  | .rinseNeeded => 2

/-- The account, hardness and mark of a retained record, if it is valid (R140). -/
def readRecord (r : StoredRecord) : Option (Nat × Nat × Mark) :=
  match markOf r.mark with
  | some m => if r.sumOk ∧ r.account ≤ 400000 ∧ r.hardness ≤ 40 then some (r.account, r.hardness, m) else none
  | none => none

/-- The record a write forms from the values held; its check byte makes the sum 0 (R143). -/
def recordOf (d : Scale) : StoredRecord :=
  { account := d.account, hardness := d.hardness, mark := d.mark.code, sumOk := true }

end Sys2Proof.Machine
end

