-- ==== Sys2Proof/Machine/Ops.lean ====
section
/-! DEFINITION. The named operations over the shared state: the transmit queue (R9, R10), the pending event set (R36,
R38), the load list's demands (R64, R68), the retained write (R142, R143) and the hold reasons that other blocks move
(R187, R189). -/

namespace Sys2Proof.Machine

/-! ### Link counters (R14) -/

def countClean (s : State) : State := { s with link.counters.clean := bump s.link.counters.clean }

def countCorrected (s : State) : State := { s with link.counters.corrected := bump s.link.counters.corrected }

def countBad (s : State) : State := { s with link.counters.bad := bump s.link.counters.bad }

def countForeign (s : State) : State := { s with link.counters.foreign := bump s.link.counters.foreign }

def countCollision (s : State) : State := { s with link.counters.collisions := bump s.link.counters.collisions }

def countDropped (s : State) : State := { s with link.counters.dropped := bump s.link.counters.dropped }

/-! ### The transmit queue -/

/-- A frame as it is offered: no collision, no backoff owed (R7). -/
def Frame.fresh (b : Body) : Frame := { body := b, collisions := 0, backoff := 0, abandoned := false }

def Frame.isNotice (f : Frame) : Bool :=
  match f.body with
  | .notice _ => true
  | .report _ => false

/-- A RAISE notice whose raise has not been abandoned (R54). -/
def Frame.isRaise (f : Frame) : Bool :=
  match f.body with
  | .notice n => n.raise && !f.abandoned
  | .report _ => false

/-- A LEAVE notice (R57). -/
def Frame.isLeave (f : Frame) : Bool :=
  match f.body with
  | .notice n => n.leave
  | .report _ => false

/-- The access wait in slots: 0 for a notice whose RAISE flag is set, 2 for every other frame (R7). -/
def Frame.accessWait (f : Frame) : Nat :=
  match f.body with
  | .notice n => if n.raise then 0 else 2
  | .report _ => 2

/-- The frame that is on the line or awaiting its confirmation, if any, stays first (R9). -/
def fixedPart (l : LinkUnit) : List Frame := if l.tx = .idle then [] else l.queue.take 1

/-- The rest of the queue (R9). -/
def waitingPart (l : LinkUnit) : List Frame := if l.tx = .idle then l.queue else l.queue.drop 1

/-- A new NOTICE goes behind the NOTICEs already queued and ahead of every REPORT; a new REPORT to the back (R9). A REPORT
in backoff stands ahead of the NOTICEs queued while it was on the line, and gives up that place, to all the NOTICEs, when
the next NOTICE is put in (notes/assumptions/10). -/
def insertFrame (f : Frame) (q : List Frame) : List Frame :=
  if f.isNotice then q.filter Frame.isNotice ++ f :: q.filter fun g => !g.isNotice else q ++ [f]

/-- The queue takes an offered frame: it is not full, or a REPORT that waits can be displaced (R10). -/
def queueTakes (l : LinkUnit) : Bool := l.queue.length < 4 || (waitingPart l).any fun f => !f.isNotice

/-- The queue without its oldest waiting REPORT (R10). -/
def displace (l : LinkUnit) : List Frame := (waitingPart l).eraseP fun f => !f.isNotice

/-- A frame is offered to the transmit queue (R9, R10). A displaced REPORT and a frame not taken are counted as dropped
transmissions; the caller learns from `queueTakes` whether the frame is taken. -/
def offer (b : Body) (s : State) : State :=
  let l := s.link
  if l.queue.length < 4 then
    { s with link.queue := fixedPart l ++ insertFrame (.fresh b) (waitingPart l) }
  else if (waitingPart l).any fun f => !f.isNotice then
    countDropped { s with link.queue := fixedPart l ++ insertFrame (.fresh b) (displace l) }
  else countDropped s

/-! ### The pending event set -/

/-- An event is raised (R38). The EVENTS report it may start is built by `serviceEvents` at the end of the command,
since no report is built within one event (R179; notes/assumptions/7). -/
def raise (e : Event) (s : State) : State := { s with od.events := s.od.events ||| e.mask }

/-- Whenever the set is non-empty and the events timer stopped, an EVENTS report is built from the set as it stands and
offered, and the timer starts (R36). It waits for a restart owed to the link unit, so that it enters the emptied
queue (R19). -/
def serviceEvents (s : State) : State :=
  if s.od.events ≠ 0 ∧ s.od.eventsTimer = none ∧ s.link.restartOwed = false then
    offer (.report (.events s.od.events)) { s with od.eventsTimer := some 0 }
  else s

/-! ### Demands -/

/-- A demand is written (R64); while the drive is not RUNNING the power-limited flag follows it at once (R68). -/
def writeDemand (i : LoadId) (d : Nat) (s : State) : State :=
  let l := s.lpd.loads.get i
  let l' := { l with demand := d, limited := if driveInactive s then decide (0 < d) else l.limited }
  { s with lpd.loads := s.lpd.loads.set i l' }

/-- The demands of TOP, BOTTOM and RING. -/
def writeElements (top bottom ring : Nat) (s : State) : State :=
  writeDemand .ring ring (writeDemand .bottom bottom (writeDemand .top top s))

/-! ### The retained write -/

/-- A write begins: it takes the values as they stand and clears rewrite-pending (R143). -/
def beginWrite (s : State) : State :=
  { s with sdu.writing := some (recordOf s.sdu), sdu.writeTimer := 0, sdu.rewritePending := false }

/-- A retained write is requested: in IDLE it begins at once, in WRITING it sets rewrite-pending (R143). -/
def requestWrite (s : State) : State :=
  if s.sdu.writing = none then beginWrite s else { s with sdu.rewritePending := true }

/-- The retained mark is set; a change of it requests a retained write (R142). DESIGN CHOICE (notes/assumptions/49): it does
so also where COOL was entered in the same command, by a second request. -/
def setMark (m : Mark) (s : State) : State :=
  if s.sdu.mark = m then s else requestWrite { s with sdu.mark := m }

/-! ### Hold reasons moved by other blocks -/

/-- POWER joins or leaves with the starved state while a slot is RUNNING (R187). -/
def holdPower (b : Bool) (s : State) : State :=
  if s.re.running = none then s else { s with re.holds.power := b }

/-- WATER joins as the steam generator becomes WAIT_WATER during a STEAM or COMBI stage, and leaves as it becomes STEAM
(R187). -/
def holdWater (st : BoilerState) (s : State) : State :=
  match st with
  | .waitWater =>
    match currentStage s with
    | some g => if g.steams then { s with re.holds.water := true } else s
    | none => s
  | .steam => { s with re.holds.water := false }
  | _ => s

/-- TRIP joins as a trip that affects the stage in progress is added (R189). -/
def holdTrip (k : Trip) (s : State) : State :=
  match currentStage s with
  | some g => if k.affects g then { s with re.holds.trip := true } else s
  | none => s

end Sys2Proof.Machine
end

