-- ==== Sys2Proof/Machine/BoilerOps.lean ====
section
/-! DEFINITION. The steam generator controller (chapter 7): the boiler's states, its pumps, its heater demand while it
serves the climate, and metering. -/

namespace Sys2Proof.Machine

/-! ### The heater demand (R121) -/

/-- The base demand of the boiler state (R121). -/
def baseDemand (s : State) : Nat :=
  match s.sgc.state with
  | .fill => if lowWet s then 1000 else 0
  | .heat => 1000
  | .steam => s.sgc.steamDemand
  | .refill => if lowWet s then s.sgc.steamDemand else 0
  | .off | .waitWater | .cool | .drain | .dryFault => 0

/-- The demand written under the user CLIMATE: at most 600 under the derate signal, 0 while the boiler value is INVALID
(R121). -/
def heaterDemand (s : State) : Nat :=
  if (boilerValue s).isValue then if s.sgc.derate then min (baseDemand s) 600 else baseDemand s else 0

/-- The steam generator controller writes the STEAM_HEATER demand, while the user is CLIMATE (R119, R121). -/
def writeHeater (s : State) : State :=
  if s.sgc.user = .climate then writeDemand .steamHeater (heaterDemand s) s else s

/-! ### A change of state -/

/-- The event of an entry to WAIT_WATER: TANK_EMPTY for the climate (R127) and in a rinse (R151), DESCALE_WAIT_USER in
the agent phases (R149). -/
def waitWaterEvent (s : State) : State :=
  if s.sgc.user = .climate then raise .tankEmpty s
  else
    match s.sdu.phase with
    | .soakFill | .soakHeat | .soak => raise .descaleWaitUser s
    | .rinse => raise .tankEmpty s
    | _ => s

/-- The boiler state changes: the recipe's WATER hold follows it (R187) and the heater demand is written again (R121). -/
def becomeBoiler (st : BoilerState) (s : State) : State :=
  let s1 := { s with sgc.state := st }
  let s2 := if st = .waitWater then waitWaterEvent s1 else s1
  writeHeater (holdWater st s2)

/-- WAIT_WATER is entered, marked where the fill limit sent it there; a tank ready at an unmarked entry starts the wait
at once (R127). -/
def enterWaitWater (marked : Bool) (s : State) : State :=
  becomeBoiler .waitWater
    { s with sgc.pulseTimer := none, sgc.limitMark := marked,
             sgc.wait := if marked = false ∧ tankReady s = true then some 0 else none }

/-- A fill pulse is given: counted, metered while the user is CLIMATE (R118, R134, R137); the 300th sends the boiler to
WAIT_WATER by fill limit (R123, R126). -/
def givePulse (s : State) : State :=
  let metered := if s.sgc.user = .climate then 2 * s.sdu.hardness else 0
  let s1 := { s with sgc.pulses := s.sgc.pulses + 1, sgc.pulseTimer := some 0, sgc.pumpDrive := some 0,
                     sdu.meteringSum := s.sdu.meteringSum + metered }
  if 300 ≤ s1.sgc.pulses then enterWaitWater true s1 else s1

/-- The three conditions of R118. -/
def pumpMay (s : State) : Bool :=
  (s.sgc.state == .fill || s.sgc.state == .refill) && tankReady s && !boilerFull s

/-- The first pulse is given at the moment the three conditions begin to hold together (R118). -/
def judgePump (s : State) : State :=
  if pumpMay s then if s.sgc.pulseTimer = none then givePulse s else s
  else { s with sgc.pulseTimer := none }

/-- FILL or REFILL is entered with the boiler not full: WAIT_WATER where the tank is not ready, else the first pulse
(R123, R126). -/
def startFill (st : BoilerState) (s : State) : State :=
  let s1 := { s with sgc.pulses := 0, sgc.pulseTimer := none }
  if tankReady s then judgePump (becomeBoiler st s1) else enterWaitWater false s1

/-- STEAM is entered (R125). -/
def enterSteam (s : State) : State := becomeBoiler .steam { s with sgc.pulseTimer := none }

/-- HEAT is entered and judged: a dry low electrode sends it to FILL, a boiler at 98.0 °C under the user CLIMATE to STEAM
(R124). -/
def enterHeat (s : State) : State :=
  let s1 := becomeBoiler .heat { s with sgc.pulseTimer := none }
  if lowWet s then
    if s.sgc.user = .climate ∧ (boilerValue s).atLeast 980 = true then enterSteam s1 else s1
  else startFill .fill s1

/-- FILL is entered (R123): a boiler already full passes to HEAT without a pulse. -/
def enterFill (s : State) : State :=
  let s1 := { s with sgc.wait := none, sgc.limitMark := false, sgc.drainCount := 0, sgc.coolTime := 0 }
  if boilerFull s then enterHeat { s1 with sgc.pulses := 0 } else startFill .fill s1

/-- FILL, REFILL or WAIT_WATER is left: no further pulse is given, and the wait and mark of WAIT_WATER end with it. The
fill pulse count stays at its value, and a pulse that has begun is completed (R118, notes/assumptions/41). -/
def stopFill (s : State) : State := { s with sgc.pulseTimer := none, sgc.wait := none, sgc.limitMark := false }

/-- The pump stops, and the fill pulse count and the WAIT_WATER wait and mark are discarded (R128, R131). -/
def discardFill (s : State) : State := { stopFill s with sgc.pulses := 0 }

/-- COOL is entered: the COOL time starts at 0 and the scale and descale unit is told, which requests a retained write
(R129, R142). DESIGN CHOICE (notes/assumptions/49): a mark that changes in the same command makes a request of its own. -/
def enterCool (s : State) : State :=
  requestWrite (becomeBoiler .cool { discardFill s with sgc.coolTime := 0 })

/-- DRAIN is entered with a drain count of 0 (R130); a fill in progress ends and leaves its count (R118, R133). -/
def enterDrain (s : State) : State :=
  becomeBoiler .drain { stopFill s with sgc.drainCount := 0, sgc.coolTime := 0 }

/-- OFF is entered; steam already wanted under the user CLIMATE makes it FILL (R122). -/
def enterOff (s : State) : State :=
  let s1 := becomeBoiler .off { s with sgc.drainCount := 0 }
  if s.sgc.user = .climate ∧ s.sgc.steamWanted = true then enterFill s1 else s1

/-- DRY_FAULT is entered, under either user (R131). -/
def enterDryFault (s : State) : State :=
  if s.sgc.state = .dryFault then s
  else becomeBoiler .dryFault { discardFill s with sgc.coolTime := 0, sgc.drainCount := 0 }

/-! ### Steam wanted (R120, R122, R128 to R130) -/

/-- A steam demand is handed over: kept, and the heater demand written (R120, R121). -/
def handSteamDemand (d : Nat) (s : State) : State := writeHeater { s with sgc.steamDemand := d }

/-- Steam is wanted from now on, under the user CLIMATE: OFF fills, COOL goes on by level and temperature, a drain is
abandoned (R122, R129, R130). -/
def startSteam (s : State) : State :=
  match s.sgc.state with
  | .off | .drain => enterFill s
  | .cool =>
    if lowWet s then
      if (boilerValue s).atLeast 980 then enterSteam { s with sgc.coolTime := 0 }
      else enterHeat { s with sgc.coolTime := 0 }
    else enterFill s
  | _ => s

/-- Steam is no longer wanted, under the user CLIMATE (R128). -/
def stopSteam (s : State) : State :=
  match s.sgc.state with
  | .fill | .heat | .steam | .refill | .waitWater => enterCool s
  | _ => s

/-- Steam wanted is handed on when it changes (R108, R120); while the user is DESCALE it is kept and moves nothing
(R119). -/
def setSteamWanted (w : Bool) (s : State) : State :=
  if s.sgc.steamWanted = w then s
  else
    let s1 := { s with sgc.steamWanted := w }
    if s.sgc.user = .climate then if w then startSteam s1 else stopSteam s1 else s1

/-- The climate regulator judges steam wanted; with steam not wanted the steam demand is 0 (R108, R113). -/
def judgeSteam (s : State) : State :=
  if steamShould s then setSteamWanted true s
  else setSteamWanted false (if s.sgc.steamDemand = 0 then s else handSteamDemand 0 s)

/-! ### Cooling (R129) -/

/-- COOL leaves for DRAIN under the user CLIMATE in ACTIVE or WIND_DOWN, below 70.0 °C or at the end of the COOL time. -/
def judgeCool (s : State) : State :=
  if s.sgc.state = .cool ∧ s.sgc.user = .climate ∧ s.od.power ≠ .standby
      ∧ ((boilerValue s).below 700 = true ∨ 1800000 ≤ s.sgc.coolTime) then enterDrain s
  else s

/-! ### The publication (R117, R123 to R127, R131, R136) -/

/-- The WAIT_WATER wait and mark at a publication (R127). -/
def judgeWait (s : State) : State :=
  if tankReady s then
    if s.sgc.limitMark = false ∧ s.sgc.wait = none then { s with sgc.wait := some 0 } else s
  else { s with sgc.wait := none, sgc.limitMark := false }

/-- The steam generator controller at a publication; `firstLow` says that LEVEL_LOW is published for the first time since
a reset (R136). Where two rows of a state's table are met at one publication, the model takes the level of the boiler
before the tank and before the validity of the boiler value, which it judges as it stands (notes/assumptions/40). -/
def boilerPublication (firstLow : Bool) (s : State) : State :=
  if s.sgc.state ≠ .dryFault ∧ (boilerValue s).above 1600 = true then enterDryFault s
  else
    match s.sgc.state with
    | .off => if firstLow = true ∧ lowWet s = true then enterCool s else s
    | .fill =>
      if boilerFull s then enterHeat s
      else if tankReady s then judgePump (writeHeater s)
      else enterWaitWater false s
    | .heat =>
      if lowWet s then
        if s.sgc.user = .climate ∧ (boilerValue s).atLeast 980 = true then enterSteam s else writeHeater s
      else enterFill s
    | .steam =>
      if lowWet s then if (boilerValue s).isValue then writeHeater s else enterHeat s
      else startFill .refill s
    | .refill =>
      if boilerFull s then enterSteam s
      else if tankReady s then judgePump (writeHeater s)
      else enterWaitWater false s
    | .waitWater => judgeWait (writeHeater s)
    | .cool => judgeCool (writeHeater s)
    | .drain | .dryFault => writeHeater s

/-! ### The requests of the scale and descale unit (R132, R133) -/

/-- The FILL request (R132). -/
def requestFill (s : State) : State :=
  match s.sgc.state with
  | .off | .cool | .drain => enterFill s
  | _ => s

/-- The DRAIN request (R133). -/
def requestDrain (s : State) : State :=
  match s.sgc.state with
  | .off | .fill | .heat | .waitWater | .cool => enterDrain s
  | _ => s

/-- The boiler user is taken: heater demand 0, the state kept (R119). -/
def takeUser (s : State) : State := writeDemand .steamHeater 0 { s with sgc.user := .descale }

/-- The boiler user is returned: the climate rules go on from the state it is in, and a boiler that steam is not wanted
from goes to COOL (R119, R128). -/
def returnUser (s : State) : State :=
  let s1 := writeHeater { s with sgc.user := .climate }
  if s.sgc.steamWanted then s1 else stopSteam s1

end Sys2Proof.Machine
end

