-- ==== Sys2Proof/Machine/Supply.lean ====
section
/-! DEFINITION. The supply sharing unit's operations (chapter 3): the allowance, the claim, the raise protocol and the
starved state. -/

namespace Sys2Proof.Machine

/-! ### The peer table -/

/-- Where the entry of a station address stands; address 0 has none (§3.2). -/
def peerIndex (a : Addr) : Option (Fin 15) :=
  if h : 1 ≤ a.toNat then some ⟨a.toNat - 1, by have := a.isLt; omega⟩ else none

/-- The counted claim, wanted and floor of an entry, with its class (R43). -/
def PeerEntry.counted : PeerEntry → Option PeerValues
  | .empty => none
  | .fresh v _ => some { v with floor := min v.floor v.wanted }
  | .stale v =>
    some { v with claim := max v.claim v.wanted, wanted := max v.claim v.wanted, floor := min v.floor v.wanted }

/-- The counted values of all FRESH and STALE entries (R43). -/
def countedPeers (s : State) : List PeerValues := s.ssu.peers.toList.filterMap PeerEntry.counted

/-- The entry a notice makes (R42). -/
def PeerEntry.ofNotice (n : Notice) : PeerEntry :=
  if n.leave then .empty
  else if n.asleep then .fresh { cls := n.cls, claim := 0, wanted := 0, floor := 0 } 0
  else .fresh { cls := n.cls, claim := n.claim, wanted := n.wanted, floor := n.floor } 0

def setPeer (i : Fin 15) (e : PeerEntry) (s : State) : State := { s with ssu.peers := s.ssu.peers.set i e }

/-! ### The allowance (R46 to R48) -/

/-- The weight of a class: 8, 4, 2, 1 for classes 0 to 3 (R47). -/
def classWeight (c : Nat) : Nat := 8 / 2 ^ c

/-- A load's share of the own wanted value: ceil(demand × rating / 1000) (R46). -/
def loadWanted (s : State) (i : LoadId) : Nat := ceilDiv ((s.lpd.loads.get i).demand * rating s.config i) 1000

/-- W, the own wanted value (R46). -/
def ownWanted (s : State) : Nat :=
  if s.od.power = .standby then 0
  else s.config.aux + loadWanted s .steamHeater + loadWanted s .top + loadWanted s .bottom + loadWanted s .ring

/-- Fo, the floor in effect (R46). -/
def floorInEffect (s : State) : Nat := if hasWork s then min s.config.floor (ownWanted s) else 0

/-- O, the sum of the counted claims (R46). -/
def othersClaim (s : State) : Nat := ((countedPeers s).map PeerValues.claim).sum

/-- H, the headroom the others' claims leave (R46). -/
def headroom (s : State) : Nat := s.config.budget - othersClaim s

/-- D, the counted wanted values and W together (R47). -/
def totalWanted (s : State) : Nat := ((countedPeers s).map PeerValues.wanted).sum + ownWanted s

/-- There is contention: D > B (R47). -/
def inContention (s : State) : Bool := s.config.budget < totalWanted s

/-- Fs, the counted floors and Fo together (R47). -/
def totalFloor (s : State) : Nat := ((countedPeers s).map PeerValues.floor).sum + floorInEffect s

/-- ws, the weights of those whose wanted is above their floor (R47). -/
def weightSum (s : State) : Nat :=
  (((countedPeers s).filter fun v => v.floor < v.wanted).map fun v => classWeight v.cls).sum
    + if floorInEffect s < ownWanted s then classWeight s.config.cls else 0

/-- T, the target (R47). -/
def target (s : State) : Nat :=
  let b := s.config.budget
  let w := ownWanted s
  let fo := floorInEffect s
  if inContention s then
    if b ≤ totalFloor s then fo * b / totalFloor s
    else if fo < w then min w (fo + (b - totalFloor s) * classWeight s.config.cls / weightSum s)
    else min w fo
  else w

/-- A, the allowance (R48). -/
def allowance (s : State) : Nat :=
  if s.od.power = .standby then 0 else max (min (target s) (headroom s)) s.config.aux

/-! ### The starved state (R60) -/

/-- The starved state is left: both timers stop and a running recipe loses POWER (R60, R187). -/
def leaveStarved (s : State) : State :=
  holdPower false { s with ssu.starved := false, ssu.entryTimer := none, ssu.exitTimer := none }

/-- Starved is left at once when the oven has no more work or the power state leaves ACTIVE (R60). -/
def leaveStarvedWithoutWork (s : State) : State :=
  if s.ssu.starved = true ∧ hasWork s = false then leaveStarved s else s

/-- The starved condition is evaluated (R60). -/
def evalStarved (s : State) : State :=
  if s.ssu.starved then
    if hasWork s = false then leaveStarved s
    else if s.ssu.claim < s.ssu.lastFo then { s with ssu.exitTimer := none }
    else if s.ssu.exitTimer = none then { s with ssu.exitTimer := some 0 }
    else s
  else if hasWork s = true ∧ s.ssu.claim < s.ssu.lastFo then
    if s.ssu.entryTimer = none then { s with ssu.entryTimer := some 0 } else s
  else { s with ssu.entryTimer := none }

/-- The allowance is computed and recorded, and the starved condition evaluated (R48, R60). -/
def recordAllowance (s : State) : State :=
  evalStarved { s with ssu.lastA := allowance s, ssu.lastW := ownWanted s, ssu.lastFo := floorInEffect s,
                       ssu.contention := inContention s }

/-! ### Notices -/

/-- The notice the C40 offers in the ordinary case, carrying the claim `c` (R41). -/
def ordinaryNotice (s : State) (c : Nat) : Notice :=
  if s.od.power = .standby then
    { cls := s.config.cls, raise := false, leave := false, asleep := true, claim := 0, wanted := 0, floor := 0 }
  else
    { cls := s.config.cls, raise := false, leave := false, asleep := false, claim := c, wanted := s.ssu.lastW,
      floor := s.ssu.lastFo }

/-- The LEAVE notice (R41, R57). -/
def leaveNotice (s : State) : Notice :=
  { cls := s.config.cls, raise := false, leave := true, asleep := false, claim := 0, wanted := 0, floor := 0 }

/-- The RAISE notice carrying the raise value A (R41, R53). -/
def raiseNotice (s : State) : Notice :=
  { cls := s.config.cls, raise := true, leave := false, asleep := false, claim := s.ssu.lastA,
    wanted := s.ssu.lastW, floor := s.ssu.lastFo }

/-- A notice is offered and its claim becomes the announced claim (R41). None is offered while a restart is pending
(R57) or during listen-in (R59). -/
def offerNotice (c : Nat) (s : State) : State :=
  if s.od.restartPending = true ∨ s.ssu.listenIn ≠ none then s
  else
    let n := ordinaryNotice s c
    offer (.notice n) { s with ssu.announced := n.claim }

/-! ### The raise protocol (R53 to R55) -/

/-- The raise condition (R53). -/
def raiseDue (s : State) : Bool :=
  s.ssu.claim + 5 ≤ s.ssu.lastA && s.ssu.raise == .none && s.od.power != .standby && !s.od.restartPending

/-- A RAISE that leaves the queue unsent ends the raise and returns Ca to the pre-raise value (R54). -/
def raiseDropped (s : State) : State :=
  match s.ssu.raise with
  | .queued pre => { s with ssu.raise := .none, ssu.announced := pre }
  | _ => s

/-- A RAISE that has been sent starts the raise hold (R54). -/
def raiseSent (s : State) : State :=
  match s.ssu.raise with
  | .queued pre => { s with ssu.raise := .holding pre 0 }
  | _ => s

/-- A raise is started when its condition holds: Ca is set to A and a RAISE notice is offered; one the queue does not
take ends the raise at once (R53, R54). -/
def startRaise (s : State) : State :=
  if raiseDue s then
    let s1 := { s with ssu.raise := .queued s.ssu.announced, ssu.announced := s.ssu.lastA }
    let s2 := offer (.notice (raiseNotice s)) s1
    if queueTakes s.link then s2 else raiseDropped s2
  else s

/-- A raise in progress is abandoned: a RAISE notice still queued is sent or dropped in its turn without effect
(R54, R56, R57). -/
def abandonRaise (s : State) : State :=
  { s with ssu.raise := .none, link.queue := s.link.queue.map fun f => if f.isRaise then { f with abandoned := true } else f }

/-- An allowance computation, followed by the starved and raise conditions (R46, R48, R53). -/
def compute (s : State) : State := startRaise (recordAllowance s)

/-! ### The claim point (R50, R51) -/

/-- C changes, and the starved condition is evaluated (R60). -/
def changeClaim (c : Nat) (s : State) : State := evalStarved { s with ssu.claim := c }

/-- Step 2: a raised value that waits takes force and the raise ends. -/
def takeRaised (s : State) : State :=
  match s.ssu.raise with
  | .waiting _ r => changeClaim r { s with ssu.raise := .none }
  | _ => s

/-- Step 3: if A < C, C becomes A. -/
def lowerClaim (s : State) : State := if s.ssu.lastA < s.ssu.claim then changeClaim s.ssu.lastA s else s

/-- A raised value waits (R55). -/
def raiseWaits (s : State) : Bool :=
  match s.ssu.raise with
  | .waiting _ _ => true
  | _ => false

/-- Step 4: the notice of R51. `ended` says that step 2 ended a raise, `before` is C before step 3. -/
def claimNotice (ended : Bool) (before : Nat) (s : State) : State :=
  if (ended = true ∧ s.ssu.claim < s.ssu.announced)
      ∨ (s.ssu.raise = .none ∧ s.ssu.claim + 20 ≤ before) then
    offerNotice s.ssu.claim s
  else s

/-- A claim point, steps 1 to 5 of R50. -/
def claimPoint (s : State) : State :=
  let s1 := recordAllowance s
  let s2 := takeRaised s1
  claimNotice (raiseWaits s1) s2.ssu.claim (lowerClaim s2)

end Sys2Proof.Machine
end

