-- ==== Sys2Proof/Machine/ClimateOps.lean ====
section
/-! DEFINITION. The climate regulator (chapter 6): the mode table, writing and ending the request, the fan and vent, and
the regulator step. -/

namespace Sys2Proof.Machine

/-! ### The mode table (R98, R99) -/

/-- The lowest cavity setpoint, in 0.1 °C. -/
def Mode.low : Mode → Int
  | .convection | .topBottom | .grill => 300
  | .steam => 350
  | .combi => 500
  | .keepWarm => 400

/-- The highest cavity setpoint, in 0.1 °C. -/
def Mode.high : Mode → Int
  | .convection | .topBottom => 2500
  | .grill => 2750
  | .steam => 1000
  | .combi => 2300
  | .keepWarm => 900

/-- Temperature Kp, in 1/256. -/
def Mode.kp : Mode → Int
  | .convection | .combi => 1280
  | .topBottom => 1536
  | .grill | .keepWarm => 1024
  | .steam => 2560

/-- Temperature Ki, in 1/256. -/
def Mode.ki : Mode → Int
  | .convection | .combi => 16
  | .topBottom => 12
  | .grill | .keepWarm => 8
  | .steam => 32

/-- The share, in percent, of the temperature output that a load of the elements takes. -/
def Mode.split : Mode → LoadId → Nat
  | .convection, .ring | .combi, .ring | .grill, .top | .keepWarm, .bottom => 100
  | .topBottom, .top => 55
  | .topBottom, .bottom => 45
  | _, _ => 0

/-- The own loads of the temperature regulator (R99). -/
def Mode.owns : Mode → LoadId → Bool
  | .convection, .ring | .combi, .ring | .grill, .top | .keepWarm, .bottom => true
  | .topBottom, .top | .topBottom, .bottom => true
  | .steam, .steamHeater => true
  | _, _ => false

/-- The mode of its code (§2.2). -/
def modeOf : Nat → Option Mode
  | 1 => some .convection
  | 2 => some .topBottom
  | 3 => some .grill
  | 4 => some .steam
  | 5 => some .combi
  | 6 => some .keepWarm
  | _ => none

/-- A cavity setpoint brought into its mode's range (R98). -/
def clampCavity (m : Mode) (v : Int) : Int := clampInt m.low m.high v

/-- A humidity setpoint brought into its range (R98). -/
def clampHumidity (v : Nat) : Nat := clampNat 200 900 v

/-! ### Fan and vent -/

/-- The vent position of a request, judged from the published humidity (R110). -/
def ventFor (r : Option Request) (hum : Reading) : Bool :=
  match r with
  | none => true
  | some q =>
    match q.mode with
    | .convection | .topBottom | .grill | .keepWarm => true
    | .steam => false
    | .combi =>
      match hum with
      | .value v => decide (((q.humidity.getD 0 + 100 : Nat) : Int) < v)
      | _ => true

/-- The vent takes the position of the request as it stands (R110). -/
def judgeVent (s : State) : State := { s with cr.ventOpen := ventFor s.cr.request s.mu.hum.value }

/-- The fan starts a new cycle when it begins to run and is off at once when it may not (R109). -/
def refreshFan (s : State) : State :=
  if fanShould s then
    if s.cr.fanCycle = none then { s with cr.fanCycle := some 0 } else s
  else { s with cr.fanCycle := none }

/-! ### Writing and ending the request (R97, R100, R112, R113) -/

/-- A context at rest: e = 0, I = 0, u = 0, the hold counter kept (R100). -/
def RegContext.rest (c : RegContext) : RegContext := { c with error := 0, integrator := 0, output := 0 }

/-- Both contexts are set to rest, demand 0 is written to TOP, BOTTOM and RING and steam demand 0 handed over (R100,
R112). -/
def restRegulators (s : State) : State :=
  handSteamDemand 0 (writeElements 0 0 0
    { s with cr.temperature := s.cr.temperature.rest, cr.humidity := s.cr.humidity.rest })

/-- The request is written, every field at once: the same mode keeps the contexts, another sets them to rest; steam
wanted, fan and vent follow (R97, R100, R108 to R110). -/
def writeRequest (o : Owner) (r : Request) (s : State) : State :=
  let kept := s.cr.request.map Request.mode = some r.mode
  let s1 := { s with cr.owner := o, cr.request := some r }
  refreshFan (judgeVent (judgeSteam (if kept then s1 else restRegulators s1)))

/-- The request loses its mode, and its owner becomes `o` (R112, R113). -/
def dropRequest (o : Owner) (s : State) : State :=
  let s1 := { s with cr.owner := o, cr.request := none }
  leaveStarvedWithoutWork (refreshFan (judgeVent (judgeSteam (restRegulators s1))))

/-- The request ends; an end with no request held changes nothing (R112). -/
def endRequest (s : State) : State := if s.cr.owner = .none then s else dropRequest .none s

/-- The recipe engine writes the request with owner RECIPE and no mode (R178), or a trip takes its mode (R113). -/
def holdWithoutMode (s : State) : State := dropRequest .recipe s

/-- CAVITY_OVERTEMP or SENSOR enters the trip set (R113). -/
def climateTripped (s : State) : State :=
  match s.cr.owner with
  | .none => s
  | .manual => endRequest s
  | .recipe => if s.cr.request = none then s else holdWithoutMode s

/-! ### The regulator step (R101 to R108) -/

/-- What one regulator takes at a step (R101). -/
structure StepInput where
  setpoint : Int
  /-- none is INVALID -/
  measured : Option Int
  kp : Int
  ki : Int
  /-- the power-limited flag of any of its own loads is set -/
  limited : Bool
  doorOpen : Bool
  starved : Bool
  /-- it is the steam regulator and the steam generator state is not STEAM -/
  noSteam : Bool

/-- The error, clamped to ±500 (R102). -/
def regError (setpoint measured : Int) : Int := clampInt (-500) 500 (setpoint - measured)

/-- The proportional term, rounded toward minus infinity (R102). -/
def proportional (kp e : Int) : Int := kp * e / 256

/-- The integrator is held at this step (R103). -/
def regHeld (x : StepInput) (last : Nat) (e : Int) : Bool :=
  (last == 1000 && 0 < e) || (last == 0 && e < 0) || (0 < e && x.limited) || x.doorOpen
    || (0 < e && x.starved) || (x.noSteam && 0 < e)

/-- The output of a proportional term and an integrator (R105). -/
def regOutput (p : Int) (i : Nat) : Nat := (clampInt 0 1000 (p + ((i / 256 : Nat) : Int))).toNat

/-- One step of one regulator (R102 to R106). -/
def regStep (x : StepInput) (c : RegContext) : RegContext :=
  match x.measured with
  | none => { c with error := 0, output := 0 }
  | some m =>
    let e := regError x.setpoint m
    let p := proportional x.kp e
    if regHeld x c.output e then
      { error := e, integrator := c.integrator, output := regOutput p c.integrator, holds := bump c.holds }
    else
      let raw := (c.integrator : Int) + x.ki * e
      let i := (clampInt 0 256000 raw).toNat
      { error := e, integrator := i, output := regOutput p i,
        holds := if raw < 0 ∨ 256000 < raw then bump c.holds else c.holds }

/-- The power-limited flag of any of the temperature regulator's own loads is set (R99, R103). -/
def ownLimited (s : State) (m : Mode) : Bool :=
  (m.owns .steamHeater && s.lpd.loads.steamHeater.limited) || (m.owns .top && s.lpd.loads.top.limited)
    || (m.owns .bottom && s.lpd.loads.bottom.limited) || (m.owns .ring && s.lpd.loads.ring.limited)

/-- What the temperature regulator takes (R99, R101). -/
def temperatureInput (r : Request) (s : State) : StepInput :=
  { setpoint := r.cavity, measured := s.mu.regulated, kp := r.mode.kp, ki := r.mode.ki,
    limited := ownLimited s r.mode, doorOpen := doorOpen s, starved := s.ssu.starved,
    noSteam := r.mode == .steam && s.sgc.state != .steam }

/-- What the humidity regulator takes (R99, R101). -/
def humidityInput (r : Request) (s : State) : StepInput :=
  { setpoint := ((r.humidity.getD 0 : Nat) : Int), measured := s.mu.hum.value.toOption, kp := 768, ki := 24,
    limited := s.lpd.loads.steamHeater.limited, doorOpen := doorOpen s, starved := s.ssu.starved,
    noSteam := s.sgc.state != .steam }

/-- The temperature context after the step. -/
def stepTemperature (r : Request) (s : State) : RegContext := regStep (temperatureInput r s) s.cr.temperature

/-- The humidity context after the step; it runs in COMBI only (R99). -/
def stepHumidity (r : Request) (s : State) : RegContext :=
  if r.mode = .combi then regStep (humidityInput r s) s.cr.humidity else s.cr.humidity

/-- A share of an output, rounded down (R107). -/
def share (u : Nat) (m : Mode) (i : LoadId) : Nat := u * m.split i / 100

/-- The steam regulator's output is handed over, 0 while steam is not wanted (R108). -/
def handSteam (u : Nat) (s : State) : State := handSteamDemand (if steamShould s then u else 0) s

/-- Both regulators step on the state as it stands, and their outputs are handed on (R101 to R111). A humidity step judges
the vent with the door open as with the door closed (R110; for R114's words see notes/assumptions/38). -/
def stepRegulators (r : Request) (s : State) : State :=
  let t := stepTemperature r s
  let h := stepHumidity r s
  let s1 := writeElements (share t.output r.mode .top) (share t.output r.mode .bottom) (share t.output r.mode .ring)
    { s with cr.temperature := t, cr.humidity := h }
  match r.mode with
  | .steam => handSteam t.output s1
  | .combi => judgeVent (handSteam h.output s1)
  | .convection | .topBottom | .grill | .keepWarm => s1

/-- The 1000 ms tick: the step, while the request has a mode, and the tick's allowance computation (R46, R101). -/
def regulatorTick (s : State) : State :=
  compute (match s.cr.request with
    | some r => stepRegulators r s
    | none => s)

end Sys2Proof.Machine
end

