-- ==== Sys2Proof/Machine/Protect.lean ====
section
/-! DEFINITION. The protection unit (chapter 11): trips and their conditions, the lock's requests, travels and
faults. -/

namespace Sys2Proof.Machine

/-! ### Trips (R200 to R202) -/

/-- The blocks that are told act on an added trip (R113, R131, R153, R189, R200). For BOILER_DRY the boiler goes to
DRY_FAULT before steam wanted is handed as no, so that it does not pass through COOL (notes/assumptions/39). -/
def tellAdded (k : Trip) (s : State) : State :=
  match k with
  | .cavityOvertemp | .sensor => holdTrip k (climateTripped s)
  | .boilerDry => holdTrip k (judgeSteam (enterDryFault s))
  | .lock => holdTrip k (if s.sgc.user = .descale then writeDemand .steamHeater 0 s else s)

/-- A trip is added: a kind that is not a member becomes one, and TRIP is raised (R200). -/
def addTrip (k : Trip) (s : State) : State :=
  if s.pu.trips.has k then s
  else tellAdded k (raise .trip { s with pu.trips := s.pu.trips.put k true })

/-- Either cavity channel has status SHORT or OPEN, or the disagreement condition is present (R201). -/
def sensorCondition (s : State) : Bool :=
  s.mu.cavA.status == .short || s.mu.cavA.status == .open || s.mu.cavB.status == .short
    || s.mu.cavB.status == .open || s.mu.disagreement

/-- The trip cavity value is VALID and above 300.0 °C (R201). -/
def cavityHot (s : State) : Bool :=
  match s.mu.tripCavity with
  | some v => 3000 < v
  | none => false

/-- A trip's condition is present (R201). -/
def conditionPresent (s : State) : Trip → Bool
  | .cavityOvertemp =>
    match s.mu.tripCavity with
    | some v => 3000 < v
    | none => true
  | .boilerDry =>
    (boilerValue s).above 1600 || (s.sgc.state == .dryFault && !(boilerValue s).below 1000)
  | .sensor => sensorCondition s
  | .lock => doorOpen s

/-! ### The lock (R197 to R199) -/

/-- A lock fault: LOCK_FAULT, the motor off, LOCK added (R199). -/
def lockFault (s : State) : State := addTrip .lock { s with pu.lock := .fault }

/-- A travel begins with its timer at 0 (R198). -/
def travel (l : LockState) (s : State) : State := { s with pu.lock := l, pu.travel := 0 }

/-- A travel in can begin only while the door state is closed (R198). -/
def travelIn (s : State) : State := if doorOpen s then lockFault s else travel .locking s

/-- A lock request, taken by the lock state (R198); NONE asks nothing. -/
def takeLockCommand (s : State) : State :=
  match s.pu.command, s.pu.lock with
  | .none, _ => s
  | .engage, .unlocked | .engage, .unlocking | .engage, .fault => travelIn s
  | .engage, .locking | .engage, .locked => s
  | .release, .locking | .release, .locked | .release, .fault => travel .unlocking s
  | .release, .unlocked | .release, .unlocking => s

/-- The scale and descale unit asks for a lock position: the command is replaced and taken (R197). -/
def requestLock (c : LockCommand) (s : State) : State := takeLockCommand { s with pu.command := c }

/-- The lock state the published feedback shows (R204, R207). -/
def lockFromFeedback (s : State) : LockState := if s.mu.lockFb.published = some true then .locked else .unlocked

/-- While the phase is IDLE and the lock command is not RELEASE, a lock taken as LOCKED is asked released (R156). -/
def releaseIdleLock (s : State) : State :=
  if s.sdu.phase = .idle ∧ s.pu.command ≠ .release ∧ s.pu.lock = .locked then requestLock .release s else s

/-- A travel ends at the publication that shows its feedback (R198). -/
def endTravel (s : State) : State :=
  match s.pu.lock, s.mu.lockFb.published with
  | .locking, some true => { s with pu.lock := .locked }
  | .unlocking, some false => { s with pu.lock := .unlocked }
  | _, _ => s

/-- The door or the feedback contradicts the lock state (R199). -/
def lockContradicted (s : State) : Bool :=
  match s.pu.lock, s.mu.lockFb.published with
  | .locked, fb => doorOpen s || fb == some false
  | .locking, _ => doorOpen s
  | .unlocked, fb => fb == some true
  | .unlocking, _ | .fault, _ => false

/-- The lock at a publication; `firstFb` says that LOCK_FB is published for the first time since a reset (R198, R199,
R207, R156). DESIGN CHOICE (notes/assumptions/48): that publication ends a travel already begun, and the kept command is not
taken again. -/
def lockPublication (firstFb : Bool) (s : State) : State :=
  let s1 := if firstFb = true ∧ s.pu.trips.lock = false then { s with pu.lock := lockFromFeedback s } else endTravel s
  let s2 := if lockContradicted s1 then lockFault s1 else s1
  if firstFb then releaseIdleLock s2 else s2

/-- The trips judged at a publication (R201). -/
def tripPublication (s : State) : State :=
  let s1 := if cavityHot s then addTrip .cavityOvertemp s else s
  let s2 := if (boilerValue s1).above 1600 then addTrip .boilerDry s1 else s1
  if sensorCondition s2 then addTrip .sensor s2 else s2

/-- The protection unit at a publication. -/
def protectPublication (firstFb : Bool) (s : State) : State := tripPublication (lockPublication firstFb s)

end Sys2Proof.Machine
end

