-- ==== Sys2Proof/Machine/Descale.lean ====
section
/-! DEFINITION. The scale and descale unit (chapter 8): the account and its levels, the retained write's outcomes, and
the descale's phases. -/

namespace Sys2Proof.Machine

/-! ### The account (R137 to R139) -/

/-- The derate signal of an account (R139). -/
def derateOf (account : Nat) : Bool := decide (200000 ≤ account)

/-- A change of the derate signal is handed over and the heater demand written again; under the user DESCALE the demand
standing is capped (R121, R139). -/
def handDerate (d : Bool) (s : State) : State :=
  if s.sgc.derate = d then s
  else
    let s1 := { s with sgc.derate := d }
    if s.sgc.user = .descale then
      if d then writeDemand .steamHeater (min s.lpd.loads.steamHeater.demand 600) s1 else s1
    else writeHeater s1

/-- The account is set, and the derate signal follows it (R139). -/
def setAccount (a : Nat) (s : State) : State := handDerate (derateOf a) { s with sdu.account := a }

/-- DESCALE_ADVICE is raised when the account has risen from below 150,000 to 150,000 or more (R138). -/
def judgeAdvice (before : Nat) (s : State) : State :=
  if before < 150000 ∧ 150000 ≤ s.sdu.account then raise .descaleAdvice s else s

/-- The account after the metering sum is added; it stops at 400,000 (R137). -/
def meteredAccount (d : Scale) : Nat := min (d.account + d.meteringSum) 400000

/-- The metering tick's addition, its levels and its retained write (R137, R138, R142). -/
def addMetered (s : State) : State :=
  let a := s.sdu.account
  let s1 := judgeAdvice a (setAccount (meteredAccount s.sdu) { s with sdu.meteringSum := 0 })
  if a / 2000 = s1.sdu.account / 2000 then s1 else requestWrite s1

/-! ### The end of a retained write (R143) -/

/-- A new write begins if rewrite-pending is set; otherwise the state becomes IDLE. -/
def nextWrite (s : State) : State :=
  if s.sdu.rewritePending then beginWrite s else { s with sdu.writing := none }

/-- The read-back agrees. -/
def writeAgreed (s : State) : State := nextWrite { s with sdu.retry := false }

/-- The read-back disagrees, or the memory did not report. -/
def writeFailed (s : State) : State :=
  let s1 := { s with sdu.failures := bump s.sdu.failures, sdu.retry := !s.sdu.retry }
  if s.sdu.retry then nextWrite s1 else beginWrite s1

/-! ### The heater in a descale (R139, R144) -/

/-- The scale and descale unit writes a STEAM_HEATER demand: at most 600 under the derate signal, 0 while frozen
(R139, R153). -/
def sduHeat (d : Nat) (s : State) : State :=
  if s.sgc.user = .descale then
    writeDemand .steamHeater (if frozen s then 0 else if s.sgc.derate then min d 600 else d) s
  else s

/-- 1000, or 0 while the boiler value is INVALID (R149, R151). -/
def fullHeat (s : State) : Nat := if (boilerValue s).isValue then 1000 else 0

/-- The soak's demand on its two thresholds (R150). -/
def soakHeatDemand (s : State) : Nat :=
  if (boilerValue s).below 650 then 1000
  else if (boilerValue s).atLeast 700 then 0
  else if (boilerValue s).isValue then s.lpd.loads.steamHeater.demand
  else 0

/-- The demand of the phase (R144). -/
def phaseDemand (s : State) : Nat :=
  match s.sdu.phase with
  | .soakHeat => fullHeat s
  | .soak => soakHeatDemand s
  | .rinse => if s.sdu.rinseStep = .heat then fullHeat s else 0
  | _ => 0

/-- The phase's demand is written. -/
def writePhaseDemand (s : State) : State := sduHeat (phaseDemand s) s

/-! ### Entering the phases -/

/-- A phase is entered, with its heater demand (R144). -/
def enterPhase (p : Phase) (s : State) : State := writePhaseDemand { s with sdu.phase := p }

/-- LOCKING: the lock is asked engaged (R148). -/
def enterLocking (f : LockingFrom) (s : State) : State :=
  requestLock .engage (enterPhase .locking { s with sdu.lockingFrom := f })

/-- AWAIT_AGENT or AWAIT_RINSE: DESCALE_WAIT_USER is raised (R146, R151). -/
def enterAwait (p : Phase) (s : State) : State := raise .descaleWaitUser (enterPhase p s)

/-- DRAIN_AGENT; the drain that ends it is still to come (R151). -/
def enterDrainAgent (s : State) : State := enterPhase .drainAgent { s with sdu.drained := false }

/-- SOAK_FILL: the mark becomes AGENT_IN (R149). -/
def enterSoakFill (s : State) : State := setMark .agentIn (enterPhase .soakFill s)

/-- SOAK: the soak count starts at 0 (R150). -/
def enterSoak (s : State) : State := enterPhase .soak { s with sdu.soakCount := 0 }

/-- A rinse cycle's fill (R151). -/
def enterRinseFill (cycle : Nat) (s : State) : State :=
  enterPhase .rinse { s with sdu.rinseCycle := cycle, sdu.rinseStep := .fill, sdu.drained := false }

/-- A rinse cycle's heating: the heating time starts at 0 (R151). -/
def enterRinseHeat (s : State) : State :=
  enterPhase .rinse { s with sdu.rinseStep := .heat, sdu.heatingTime := 0 }

/-- A rinse cycle's drain (R151). -/
def enterRinseDrain (s : State) : State :=
  enterPhase .rinse { s with sdu.rinseStep := .drain, sdu.drained := false }

/-- UNLOCKING: the lock is asked released (R152). -/
def enterUnlocking (s : State) : State := requestLock .release (enterPhase .unlocking s)

/-- The phase becomes IDLE and the user is returned (R119, R154). -/
def leaveDescale (s : State) : State := leaveStarvedWithoutWork (returnUser { s with sdu.phase := .idle })

/-- DONE, passed through at once (R152). -/
def enterDone (s : State) : State :=
  raise .descaleDone (leaveDescale (requestWrite (setAccount 0 { s with sdu.mark := .none })))

/-! ### Following the boiler and the lock (R146 to R152) -/

/-- The boiler is in DRY_FAULT, in which no phase moves on by the boiler's temperature or the soak count (R153, R202,
notes/assumptions/43). -/
def boilerDried (s : State) : Bool := s.sgc.state == .dryFault

/-- The boiler stands where a FILL request moves it (R132). -/
def fillTakes (s : State) : Bool := s.sgc.state == .off || s.sgc.state == .cool || s.sgc.state == .drain

/-- The boiler stands where a DRAIN request moves it (R133). -/
def drainTakes (s : State) : Bool :=
  s.sgc.state == .off || s.sgc.state == .fill || s.sgc.state == .heat || s.sgc.state == .waitWater
    || s.sgc.state == .cool

/-- A drain the phase needs: requested where the boiler is not draining yet. -/
def awaitDrain (s : State) : Option State := if drainTakes s then some (requestDrain s) else none

/-- The phase LOCKING leads to (R148). -/
def afterLocking (s : State) : State :=
  match s.sdu.lockingFrom with
  | .awaitAgent => enterSoakFill s
  | .recoverDrain => enterDrainAgent s
  | .recoverRinse => enterAwait .awaitRinse s

/-- A drained boiler ends the rinse cycle (R151). -/
def endRinseDrain (s : State) : State :=
  if s.sdu.rinseCycle = 1 then enterRinseFill 2 s else enterUnlocking s

/-- What the phase does next, by the boiler's and the lock's state as they stand; none where it waits. Nothing is asked
and nothing moves while the descale is frozen, and a soak that has reached 1200 s waits for a boiler in DRY_FAULT (R150,
R153). DESIGN CHOICE (notes/assumptions/46): an agent drain that ends while frozen changes the mark, too, only when the
freeze ends, with the phase. -/
def sduNext (s : State) : Option State :=
  if frozen s then none
  else
    match s.sdu.phase with
    | .prepDrain => if s.sdu.drained then some (enterAwait .awaitAgent s) else awaitDrain s
    | .locking => if s.pu.lock = .locked then some (afterLocking s) else none
    | .soakFill =>
      if s.sgc.state = .heat then some (enterPhase .soakHeat s)
      else if fillTakes s then some (requestFill s) else none
    | .soakHeat => if s.sgc.state = .off then some (requestFill s) else none
    | .soak =>
      if 1200 ≤ s.sdu.soakCount then if boilerDried s then none else some (enterDrainAgent s)
      else if s.sgc.state = .off then some (requestFill s) else none
    | .drainAgent =>
      if s.sdu.drained then some (enterAwait .awaitRinse (setMark .rinseNeeded s)) else awaitDrain s
    | .rinse =>
      match s.sdu.rinseStep with
      | .fill =>
        if s.sgc.state = .heat then some (enterRinseHeat s)
        else if fillTakes s then some (requestFill s) else none
      | .heat => if s.sgc.state = .off then some (requestFill s) else none
      | .drain => if s.sdu.drained then some (endRinseDrain s) else awaitDrain s
    | .unlocking => if s.pu.lock = .unlocked then some (enterDone s) else none
    | .recoverDrain =>
      if s.od.power = .active ∧ doorOpen s = false then some (enterLocking .recoverDrain s) else none
    | .recoverRinse =>
      if s.od.power = .active ∧ doorOpen s = false then some (enterLocking .recoverRinse s) else none
    | .idle | .awaitAgent | .awaitRinse | .done => none

/-- The phases follow until one waits, at most `n` moves. -/
def followFor : Nat → State → State
  | 0, s => s
  | n + 1, s =>
    match sduNext s with
    | some t => followFor n t
    | none => s

/-- The phases follow the boiler and the lock. Within one event no more than five moves follow one another: a recovery's
LOCKING, the phase after it, its request, the heating the request finds, and what that waits for. -/
def sduFollow (s : State) : State := followFor 8 s

/-! ### The publication (R149 to R151) -/

/-- The boiler value has reached a threshold that moves the phase on, with the boiler not in DRY_FAULT (R149, R151,
R153). -/
def heatedTo (v : Int) (s : State) : Bool := (boilerValue s).atLeast v && !boilerDried s

/-- The boiler value is judged against the phase's thresholds, at each publication (R149, R150). DESIGN CHOICE
(notes/assumptions/45): a rinse's heat step is judged at publications too, and not as it begins. -/
def judgeHeating (s : State) : State :=
  if frozen s then s
  else
    match s.sdu.phase with
    | .soakHeat => if heatedTo 700 s then enterSoak s else writePhaseDemand s
    | .soak => writePhaseDemand s
    | .rinse =>
      if s.sdu.rinseStep = .heat then if heatedTo 900 s then enterRinseDrain s else writePhaseDemand s else s
    | _ => s

/-- The scale and descale unit at a publication. -/
def sduPublication (s : State) : State := sduFollow (judgeHeating (sduFollow s))

/-! ### Its counts (R150, R151) -/

/-- The boiler value is VALID and in the soak band (R150). -/
def inSoakBand (s : State) : Bool := (boilerValue s).atLeast 600 && !(boilerValue s).above 750

/-- The heating time has reached 600 s: the cycle drains (R151). -/
def endRinseHeat (s : State) : State := sduFollow (enterRinseDrain s)

/-- The soak is running (R150). -/
def soaking (s : State) : Bool := s.sdu.phase == .soak && !frozen s

/-- A rinse heat step is running with the boiler in HEAT (R151). -/
def rinseHeating (s : State) : Bool :=
  s.sdu.phase == .rinse && s.sdu.rinseStep == .heat && s.sgc.state == .heat && !frozen s

/-- The soak count at a 1000 ms tick; at 1200 the agent is drained (R150). -/
def soakTick (s : State) : State :=
  if soaking s && inSoakBand s then
    let s1 := { s with sdu.soakCount := min (s.sdu.soakCount + 1) 1200 }
    if s1.sdu.soakCount = 1200 then sduFollow s1 else s1
  else s

/-- The heating time at a 1000 ms tick. -/
def heatingTick (s : State) : State :=
  if rinseHeating s then
    let s1 := { s with sdu.heatingTime := s.sdu.heatingTime + 1 }
    if 600 ≤ s1.sdu.heatingTime then endRinseHeat s1 else s1
  else s

/-- The scale and descale unit's 1000 ms tick (R137, R150, R151). -/
def meteringTick (s : State) : State := heatingTick (soakTick (addMetered s))

/-! ### Interruptions (R153, R154, R156) -/

/-- The descale is redirected to DRAIN_AGENT by an abort or CONSOLE_LOST (R153, R154). -/
def redirect (s : State) : State :=
  match s.sdu.phase with
  | .locking | .soakFill | .soakHeat | .soak => sduFollow (enterDrainAgent s)
  | _ => s

/-- LOCK has left the trip set: the phase's demand is written and its boiler and lock judged (R153). -/
def resumeDescale (s : State) : State := sduFollow (writePhaseDemand s)

/-- A recovery phase is judged as the power state becomes ACTIVE (R156). -/
def judgeRecovery (s : State) : State :=
  if s.sdu.phase = .recoverDrain ∨ s.sdu.phase = .recoverRinse then
    if doorOpen s then raise .descaleWaitUser s else sduFollow s
  else s

/-- The descale phase, boiler user and STEAM_HEATER demand a mark starts with (R156). -/
def startFromMark (s : State) : State :=
  match s.sdu.mark with
  | .none => { s with sdu.phase := .idle, sgc.user := .climate }
  | .agentIn => takeUser { s with sdu.phase := .recoverDrain }
  | .rinseNeeded => takeUser { s with sdu.phase := .recoverRinse }

end Sys2Proof.Machine
end

