-- ==== Sys2Proof/Machine/Firing.lean ====
section
/-! DEFINITION. The load planner and burst drive (chapter 4): plan order, grants, conversion, firing and interlocks. -/

namespace Sys2Proof.Machine

/-! ### Interlocks (R79) -/

/-- The boiler states in which the steam heater may not fire (R79). -/
def BoilerState.heaterOff : BoilerState → Bool
  | .waitWater | .cool | .drain | .off | .dryFault => true
  | _ => false

/-- An interlock on the load is in force (R79). A switch not yet published counts as dry or open. -/
def interlocked (s : State) (i : LoadId) : Bool :=
  s.od.power == .standby || doorOpen s || s.pu.trips.lock ||
    match i with
    | .steamHeater => !lowWet s || s.sgc.state.heaterOff || s.pu.trips.boilerDry
    | _ => s.pu.trips.cavityOvertemp || s.pu.trips.sensor

/-! ### The window plan (R71 to R76) -/

/-- P, the pool in W (R71). -/
def poolOf (s : State) : Nat :=
  if s.od.power = .standby ∨ doorOpen s = true then 0 else (s.ssu.claim - s.config.aux) * 10

/-- The plan order of a mode; no mode counts as the row 'none' (R72). -/
def planOrder : Option Mode → List LoadId
  | some .convection => [.ring, .steamHeater, .top, .bottom]
  | some .topBottom => [.top, .bottom, .steamHeater, .ring]
  | some .grill => [.top, .steamHeater, .ring, .bottom]
  | some .steam => [.steamHeater, .ring, .top, .bottom]
  | some .combi => [.ring, .steamHeater, .top, .bottom]
  | some .keepWarm => [.bottom, .steamHeater, .ring, .top]
  | none => [.steamHeater, .ring, .top, .bottom]

/-- Plan positions and grants in plan order, from position `k` with `left` W of the pool left (R70, R73). -/
def giveGrants (c : ConfigCopy) : List LoadId → Nat → Nat → Loads → Loads
  | [], _, _, ls => ls
  | i :: rest, k, left, ls =>
    let l := ls.get i
    let w := l.demand * ratingW c i / 1000
    let g := min w left
    giveGrants c rest (k + 1) (left - g)
      (ls.set i { l with grant := g, limited := decide (g < w), position := k })

/-- The load list, the shed counter and the running total of a conversion. -/
structure Converted where
  loads : Loads
  shed : Nat
  /-- in W·half-cycles (R75) -/
  total : Nat

/-- One load is converted: its count, capped against P × 100, its carry and what is shed; a load under an interlock
has its count forced to 0 and keeps its carry (R74 to R76, R79). -/
def convertLoad (c : ConfigCopy) (p : Nat) (off : Bool) (i : LoadId) (v : Converted) : Converted :=
  let l := v.loads.get i
  if off then { v with loads := v.loads.set i { l with count := 0 } }
  else
    let r := ratingW c i
    let x := l.grant * 100 + l.carry
    let n := min (x / r) ((p * 100 - v.total) / r)
    let carry := x - n * r
    if carry < r then
      { loads := v.loads.set i { l with count := n, carry }, shed := v.shed, total := v.total + n * r }
    else
      { loads := v.loads.set i { l with count := n, carry := r - 1 },
        shed := addSat v.shed (ceilDiv (carry - (r - 1)) 100), total := v.total + n * r }

/-- The loads are converted one after another (R74). -/
def convertLoads (c : ConfigCopy) (p : Nat) (s : State) : List LoadId → Converted → Converted
  | [], v => v
  | i :: rest, v => convertLoads c p s rest (convertLoad c p (interlocked s i) i v)

/-- The planner's part of a window start (R70 to R76). -/
def planWindow (s : State) : State :=
  let p := poolOf s
  let order := planOrder (s.cr.request.map Request.mode)
  let granted := giveGrants s.config order 0 p s.lpd.loads
  let v := convertLoads s.config p s order { loads := granted, shed := s.lpd.shed, total := 0 }
  { s with lpd.loads := v.loads, lpd.shed := v.shed, lpd.pool := p }

/-! ### Firing (R77, R78) -/

/-- The load at plan position k with count n fires half-cycle i (R77). -/
def fires (k n i : Nat) : Bool := (i + 100 - 25 * k % 100) % 100 < n

/-- The gate of a load for the half-cycle now beginning (R78). -/
def gateOf (s : State) (i : LoadId) : Bool :=
  let l := s.lpd.loads.get i
  fires l.position l.count s.lpd.half && !interlocked s i

/-- The gates are decided (R78). -/
def decideGates (s : State) : State :=
  { s with lpd.gates :=
      { steamHeater := gateOf s .steamHeater, top := gateOf s .top, bottom := gateOf s .bottom,
        ring := gateOf s .ring } }

/-! ### Crossings (R65, R66, R69) -/

/-- A window start: the claim point, the plan, the gates of half-cycle 0; a raise due is started after the claim point's
last step and does not affect the window (R50, R70). -/
def windowStart (s : State) : State :=
  decideGates (startRaise (planWindow (claimPoint { s with lpd.half := 0 })))

/-- An accepted crossing in RUNNING (R66). -/
def acceptCrossing (s : State) : State :=
  let s := { s with lpd.sinceCrossing := 0 }
  if 99 ≤ s.lpd.half then windowStart s else decideGates { s with lpd.half := s.lpd.half + 1 }

/-- The regular band in µs (R66). -/
def regularBand : Mains → Nat × Nat
  | .hz50 => (8500, 11500)
  | .hz60 => (7100, 9600)

/-- The frequency that the sum of 20 intervals gives: a mean of 9.17 ms or more is 50 Hz (R65). -/
def mainsOf (sum : Nat) : Mains := if 9170 ≤ sum / 20 then .hz50 else .hz60

/-- The drive becomes RUNNING at a crossing that is a window start (R65, R69). -/
def enterRunning (s : State) : State :=
  windowStart { s with lpd.drive := .running, lpd.sinceCrossing := 0 }

/-- A crossing while MEASURING: the reference, a counted interval, or a restart of the measurement (R65). -/
def measureCrossing (reference : Bool) (count sum interval : Nat) (s : State) : State :=
  let s := { s with lpd.sinceCrossing := 0 }
  if reference = true ∧ 7000 ≤ interval ∧ interval ≤ 12000 then
    if count + 1 < 20 then { s with lpd.drive := .measuring true (count + 1) (sum + interval) }
    else enterRunning { s with mu.mains := some (mainsOf (sum + interval)) }
  else { s with lpd.drive := .measuring true 0 0 }

/-- A crossing in MAINS_ABSENT, against the regular band (R69). -/
def recoverCrossing (band : Nat × Nat) (reference : Bool) (count interval : Nat) (s : State) : State :=
  if reference = true ∧ interval < band.1 then s
  else if reference = true ∧ interval ≤ band.2 then
    if count + 1 < 20 then { s with lpd.drive := .mainsAbsent true (count + 1), lpd.sinceCrossing := 0 }
    else enterRunning s
  else { s with lpd.drive := .mainsAbsent true 0, lpd.sinceCrossing := 0 }

/-- The regular band of the measured frequency; the drive leaves MEASURING only with the frequency known (R65). -/
def bandOf (s : State) : Nat × Nat :=
  match s.mu.mains with
  | some m => regularBand m
  | none => (0, 0)

/-- A zero crossing, `interval` µs after the crossing the drive measures from (R65, R66, R69). -/
def crossing (interval : Nat) (s : State) : State :=
  match s.lpd.drive with
  | .measuring reference count sum => measureCrossing reference count sum interval s
  | .running => if interval < (bandOf s).1 then s else acceptCrossing s
  | .mainsAbsent reference count => recoverCrossing (bandOf s) reference count interval s

/-- RUNNING is left for MAINS_ABSENT (R67, R68). -/
def enterMainsAbsent (s : State) : State :=
  { s with
    lpd.drive := .mainsAbsent false 0, lpd.half := 99, lpd.gates := .off, lpd.pool := 0, lpd.sinceCrossing := 0,
    lpd.loads := s.lpd.loads.map fun l =>
      { l with grant := 0, count := 0, carry := 0, limited := decide (0 < l.demand) } }

end Sys2Proof.Machine
end

