-- ==== Sys2Proof/Machine/Programs.lean ====
section
/-! DEFINITION. Recipe programs (chapter 9): the slots, the stage record, the checks of a close and the program it
forms. -/

namespace Sys2Proof.Machine

/-! ### The stage record (§9.2) -/

/-- The slot of its code, A 1 and B 2 (R160). -/
def slotOf (b : Byte) : Option SlotId := if b = 1 then some .a else if b = 2 then some .b else none

/-- Fourteen characters as a stage record. -/
def stageRecordOf : List Byte → Option StageRecord
  | [kind, sel, flags, c0, c1, h0, h1, fan, cond, v0, v1, l0, l1, prompt] =>
    some { kind, selector := sel, flags, cavity := wordOf c0 c1, humidity := wordOf h0 h1, fan, condition := cond,
           value := wordOf v0 v1, limit := wordOf l0 l1, prompt }
  | _ => none

def StageRecord.hasCavity (r : StageRecord) : Bool := r.flags.getLsbD 0
def StageRecord.hasHumidity (r : StageRecord) : Bool := r.flags.getLsbD 1
def StageRecord.hasFan (r : StageRecord) : Bool := r.flags.getLsbD 2
def StageRecord.hasCondition (r : StageRecord) : Bool := r.flags.getLsbD 3
def StageRecord.hasLimit (r : StageRecord) : Bool := r.flags.getLsbD 4
def StageRecord.hasPrompt (r : StageRecord) : Bool := r.flags.getLsbD 5

/-- The stage kinds of character 1 (§9.2). -/
inductive StageKind
  | bake | steam | combi | keepWarm | prompt | loop | finish
  deriving DecidableEq, Repr

def StageRecord.kindOf (r : StageRecord) : Option StageKind :=
  match r.kind.toNat with
  | 1 => some .bake
  | 2 => some .steam
  | 3 => some .combi
  | 4 => some .keepWarm
  | 5 => some .prompt
  | 6 => some .loop
  | 7 => some .finish
  | _ => none

/-- The mode of a heating stage (R162). -/
def StageRecord.modeOf (r : StageRecord) : Option Mode :=
  match r.kindOf with
  | some .bake =>
    match r.selector.toNat with
    | 1 => some .convection
    | 2 => some .topBottom
    | 3 => some .grill
    | _ => none
  | some .steam => some .steam
  | some .combi => some .combi
  | some .keepWarm => some .keepWarm
  | _ => none

/-! ### The checks of a close (R167, R168) -/

/-- Check 1: the last stage is the one END. -/
def checkEnd : List StageRecord → Bool
  | [] => false
  | [r] => r.kindOf == some .finish
  | r :: rest => r.kindOf != some .finish && checkEnd rest

/-- A REPEAT's target is before it and neither a REPEAT nor an END. -/
def targetAllowed (recs : List StageRecord) (i : Nat) (r : StageRecord) : Bool :=
  decide (r.selector.toNat < i) &&
    match recs[r.selector.toNat]? with
    | some t => t.kindOf != some .loop && t.kindOf != some .finish
    | none => false

/-- The records with their indexes. -/
def indexed (recs : List StageRecord) : List (Nat × StageRecord) := (List.range recs.length).zip recs

/-- Check 2: the repeats. -/
def checkRepeats (recs : List StageRecord) : Bool :=
  ((indexed recs).all fun p => p.2.kindOf != some .loop || targetAllowed recs p.1 p.2)
    && decide ((recs.filter fun r => r.kindOf == some .loop).length ≤ 12)

/-- The condition character names a condition. -/
def StageRecord.conditionNamed (r : StageRecord) : Bool := 1 ≤ r.condition.toNat && r.condition.toNat ≤ 4

/-- The parts a heating stage needs, humidity only in COMBI. -/
def StageRecord.heatingParts (r : StageRecord) : Bool :=
  r.hasCavity && r.hasCondition && r.conditionNamed && (!r.hasFan || r.fan.toNat ≤ 5)

/-- Checks 3 and 4 of one stage. -/
def checkParts (r : StageRecord) : Bool :=
  match r.kindOf with
  | none => false
  | some .bake => r.modeOf.isSome && r.heatingParts
  | some .steam | some .keepWarm => r.heatingParts
  | some .combi => r.heatingParts && r.hasHumidity
  | some .prompt => r.hasPrompt && (!r.hasCondition || r.condition == 4)
  | some .loop => 1 ≤ r.condition.toNat && r.condition.toNat ≤ 9
  | some .finish => true

/-- The program passes the four checks. -/
def programOk (recs : List StageRecord) : Bool := checkEnd recs && checkRepeats recs && recs.all checkParts

/-! ### Forming the program (R169) -/

/-- The limit time; absent when its flag is clear or its value is 0. -/
def StageRecord.limitTime (r : StageRecord) : Option Nat :=
  if r.hasLimit ∧ r.limit ≠ 0 then some r.limit.toNat else none

/-- The prompt code, where one is sent. -/
def StageRecord.promptCode (r : StageRecord) : Option Nat := if r.hasPrompt then some r.prompt.toNat else none

/-- The fan level; 3 when absent or 0. -/
def StageRecord.fanLevel (r : StageRecord) : Nat := if r.hasFan ∧ r.fan ≠ 0 then r.fan.toNat else 3

/-- The end condition, brought into range, with the limit time it uses (R169). DEDUCED (notes/assumptions/47): the value of a
CORE condition is read without a sign. -/
def StageRecord.endCondition (r : StageRecord) : Condition × Option Nat :=
  match r.condition.toNat with
  | 1 => (.time (max r.value.toNat 1), none)
  | 2 => (.timeAtTemp (max r.value.toNat 1), none)
  | 3 => (.core (clampNat 300 1000 r.value.toNat), r.limitTime)
  | _ => (.confirm, r.limitTime)

/-- The request of a heating stage of the mode, brought into range. -/
def StageRecord.request (r : StageRecord) (m : Mode) : Request :=
  { mode := m, cavity := clampCavity m r.cavity.toInt,
    humidity := if m = .combi then some (clampHumidity r.humidity.toNat) else none, fan := r.fanLevel }

/-- The program stage of a record. -/
def formStage (r : StageRecord) : Stage :=
  match r.modeOf with
  | some m => .heating (r.request m) r.endCondition.1 r.endCondition.2 r.promptCode
  | none =>
    match r.kindOf with
    | some .prompt => .prompt r.limitTime r.prompt.toNat
    | some .loop => .loop r.selector.toNat r.condition.toNat
    | _ => .finish

/-- A value had to be changed to bring it into its range; a CORE condition's is read as `endCondition` reads it. -/
def stageClamped (r : StageRecord) : Bool :=
  match r.modeOf with
  | some m =>
    clampCavity m r.cavity.toInt != r.cavity.toInt
      || (m == .combi && clampHumidity r.humidity.toNat != r.humidity.toNat)
      || (match r.condition.toNat with
          | 1 | 2 => r.value == 0
          | 3 => clampNat 300 1000 r.value.toNat != r.value.toNat
          | _ => false)
  | none => false

/-! ### The slots (R163 to R171) -/

def setSlot (i : SlotId) (x : Slot) (s : State) : State := { s with re := s.re.setSlot i x }

/-- The slot is QUEUED or RUNNING. -/
def Slot.busy (x : Slot) : Bool := x.state == .queued || x.state == .running

/-- A load is opened: the count and tag are taken and all stage places emptied (R163). -/
def openSlot (i : SlotId) (count tag : Nat) (s : State) : State :=
  setSlot i { Slot.reset with state := .loading, count, tag } s

/-- A record is stored in the place of its index (R164). -/
def storeStage (i : SlotId) (k : Fin 24) (r : StageRecord) (s : State) : State :=
  let x := s.re.slot i
  setSlot i { x with places := x.places.set k (some r) } s

/-- The places below the declared count. -/
def Slot.declared (x : Slot) : List (Option StageRecord) := x.places.toList.take x.count

/-- The received-index set is complete (R165). -/
def Slot.complete (x : Slot) : Bool := x.declared.all Option.isSome

/-- The stored records. -/
def Slot.records (x : Slot) : List StageRecord := x.declared.filterMap id

/-- The READY slot a close forms (R169, R170). -/
def Slot.closed (x : Slot) : Slot :=
  let program := x.records.map formStage
  { state := .ready, tag := x.tag, count := x.count, places := .replicate 24 none, program,
    steam := program.any Stage.steams }

/-- A close that passes: the program is formed and PROGRAM_CLAMPED raised if a value was clamped (R169, R170). -/
def closeSlot (i : SlotId) (s : State) : State :=
  let x := s.re.slot i
  let s1 := setSlot i x.closed s
  if x.records.any stageClamped then raise .programClamped s1 else s1

/-- The slot becomes EMPTY (R171). -/
def emptySlot (i : SlotId) (s : State) : State := setSlot i .reset s

end Sys2Proof.Machine
end

