-- ==== Sys2Proof/Machine/RecipeOps.lean ====
section
/-! DEFINITION. Running a recipe (chapter 10): reaching and entering stages, holds, clocks and end conditions, the end of
a program, and abort. -/

namespace Sys2Proof.Machine

/-! ### The repeat-counter map (R182) -/

/-- The count of the REPEAT at an index, if the map has an entry for it. -/
def lookRepeat (m : List (Nat × Nat)) (i : Nat) : Option Nat := (m.find? fun p => p.1 == i).map Prod.snd

/-- The map without the entry for an index. -/
def dropRepeat (m : List (Nat × Nat)) (i : Nat) : List (Nat × Nat) := m.filter fun p => p.1 != i

/-- The map with the count of an index, kept by rising index. -/
def putRepeat (m : List (Nat × Nat)) (i c : Nat) : List (Nat × Nat) :=
  (dropRepeat m i).takeWhile (fun p => p.1 < i) ++ (i, c) :: (dropRepeat m i).dropWhile (fun p => p.1 < i)

/-- The count at which a REPEAT is found: its entry's, or its repeat count where it has none (R182, step 1). -/
def countAt (m : List (Nat × Nat)) (i c : Nat) : Nat := (lookRepeat m i).getD c

/-! ### Entering a stage (R179 to R181, R187 to R189) -/

/-- CAVITY_OVERTEMP or SENSOR is in the trip set. -/
def cavityTripped (s : State) : Bool := s.pu.trips.cavityOvertemp || s.pu.trips.sensor

/-- A heating stage's climate is written, or a request without a mode while a cavity trip stands (R180). -/
def writeStage (r : Request) (s : State) : State :=
  if cavityTripped s then holdWithoutMode s else writeRequest .recipe r s

/-- The hold-reason set at a stage entry (R187 to R189). -/
def entryHolds (st : Stage) (s : State) : HoldSet :=
  { power := s.ssu.starved
    water := st.steams && (s.re.holds.water || s.sgc.state == .waitWater)
    probe := st.isCore && !s.mu.probe.value.isValue
    trip := s.pu.trips.affects st }

/-- The stage waits for confirmation (R181). -/
def Stage.waits : Stage → Bool
  | .heating _ .confirm _ _ | .prompt _ _ => true
  | _ => false

/-- The prompt that stands while the stage is in progress (R180, R181). -/
def Stage.standing : Stage → Option Nat
  | .heating _ .confirm _ p => some (p.getD 0)
  | .heating _ _ _ p => p
  | .prompt _ code => some code
  | _ => none

/-- The context a stage is entered with (R179). -/
def entryContext (i : Nat) (st : Stage) : StageContext :=
  { index := i, stageClock := 0, atTempClock := 0, waiting := st.waits, prompt := st.standing }

/-- A stage is entered (R179 to R181). -/
def enterStage (i : Nat) (st : Stage) (s : State) : State :=
  let s1 := raise .stageStarted { s with re.context := some (entryContext i st) }
  let s2 := match st with
    | .heating r _ _ _ => writeStage r s1
    | _ => s1
  let s3 := { s2 with re.holds := entryHolds st s2 }
  if st.standing.isSome then raise .prompt s3 else s3

/-! ### The path through a program (R182, R191) -/

/-- A slot's state. -/
def markSlot (i : SlotId) (st : SlotState) (s : State) : State := setSlot i { s.re.slot i with state := st } s

/-- The running slot's program stage at an index. -/
def stageAt (s : State) (k : Nat) : Option Stage := s.re.running.bind fun i => (s.re.slot i).program[k]?

/-- The repeat-counter map, the hold-reason set and the stage context are dropped (R191, R192). -/
def dropRun (s : State) : State :=
  { s with re.repeats := [], re.holds := .empty, re.context := none }

/-- A PROMPT at stage 0 of a start writes the request with owner RECIPE and no mode (R178, R181). -/
def firstPrompt (s : State) : State :=
  match stageAt s 0 with
  | some (.prompt _ _) => holdWithoutMode s
  | _ => s

/-- A slot becomes the running one (R178, R191). -/
def runSlot (i : SlotId) (s : State) : State :=
  firstPrompt (markSlot i .running { s with re.running := some i })

/-- The running slot returns to READY and RECIPE_DONE is raised (R191, steps 1 and 2). -/
def finishProgram (s : State) : State :=
  let s1 := match s.re.running with
    | some i => markSlot i .ready s
    | none => s
  raise .recipeDone (dropRun s1)

/-- An index is reached, through REPEATs and a chained program's start, until a stage is entered or the recipe is IDLE
(R179, R182, R191). `n` bounds the indexes passed in one event: a fall through a REPEAT goes on to the next index of 24, and
a chain happens once. -/
def reach : Nat → Nat → State → State
  | 0, _, s => s
  | n + 1, k, s =>
    match stageAt s k with
    | some (.loop t c) =>
      let count := countAt s.re.repeats k c
      if 0 < count then reach n t { s with re.repeats := putRepeat s.re.repeats k (count - 1) }
      else reach n (k + 1) { s with re.repeats := dropRepeat s.re.repeats k }
    | some .finish =>
      let s1 := finishProgram s
      match s.re.queued with
      | some j => reach n 0 (runSlot j { s1 with re.queued := none })
      | none => endRequest { s1 with re.running := none }
    | some st => enterStage k st s
    | none => s

/-- An index is reached. -/
def reachIndex (k : Nat) (s : State) : State := reach 64 k s

/-- The stage in progress ends, and the next index is reached (R179). -/
def endStage (s : State) : State :=
  match s.re.context with
  | some c => reachIndex (c.index + 1) s
  | none => s

/-- An accepted start (R178). -/
def startRecipe (i : SlotId) (s : State) : State :=
  if s.re.running = none then
    reachIndex 0 (runSlot i { dropRun s with cr.owner := .recipe })
  else markSlot i .queued { s with re.queued := some i }

/-- A recipe that is not IDLE is aborted (R192, R193). -/
def abortRecipe (s : State) : State :=
  match s.re.running with
  | none => s
  | some i =>
    let s1 := markSlot i .ready s
    let s2 := match s.re.queued with
      | some j => markSlot j .ready s1
      | none => s1
    raise .recipeAborted (endRequest (dropRun { s2 with re.running := none, re.queued := none }))

/-! ### Clocks and end conditions (R183, R184) -/

/-- The cavity is in the band of a stage's request (R183). -/
def inBand (s : State) (r : Request) : Bool :=
  match s.mu.regulated with
  | some v => decide (r.cavity - 50 ≤ v) && (r.mode == .steam || decide (v ≤ r.cavity + 50))
  | none => false

/-- The clocks after a stage tick (R183). -/
def tickClocks (st : Stage) (c : StageContext) (s : State) : StageContext :=
  match recipeState s with
  | .running =>
    { c with
      stageClock := bump c.stageClock
      atTempClock :=
        match st with
        | .heating r _ _ _ => if inBand s r then bump c.atTempClock else c.atTempClock
        | _ => c.atTempClock }
  | .waitPrompt =>
    if st.limit.isSome && s.re.holds.none then { c with stageClock := bump c.stageClock } else c
  | _ => c

/-- How a stage stands at its end judgement (R184). -/
inductive StageEnd
  | goesOn | met | coreTimeout
  deriving DecidableEq, Repr

/-- A CORE stage's judgement (R184). -/
def judgeCore (v : Nat) (limit : Option Nat) (c : StageContext) (s : State) : StageEnd :=
  if s.mu.probe.value.atLeast v then .met
  else if limit = some c.stageClock then .coreTimeout else .goesOn

/-- The end condition is judged in the state the table names (R184). -/
def judgeStage (st : Stage) (c : StageContext) (s : State) : StageEnd :=
  match st, recipeState s with
  | .heating _ (.time n) _ _, .running => if c.stageClock = n then .met else .goesOn
  | .heating _ (.timeAtTemp n) _ _, .running => if c.atTempClock = n then .met else .goesOn
  | .heating _ (.core v) limit _, .running => judgeCore v limit c s
  | .heating _ .confirm limit _, .waitPrompt | .prompt limit _, .waitPrompt =>
    if limit = some c.stageClock then .met else .goesOn
  | _, _ => .goesOn

/-- The stage tick (R183, R184). -/
def stageTick (s : State) : State :=
  match currentStage s, s.re.context with
  | some st, some c =>
    let c' := tickClocks st c s
    let s1 := { s with re.context := some c' }
    match judgeStage st c' s1 with
    | .goesOn => s1
    | .met => endStage s1
    | .coreTimeout => endStage (raise .coreTimeout s1)
  | _, _ => s

/-! ### Holds that end (R188, R189) -/

/-- PROBE at a publication (R188). -/
def probePublication (s : State) : State :=
  match currentStage s with
  | some st => if st.isCore then { s with re.holds.probe := !s.mu.probe.value.isValue } else s
  | none => s

/-- Trips have left the set: a TRIP hold with no trip left that affects the stage in progress ends, and the stage's
climate is written again (R189). -/
def judgeTripHold (s : State) : State :=
  match currentStage s with
  | some st =>
    if s.re.holds.trip && !s.pu.trips.affects st then
      let s1 := { s with re.holds.trip := false }
      match st with
      | .heating r _ _ _ => writeStage r s1
      | _ => s1
    else s
  | none => s

end Sys2Proof.Machine
end

