-- ==== Sys2Proof/Machine/PowerOps.lean ====
section
/-! DEFINITION. What several blocks do together: the moves of the power state (R20, R21, R56), CONSOLE_LOST (R205), a
trip's removal (R204), the restart (R33, R34), power-on and power failure (R17, R140, R141). -/

namespace Sys2Proof.Machine

/-! ### The power state (R20, R21, R56) -/

/-- A recovery phase, the boiler and the fan follow the new power state (R109, R129, R156). -/
def powerChanged (s : State) : State := refreshFan (judgeCool s)

/-- STANDBY is left for ACTIVE: the allowance is computed, a notice with claim C offered, and a raise follows (R20,
R56). -/
def wakeFromStandby (s : State) : State :=
  let s1 := recordAllowance { s with od.power := .active, link.silence := some 0 }
  judgeRecovery (powerChanged (startRaise (offerNotice s1.ssu.claim s1)))

/-- WIND_DOWN is left for ACTIVE (R20). -/
def wakeFromWindDown (s : State) : State :=
  judgeRecovery (powerChanged (compute { s with od.power := .active, link.silence := some 0 }))

/-- WAKE by power state (R26). -/
def wakeUp (s : State) : State :=
  match s.od.power with
  | .standby => wakeFromStandby s
  | .windDown => wakeFromWindDown s
  | .active => s

/-- ACTIVE is left for WIND_DOWN: the silence timer stops and the allowance is computed (R20, R46). -/
def windDown (s : State) : State :=
  powerChanged (compute { s with od.power := .windDown, link.silence := none })

/-- WIND_DOWN ends in STANDBY: a raise is abandoned, C and Ca become 0, starved is left and the ASLEEP notice offered
(R56). -/
def enterStandby (s : State) : State :=
  let s1 := abandonRaise { s with od.power := .standby }
  let s2 := leaveStarved { s1 with ssu.claim := 0, ssu.announced := 0 }
  powerChanged (offerNotice 0 (recordAllowance s2))

/-- The two conditions of R21 hold. -/
def windDownOver (s : State) : Bool := s.od.power == .windDown && s.sgc.state == .off && !lockTravelling s

/-- The end of wind-down (R21). It is judged once, at the end of a command: conditions that hold only within one
command, as where CLEAR_TRIP removes BOILER_DRY and then LOCK, do not end it (notes/assumptions/37). -/
def endWindDown (s : State) : State := if windDownOver s then enterStandby s else s

/-- The end of an event that may end wind-down and raise events: wind-down is judged and an EVENTS report built where one
is due (R21, R36). -/
def conclude (s : State) : State := serviceEvents (endWindDown s)

/-! ### CONSOLE_LOST (R205) -/

/-- CONSOLE_LOST: the request ends, the recipe is aborted, the descale redirected, and without a descale the oven winds
down. -/
def consoleLost (s : State) : State :=
  let s1 := redirect (abortRecipe (endRequest s))
  if s1.sdu.phase = .idle then windDown s1 else s1

/-! ### Clearing a trip (R203, R204) -/

/-- LOCK has left: the lock state is taken from the feedback, the kept command taken again, and the descale resumes
(R153, R156, R204). -/
def unlockTrip (s : State) : State :=
  resumeDescale (releaseIdleLock (takeLockCommand { s with pu.lock := lockFromFeedback s }))

/-- BOILER_DRY has left: the boiler passes from DRY_FAULT to OFF, steam wanted is judged again, and the descale makes its
request again (R131, R113, R153). -/
def releaseBoiler (s : State) : State :=
  sduFollow (judgeSteam (if s.sgc.state = .dryFault then enterOff s else s))

/-- The blocks that are told act on a removed trip (R113, R131, R153, R189, R204). -/
def tellRemoved (k : Trip) (s : State) : State :=
  judgeTripHold
    (match k with
     | .cavityOvertemp | .sensor => s
     | .boilerDry => releaseBoiler s
     | .lock => unlockTrip s)

/-- A member whose condition is absent is removed (R203). -/
def clearOne (k : Trip) (s : State) : State :=
  if s.pu.trips.has k && !conditionPresent s k then
    tellRemoved k { s with pu.trips := s.pu.trips.put k false }
  else s

/-- Each member whose condition is absent is removed (R203). -/
def clearTrips (s : State) : State :=
  clearOne .lock (clearOne .sensor (clearOne .boilerDry (clearOne .cavityOvertemp s)))

/-- Some member's condition is absent (R203). -/
def someClearable (s : State) : Bool :=
  (s.pu.trips.cavityOvertemp && !conditionPresent s .cavityOvertemp)
    || (s.pu.trips.boilerDry && !conditionPresent s .boilerDry)
    || (s.pu.trips.sensor && !conditionPresent s .sensor)
    || (s.pu.trips.lock && !conditionPresent s .lock)

/-! ### The restart (R19, R33, R34, R40, R58, R82, R95, R116, R136, R158, R174, R195, R207) -/

/-- The link unit's restart; the configuration copy, the backoff register and a confirmation still to be sent are kept
(R19). -/
def restartLink (s : State) : State :=
  { s with link := { LinkUnit.reset with lfsr := s.link.lfsr, confirmation := s.link.confirmation } }

/-- The order decoder's restart (R40). -/
def restartDecoder (s : State) : State :=
  { s with od := { OrderDecoder.reset with events := Event.configRestored.mask } }

/-- The supply sharing unit's restart: the table kept, the notice period restarted, and a listen-in timer running on
(R52, R58, R63). -/
def restartSupply (s : State) : State :=
  { s with ssu := { SupplyUnit.reset with peers := s.ssu.peers, listenIn := s.ssu.listenIn, period := some 0 } }

/-- The planner's restart: the drive state and its counts kept, the window ended (R82). -/
def restartPlanner (s : State) : State :=
  { s with lpd := { Planner.reset with drive := s.lpd.drive, sinceCrossing := s.lpd.sinceCrossing } }

/-- The steam generator controller's restart (R136). -/
def restartBoiler (s : State) : State :=
  { s with sgc := { Boiler.reset with state := if s.pu.trips.boilerDry then .dryFault else .off } }

/-- The scale and descale unit's restart: the metering sum is added, the write state kept, the failure count cleared
(R158). -/
def restartScale (s : State) : State :=
  let d := s.sdu
  startFromMark (judgeAdvice 0 (setAccount (meteredAccount d)
    { s with sdu := { Scale.reset with
        hardness := d.hardness, mark := d.mark, writing := d.writing, writeTimer := d.writeTimer,
        rewritePending := d.rewritePending, retry := d.retry } }))

/-- The protection unit's restart: the trips kept, a travel abandoned (R207). -/
def restartProtection (s : State) : State :=
  { s with pu := { Protection.reset with
      trips := s.pu.trips, lock := if s.pu.trips.lock then .fault else .unlocked } }

/-- Every block but the link unit takes its restart state (R34). -/
def restartBlocks (s : State) : State :=
  let s1 := restartPlanner (restartSupply (restartDecoder s))
  let s2 := { s1 with mu := .resetWith s.mu.mains, cr := .reset, re := .reset }
  recordAllowance (restartScale (restartBoiler (restartProtection s2)))

/-- The restart takes effect: the queue is emptied before the ASLEEP notice and the EVENTS report enter it (R19, R34,
R58). -/
def restartEffect (s : State) : State := serviceEvents (offerNotice 0 (restartBlocks (restartLink s)))

/-- A restart accepted during listen-in takes effect at once, and in the link unit once its confirmation has been sent
(R19, R33). -/
def restartInListenIn (s : State) : State := restartBlocks { s with link.restartOwed := true }

/-- A restart is made pending and the LEAVE notice offered; one the queue does not take lets the restart take effect at
once (R33, R57). -/
def beginRestart (s : State) : State :=
  let s1 := abandonRaise { s with od.restartPending := true }
  let s2 := offer (.notice (leaveNotice s)) s1
  if queueTakes s1.link then s2 else restartEffect s2

/-- An accepted RESTART (R25, R33). -/
def acceptRestart (s : State) : State :=
  if s.od.restartPending then s
  else if s.ssu.listenIn = none then beginRestart s
  else restartInListenIn s

/-! ### Power (R17, R18, R59, R140, R141) -/

/-- The retained record the C40 finds at power-on. -/
def foundRecord (r : RetainedRead) (store : StoredRecord) : Option StoredRecord :=
  match r with
  | .stored => some store
  | .holds x => some x
  | .noAnswer => none

/-- The scale and descale unit starts from a valid record (R140). -/
def startScaleValid (account hardness : Nat) (m : Mark) (s : State) : State :=
  startFromMark (judgeAdvice 0 (setAccount account { s with sdu.hardness := hardness, sdu.mark := m }))

/-- The scale and descale unit starts from an invalid record: the worst case (R141). -/
def startScaleLost (s : State) : State :=
  requestWrite (raise .retainedLost
    (startFromMark (judgeAdvice 0 (setAccount 200000
      { s with sdu.hardness := s.config.hardness, sdu.mark := .rinseNeeded }))))

/-- The state a power-on starts from: every field at its power-on value, the external memory's record kept, and the
commands that wait. -/
def powerUp (store : StoredRecord) (s : State) : State :=
  { State.reset with pending := s.pending, freeUses := s.freeUses, store }

/-- The blocks start with a valid configuration: listen-in begins and the retained record is read (R17, R59, R140). -/
def startBlocks (c : ConfigCopy) (found : Option StoredRecord) (s : State) : State :=
  let s1 := { s with run := .running, config := c, link.lfsr := c.own.setWidth 16, ssu.listenIn := some 0 }
  serviceEvents
    (match found.bind readRecord with
     | some (account, hardness, m) => startScaleValid account hardness m s1
     | none => startScaleLost s1)

/-- Power-on (R17, R18). -/
def powerOn (config : Option (List Byte)) (retained : RetainedRead) (s : State) : State :=
  let found := foundRecord retained s.store
  let s1 := powerUp (found.getD s.store) s
  match config.bind configOf with
  | some c => startBlocks c found s1
  | none => { s1 with run := .configFault }

/-- The supply fails: everything but the external memory's record is lost; a write in progress leaves the record as the
memory holds it (R141). -/
def powerFails (left : StoredRecord) (s : State) : State :=
  powerUp (if s.sdu.writing.isSome then left else s.store) s

end Sys2Proof.Machine
end

