-- ==== Sys2Proof/Machine/Orders.lean ====
section
/-! DEFINITION. The orders (R22 to R33, R45, R145, R147, R154, R163 to R171, R177, R185, R186, R192, R203): the common
checks once, and for each order its fields, its state refusals and its effect. -/

namespace Sys2Proof.Machine

/-! ### The common checks (R22 to R25) -/

/-- The confirmation the order decoder has chosen, to be sent in the gap (R12). -/
def answer (c : Confirmation) (s : State) : State := { s with link.confirmation := some c }

/-- Listen-in is running: the order is answered BUSY (R24). -/
def listening (s : State) : Bool := s.ssu.listenIn.isSome

/-- Checks 1 to 5 of R22, and R25 at step 4. `parsed` is none where the order is malformed; the refusals and the effect take
its fields. -/
def runOrder {α : Type} (sender : Addr) (parsed : Option α) (busy : Bool) (refusal : α → Option Reason)
    (act : α → State) (s : State) : State :=
  if sender ≠ s.config.console then answer (.refuse .notConsole) s
  else
    match parsed with
    | none => answer (.refuse .malformed) s
    | some a =>
      if busy then answer .busy s
      else if s.od.restartPending then answer (.refuse .notNow) s
      else
        match refusal a with
        | some r => answer (.refuse r) s
        | none => answer .accept (act a)

/-- No state refusal. -/
def neverRefused {α : Type} : α → Option Reason := fun _ => none

/-- The first refusal that applies. -/
def firstOf (checks : List (Bool × Reason)) : Option Reason := (checks.find? Prod.fst).map Prod.snd

/-! ### Fields (§2.2, R23) -/

/-- An order without fields. -/
def noFields : List Byte → Option Unit
  | [] => some ()
  | _ => none

/-- One slot. -/
def slotField : List Byte → Option SlotId
  | [b] => slotOf b
  | _ => none

/-- One stage index, at most 23. -/
def indexField : List Byte → Option Nat
  | [b] => if b.toNat ≤ 23 then some b.toNat else none
  | _ => none

/-- The fields of SET_CLIMATE. -/
structure ClimateFields where
  mode : Mode
  cavity : Int
  humidity : Nat
  fan : Nat
  deriving DecidableEq, Repr

def climateFields : List Byte → Option ClimateFields
  | [m, c0, c1, h0, h1, f] =>
    match modeOf m.toNat with
    | some mode =>
      if f.toNat ≤ 5 then
        some { mode, cavity := (wordOf c0 c1).toInt, humidity := (wordOf h0 h1).toNat, fan := f.toNat }
      else none
    | none => none
  | _ => none

/-- The fields of LOAD_OPEN: slot, stage count, tag. -/
def openFields : List Byte → Option (SlotId × Nat × Nat)
  | [b, n, t0, t1] =>
    match slotOf b with
    | some i => if 1 ≤ n.toNat ∧ n.toNat ≤ 24 then some (i, n.toNat, (wordOf t0 t1).toNat) else none
    | none => none
  | _ => none

/-- A stage index as a stage place. -/
def placeOf (b : Byte) : Option (Fin 24) := if h : b.toNat < 24 then some ⟨b.toNat, h⟩ else none

/-- The fields of LOAD_STAGE: slot, stage index, stage record. -/
def stageFields : List Byte → Option (SlotId × Fin 24 × StageRecord)
  | b :: k :: chars =>
    match slotOf b, placeOf k, stageRecordOf chars with
    | some i, some j, some r => some (i, j, r)
    | _, _, _ => none
  | _ => none

/-- The steps of DESCALE_CONFIRM. -/
inductive ConfirmStep
  | agent | rinse
  deriving DecidableEq, Repr

def stepField : List Byte → Option ConfirmStep
  | [b] => if b = 1 then some .agent else if b = 2 then some .rinse else none
  | _ => none

/-- The hardness field; any value. -/
def hardnessField : List Byte → Option Nat
  | [b] => some b.toNat
  | _ => none

/-- The address field of DROP_PEER, 1–15, as the entry it names. -/
def peerField : List Byte → Option (Fin 15)
  | [b] => if b.toNat ≤ 15 then peerIndex (b.setWidth 4) else none
  | _ => none

/-! ### The general orders (R26 to R33) -/

def orderMalformed (sender : Addr) (s : State) : State :=
  runOrder sender (none : Option Unit) false neverRefused (fun _ => s) s

def orderWake (sender : Addr) (args : List Byte) (s : State) : State :=
  runOrder sender (noFields args) (listening s) neverRefused (fun _ => conclude (wakeUp s)) s

/-- The state refusals of SLEEP, in ACTIVE (R27). -/
def sleepRefusal (s : State) : Option Reason :=
  if s.od.power = .active then
    firstOf [(recipeState s != .idle, .recipeActive), (s.sdu.phase != .idle, .descaling)]
  else none

/-- SLEEP applied: in ACTIVE a MANUAL request ends and the oven winds down (R27). -/
def goToSleep (s : State) : State :=
  if s.od.power = .active then conclude (windDown (if s.cr.owner = .manual then endRequest s else s)) else s

def orderSleep (sender : Addr) (args : List Byte) (s : State) : State :=
  runOrder sender (noFields args) (listening s) (fun _ => sleepRefusal s) (fun _ => goToSleep s) s

/-- RESTART has no state refusal, and a pending restart does not refuse it (R25, R33). -/
def orderRestart (sender : Addr) (args : List Byte) (s : State) : State :=
  if sender ≠ s.config.console then answer (.refuse .notConsole) s
  else
    match noFields args with
    | none => answer (.refuse .malformed) s
    | some _ => answer .accept (acceptRestart s)

/-- The state refusals of SET_CLIMATE (R28). -/
def climateRefusal (f : ClimateFields) (s : State) : Option Reason :=
  let t := s.pu.trips
  firstOf
    [(s.od.power != .active, .asleep), (recipeState s != .idle, .recipeActive),
     (s.sdu.phase != .idle || s.sdu.mark != .none, .descaling),
     (f.mode.steams && decide (260000 ≤ s.sdu.account), .lockout),
     (t.cavityOvertemp || t.sensor || t.lock || (t.boilerDry && f.mode.steams), .tripped)]

/-- The request SET_CLIMATE writes, its setpoints brought into range (R29). -/
def ClimateFields.request (f : ClimateFields) : Request :=
  { mode := f.mode, cavity := clampCavity f.mode f.cavity,
    humidity := if f.mode = .combi then some (clampHumidity f.humidity) else none,
    fan := if f.fan = 0 then 3 else f.fan }

/-- Either setpoint had to be changed (R29). -/
def ClimateFields.clamped (f : ClimateFields) : Bool :=
  clampCavity f.mode f.cavity != f.cavity || (f.mode == .combi && clampHumidity f.humidity != f.humidity)

/-- SET_CLIMATE applied (R29). -/
def applyClimate (f : ClimateFields) (s : State) : State :=
  let s1 := writeRequest .manual f.request s
  serviceEvents (if f.clamped then raise .clamped s1 else s1)

def orderSetClimate (sender : Addr) (args : List Byte) (s : State) : State :=
  runOrder sender (climateFields args) (listening s) (fun f => climateRefusal f s) (fun f => applyClimate f s) s

/-- STOP_CLIMATE is refused while the owner is RECIPE (R30). -/
def orderStopClimate (sender : Addr) (args : List Byte) (s : State) : State :=
  runOrder sender (noFields args) false (fun _ => firstOf [(s.cr.owner == .recipe, .recipeActive)])
    (fun _ => endRequest s) s

/-- SET_HARDNESS applied (R31). -/
def applyHardness (h : Nat) (s : State) : State :=
  let v := min h 40
  let s1 := if v = s.sdu.hardness then s else requestWrite { s with sdu.hardness := v }
  serviceEvents (if 40 < h then raise .clamped s1 else s1)

def orderSetHardness (sender : Addr) (args : List Byte) (s : State) : State :=
  runOrder sender (hardnessField args) (listening s) neverRefused (fun h => applyHardness h s) s

/-- DRAIN_NOW is accepted in COOL under the user CLIMATE (R32). -/
def orderDrainNow (sender : Addr) (args : List Byte) (s : State) : State :=
  runOrder sender (noFields args) (listening s)
    (fun _ => firstOf [(s.sgc.user != .climate || s.sgc.state != .cool, .notNow)]) (fun _ => enterDrain s) s

/-! ### The supply sharing unit's order (R45) -/

/-- The entry is FRESH. -/
def PeerEntry.isFresh : PeerEntry → Bool
  | .fresh _ _ => true
  | _ => false

/-- A STALE entry is emptied and the allowance computed; an EMPTY one stays (R45). -/
def dropPeer (i : Fin 15) (s : State) : State :=
  match s.ssu.peers[i] with
  | .stale _ => compute (setPeer i .empty s)
  | _ => s

def orderDropPeer (sender : Addr) (args : List Byte) (s : State) : State :=
  runOrder sender (peerField args) (listening s)
    (fun i => firstOf [((s.ssu.peers[i]).isFresh, .peerFresh)]) (fun i => dropPeer i s) s

/-! ### The loading orders (R160, R163 to R171) -/

/-- A QUEUED or RUNNING slot is busy (R163, R171). -/
def slotBusyRefusal (i : SlotId) (s : State) : Option Reason := firstOf [((s.re.slot i).busy, .slotBusy)]

def orderLoadOpen (sender : Addr) (args : List Byte) (s : State) : State :=
  runOrder sender (openFields args) (listening s) (fun a => slotBusyRefusal a.1 s)
    (fun a => openSlot a.1 a.2.1 a.2.2 s) s

def orderLoadStage (sender : Addr) (args : List Byte) (s : State) : State :=
  runOrder sender (stageFields args) (listening s)
    (fun a => firstOf [((s.re.slot a.1).state != .loading, .slotState),
                       (decide ((s.re.slot a.1).count ≤ a.2.1.val), .malformed)])
    (fun a => storeStage a.1 a.2.1 a.2.2 s) s

/-- The outcome of LOAD_CLOSE, steps 1 to 3 (R166). -/
def closeRefusal (i : SlotId) (s : State) : Option Reason :=
  let x := s.re.slot i
  firstOf [(x.state != .loading, .slotState), (!x.complete, .missingStages), (!programOk x.records, .badProgram)]

def orderLoadClose (sender : Addr) (args : List Byte) (s : State) : State :=
  runOrder sender (slotField args) (listening s) (fun i => closeRefusal i s)
    (fun i => serviceEvents (closeSlot i s)) s

def orderLoadAbandon (sender : Addr) (args : List Byte) (s : State) : State :=
  runOrder sender (slotField args) (listening s) (fun i => slotBusyRefusal i s) (fun i => emptySlot i s) s

/-! ### The running orders (R177, R185, R186, R192) -/

/-- The state refusals of RECIPE_START (R177). -/
def startRefusal (i : SlotId) (s : State) : Option Reason :=
  let x := s.re.slot i
  firstOf
    [(x.state == .running, .slotBusy), (x.state == .queued, .queueTaken), (x.state != .ready, .slotState),
     (s.od.power != .active, .asleep), (s.sdu.phase != .idle || s.sdu.mark != .none, .descaling),
     (x.steam && decide (260000 ≤ s.sdu.account), .lockout), (s.cr.owner == .manual, .notNow)]

def orderRecipeStart (sender : Addr) (args : List Byte) (s : State) : State :=
  runOrder sender (slotField args) (listening s) (fun i => startRefusal i s)
    (fun i => serviceEvents (startRecipe i s)) s

/-- The stage index in progress, while a slot is RUNNING. -/
def stageInProgress (s : State) : Option Nat :=
  if s.re.running.isSome then s.re.context.map StageContext.index else none

def orderRecipeConfirm (sender : Addr) (args : List Byte) (s : State) : State :=
  runOrder sender (indexField args) (listening s)
    (fun k => firstOf [(recipeState s != .waitPrompt || stageInProgress s != some k, .stalePrompt)])
    (fun _ => serviceEvents (endStage s)) s

def orderRecipeSkip (sender : Addr) (args : List Byte) (s : State) : State :=
  runOrder sender (indexField args) (listening s)
    (fun k => firstOf [(stageInProgress s != some k, .stalePrompt)]) (fun _ => serviceEvents (endStage s)) s

def orderRecipeAbort (sender : Addr) (args : List Byte) (s : State) : State :=
  runOrder sender (noFields args) false neverRefused (fun _ => serviceEvents (abortRecipe s)) s

/-! ### The descale orders (R145, R147, R154) -/

/-- The state refusals of DESCALE_START (R145). -/
def descaleRefusal (s : State) : Option Reason :=
  firstOf
    [(s.od.power != .active, .asleep), (recipeState s != .idle, .recipeActive), (s.cr.owner != .none, .notNow),
     (!s.pu.trips.none, .tripped), (s.sdu.phase != .idle, .notNow)]

/-- DESCALE_START applied: the user is taken and PREP_DRAIN entered (R145, R146). -/
def startDescale (s : State) : State :=
  sduFollow (enterPhase .prepDrain (takeUser { s with sdu.drained := s.sgc.state == .off }))

def orderDescaleStart (sender : Addr) (args : List Byte) (s : State) : State :=
  runOrder sender (noFields args) (listening s || lockTravelling s) (fun _ => descaleRefusal s)
    (fun _ => serviceEvents (startDescale s)) s

/-- The phase waits for this step (R147). -/
def ConfirmStep.awaited : ConfirmStep → Phase → Bool
  | .agent, .awaitAgent | .rinse, .awaitRinse => true
  | _, _ => false

/-- The state refusals of DESCALE_CONFIRM (R147). -/
def confirmRefusal (c : ConfirmStep) (s : State) : Option Reason :=
  firstOf
    [(!c.awaited s.sdu.phase, .notNow), (frozen s, .notNow), (c == .agent && doorOpen s, .notNow)]

/-- DESCALE_CONFIRM applied: AGENT leads to LOCKING, RINSE to the first cycle (R147, R151). -/
def confirmDescale (c : ConfirmStep) (s : State) : State :=
  match c with
  | .agent => sduFollow (enterLocking .awaitAgent s)
  | .rinse => sduFollow (enterRinseFill 1 s)

def orderDescaleConfirm (sender : Addr) (args : List Byte) (s : State) : State :=
  runOrder sender (stepField args) (listening s || lockTravelling s) (fun c => confirmRefusal c s)
    (fun c => serviceEvents (confirmDescale c s)) s

/-- The refusals of DESCALE_ABORT by phase (R154). -/
def abortRefusal (s : State) : Option Reason :=
  match s.sdu.phase with
  | .idle | .done => some .notNow
  | .drainAgent | .awaitRinse | .rinse | .unlocking | .recoverDrain | .recoverRinse => some .rinseRequired
  | .prepDrain | .awaitAgent | .locking | .soakFill | .soakHeat | .soak => none

/-- DESCALE_ABORT applied (R154). -/
def abortDescale (s : State) : State :=
  match s.sdu.phase with
  | .prepDrain | .awaitAgent => leaveDescale s
  | _ => redirect s

def orderDescaleAbort (sender : Addr) (args : List Byte) (s : State) : State :=
  runOrder sender (noFields args) false (fun _ => abortRefusal s) (fun _ => abortDescale s) s

/-! ### The protection unit's order (R203) -/

def orderClearTrip (sender : Addr) (args : List Byte) (s : State) : State :=
  runOrder sender (noFields args) (listening s)
    (fun _ => firstOf [(s.pu.trips.none, .notNow), (!someClearable s, .conditionPresent)])
    (fun _ => conclude (clearTrips s)) s

/-! ### The order decoder (R6, R23) -/

/-- An order handed over with its sender and payload: the code decides, and a payload that is empty or opens with a code
that names no order is malformed (R22, R23, §2.2). -/
def orderArrives (sender : Addr) (payload : List Byte) (s : State) : State :=
  match payload with
  | [] => orderMalformed sender s
  | code :: args =>
    match code.toNat with
    | 1 => orderWake sender args s
    | 2 => orderSleep sender args s
    | 3 => orderRestart sender args s
    | 4 => orderSetClimate sender args s
    | 5 => orderStopClimate sender args s
    | 6 => orderLoadOpen sender args s
    | 7 => orderLoadStage sender args s
    | 8 => orderLoadClose sender args s
    | 9 => orderLoadAbandon sender args s
    | 10 => orderRecipeStart sender args s
    | 11 => orderRecipeConfirm sender args s
    | 12 => orderRecipeSkip sender args s
    | 13 => orderRecipeAbort sender args s
    | 14 => orderDescaleStart sender args s
    | 15 => orderDescaleConfirm sender args s
    | 16 => orderDescaleAbort sender args s
    | 17 => orderSetHardness sender args s
    | 18 => orderDropPeer sender args s
    | 19 => orderClearTrip sender args s
    | 20 => orderDrainNow sender args s
    | _ => orderMalformed sender s

end Sys2Proof.Machine
end

