-- ==== Sys2Proof/Machine/LinkEvents.lean ====
section
/-! DEFINITION. The link unit (chapter 1): the meanings of the power events and of everything that happens on the line. -/

namespace Sys2Proof.Machine

/-- Outside a started C40 nothing but the supply's coming and going has an effect (R18). -/
def whenRunning (f : State → State) (s : State) : State := if s.run = .running then f s else s

/-! ### Power (R17, R141) -/

/-- POWER_ON (R17). -/
def execPowerOn (config : Option (List Byte)) (retained : RetainedRead) (s : State) :
    Host.Outcome State Fault Refusal := .next (powerOn config retained s)

/-- POWER_FAILURE (R141). -/
def execPowerFailure (left : StoredRecord) (s : State) : Host.Outcome State Fault Refusal := .next (powerFails left s)

/-! ### The outcome of a report (R11, R13, R15, R39) -/

/-- What the console's acceptance of a report does. -/
def acceptReport (r : Report) (s : State) : State :=
  match r with
  | .cycle _ => s
  | .events carried => { s with od.events := s.od.events &&& ~~~carried }
  | .diag held lost _ =>
    { s with link.latch := if held then none else s.link.latch, link.lost := if lost then false else s.link.lost }

/-- The confirmation of the report at the head has been awaited: it leaves the queue, and its owner is told. -/
def reportOutcome (accepted : Bool) (s : State) : State :=
  match s.link.tx, s.link.queue with
  | .awaiting, f :: rest =>
    let s1 := { s with link.tx := .idle, link.queue := rest }
    match f.body with
    | .report r => if accepted then acceptReport r s1 else s1
    | .notice _ => s1
  | _, _ => s

/-! ### Receiving (R1, R3, R5, R6, R15, R16) -/

/-- The C40 is driving a frame. -/
def sendingFrame (s : State) : Bool :=
  match s.link.tx with
  | .sending _ => true
  | _ => false

/-- Reception fails: the frame is dropped and counted as a bad frame (R3). -/
def failReception (c : ReceptionFailure) (s : State) : State :=
  countBad { s with link.rx := if c = .earlyIdle then .idle else .waitIdle }

/-- The line becomes idle: an awaited confirmation has not come, a frame cut short fails, and the next start bit begins a
frame (R1, R3, R13). While the C40 drives a frame the line is not idle. -/
def lineBecomesIdle (s : State) : State :=
  if sendingFrame s then s
  else
    let s1 := reportOutcome false s
    if s1.link.rx = .receiving then failReception .earlyIdle s1 else { s1 with link.rx := .idle }

/-- LINE_IDLE (R1). -/
def execLineIdle (s : State) : Host.Outcome State Fault Refusal := .next (whenRunning lineBecomesIdle s)

/-- The whole slots of backoff that have passed on the idle clock, for the frame at the head (R7). -/
def passedSlots (f : Frame) (idleBits : Nat) : Nat := (idleBits - (12 + 20 * f.accessWait)) / 20

/-- An attempt ends at another station's start bit (R7). -/
def endAttempt (idleBits : Nat) (s : State) : State :=
  match s.link.tx, s.link.queue with
  | .idle, f :: rest => { s with link.queue := { f with backoff := f.backoff - passedSlots f idleBits } :: rest }
  | _, _ => s

/-- A start bit on an idle line begins the reception of a frame (R3, R7). -/
def startReception (idleBits : Nat) (s : State) : State :=
  if s.link.rx = .idle then endAttempt idleBits { s with link.rx := .receiving } else s

/-- FRAME_START (R3). -/
def execFrameStart (idleBits : Nat) (s : State) : Host.Outcome State Fault Refusal :=
  .next (whenRunning (startReception idleBits) s)

/-- The correction latch takes a CORRECTED frame's syndrome, sender and kind, or the lost-correction flag is set (R15). -/
def latchCorrection (syndrome : Nat) (t : Taken) (s : State) : State :=
  match s.link.latch with
  | none => { s with link.latch := some { syndrome, sender := t.sender, kind := t.kind } }
  | some _ => { s with link.lost := true }

/-- A notice is applied to the entry at its sender address; one bearing the own address raises DUP_ADDRESS; an allowance
computation follows (R42, R44). Address 0 has no entry (§3.2). -/
def noticeArrives (sender : Addr) (n : Notice) (s : State) : State :=
  match peerIndex sender with
  | none => s
  | some i =>
    let s1 := setPeer i (.ofNotice n) s
    serviceEvents (compute (if sender = s.config.own then raise .dupAddress s1 else s1))

/-- A taken frame from the console restarts the silence timer, which runs only in ACTIVE (R16). -/
def heardConsole (t : Taken) (s : State) : State :=
  if t.sender = s.config.console ∧ s.od.power = .active then { s with link.silence := some 0 } else s

/-- A taken frame is used by its corrected kind (R6). -/
def useFrame (t : Taken) (s : State) : State :=
  if t.kind = 1 then
    match noticeOf t.payload with
    | some n => noticeArrives t.sender n s
    | none => countForeign s
  else if t.kind = 2 then if t.target = s.config.own then orderArrives t.sender t.payload s else s
  else if t.kind = 3 then s
  else countForeign s

/-- A frame that is taken (R6, R16). -/
def takeFrame (t : Taken) (s : State) : State := useFrame t (heardConsole t s)

/-- A complete frame's outcome at the check code is counted, and a frame that is taken goes on (R5, R14, R15). -/
def judgeFrame (o : CheckOutcome) (s : State) : State :=
  match o with
  | .clean data => takeFrame (takenOf data) (countClean s)
  | .corrected data syndrome =>
    takeFrame (takenOf data) (latchCorrection syndrome (takenOf data) (countCorrected s))
  | .bad => countBad s

/-- The characters of a frame have arrived; the receiver then waits for the line to be idle (R3, R5). -/
def frameArrives (chars : List Byte) (s : State) : State :=
  if s.link.rx = .receiving then
    match receive chars with
    | .failed c => failReception c s
    | .complete o => judgeFrame o { s with link.rx := .waitIdle }
  else s

/-- FRAME_RECEIVED (R5). -/
def execFrameReceived (chars : List Byte) (s : State) : Host.Outcome State Fault Refusal :=
  .next (whenRunning (frameArrives chars) s)

/-- A reception fails (R3). -/
def receptionFails (c : ReceptionFailure) (s : State) : State :=
  if s.link.rx = .receiving then failReception c s else s

/-- RECEPTION_FAILED (R3). -/
def execReceptionFailed (c : ReceptionFailure) (s : State) : Host.Outcome State Fault Refusal :=
  .next (whenRunning (receptionFails c) s)

/-- NOTICE_RECEIVED (R42). -/
def execNoticeReceived (sender : Addr) (n : Notice) (s : State) : Host.Outcome State Fault Refusal :=
  .next (whenRunning (noticeArrives sender n) s)

/-! ### Sending (R7, R8, R11, R12, R13) -/

/-- The confirmation has been sent; a listen-in RESTART now takes effect in the link unit, and the EVENTS report enters the
emptied queue (R12, R19, R33). -/
def confirmationGone (s : State) : State :=
  match s.link.confirmation with
  | none => s
  | some _ =>
    let s1 := if s.link.restartOwed then restartLink s else s
    serviceEvents { s1 with link.confirmation := none }

/-- CONFIRMATION_SENT (R12). -/
def execConfirmationSent (s : State) : Host.Outcome State Fault Refusal := .next (whenRunning confirmationGone s)

/-- The frame at the head may begin: the C40 is not receiving, sending a confirmation or awaiting one, and the idle clock has
reached the access wait and the backoff owed (R7). -/
def mayBegin (f : Frame) (idleBits : Nat) (s : State) : Bool :=
  s.link.rx == .idle && s.link.tx == .idle && s.link.confirmation == none
    && decide (12 + 20 * (f.accessWait + f.backoff) ≤ idleBits)

/-- The frame at the head begins (R2, R4, R7). -/
def beginFrame (idleBits : Nat) (s : State) : State :=
  match s.link.queue with
  | [] => s
  | f :: rest =>
    if mayBegin f idleBits s then
      { s with link.tx := .sending (frameChars s.config f.body), link.rx := .waitIdle,
               link.queue := { f with backoff := 0 } :: rest }
    else s

/-- FRAME_BEGIN (R7). -/
def execFrameBegin (idleBits : Nat) (s : State) : Host.Outcome State Fault Refusal :=
  .next (whenRunning (beginFrame idleBits) s)

/-- One step of the backoff register (R8). -/
def lfsrStep (r : BitVec 16) : BitVec 16 :=
  let b := r.getLsbD 15 ^^ r.getLsbD 13 ^^ r.getLsbD 12 ^^ r.getLsbD 10
  (r <<< 1) ||| (if b then 1 else 0)

/-- The backoff a register value gives, 1 to 16 slots (R8). -/
def backoffOf (r : BitVec 16) : Nat := r.toNat % 16 + 1

/-- A notice has left the queue, sent or dropped: a RAISE moves the raise, and the LEAVE of a pending restart lets it take
effect (R11, R33, R54). -/
def noticeLeft (f : Frame) (sent : Bool) (s : State) : State :=
  if f.isLeave && s.od.restartPending then restartEffect s
  else if f.isRaise then if sent then raiseSent s else raiseDropped s
  else s

/-- A collision on the frame being sent (R8): the C40 stops, goes on receiving the other station's frame, and the frame
keeps its place and draws a backoff or, at its eighth collision, is dropped. -/
def collide (s : State) : State :=
  match s.link.tx, s.link.queue with
  | .sending _, f :: rest =>
    let s1 := countCollision { s with link.tx := .idle, link.rx := .receiving }
    if 8 ≤ f.collisions + 1 then noticeLeft f false (countDropped { s1 with link.queue := rest })
    else
      let r := lfsrStep s.link.lfsr
      { s1 with link.lfsr := r,
                link.queue := { f with collisions := f.collisions + 1, backoff := backoffOf r } :: rest }
  | _, _ => s

/-- COLLISION_DETECTED (R8). -/
def execCollisionDetected (s : State) : Host.Outcome State Fault Refusal := .next (whenRunning collide s)

/-- The last stop bit of the frame has gone out: a notice leaves the queue, a report awaits its confirmation (R11, R13). -/
def frameGone (s : State) : State :=
  match s.link.tx, s.link.queue with
  | .sending _, f :: rest =>
    if f.isNotice then noticeLeft f true { s with link.tx := .idle, link.queue := rest }
    else { s with link.tx := .awaiting }
  | _, _ => s

/-- FRAME_SENT (R11). -/
def execFrameSent (s : State) : Host.Outcome State Fault Refusal := .next (whenRunning frameGone s)

/-- The first character heard decides whether the report was accepted (R13). -/
def hearConfirmation (char : Option Byte) (s : State) : State := reportOutcome (char == some 0x20) s

/-- REPORT_CONFIRMATION (R13). -/
def execReportConfirmation (char : Option Byte) (s : State) : Host.Outcome State Fault Refusal :=
  .next (whenRunning (hearConfirmation char) s)

/-- CONFIRMATION_WAIT_EXPIRED (R13). -/
def execConfirmationWaitExpired (s : State) : Host.Outcome State Fault Refusal :=
  .next (whenRunning (reportOutcome false) s)

end Sys2Proof.Machine
end

