-- ==== Sys2Proof/Machine/DriveEvents.lean ====
section
/-! DEFINITION. The load planner and burst drive's events (chapter 4): zero crossings and their absence. -/

namespace Sys2Proof.Machine

/-- ZERO_CROSSING (R66). -/
def execZeroCrossing (interval : Nat) (s : State) : Host.Outcome State Fault Refusal :=
  .next (whenRunning (crossing interval) s)

/-- 100 ms without a crossing in MEASURING: the measurement is abandoned (R65). -/
def abandonMeasure (s : State) : State :=
  match s.lpd.drive with
  | .measuring _ _ _ => { s with lpd.drive := .measuring false 0 0, lpd.sinceCrossing := 0 }
  | _ => s

/-- MEASURE_TIMEOUT (R65). -/
def execMeasureTimeout (s : State) : Host.Outcome State Fault Refusal := .next (whenRunning abandonMeasure s)

/-- 100 ms without an accepted crossing in RUNNING (R67). -/
def mainsLost (s : State) : State :=
  match s.lpd.drive with
  | .running => enterMainsAbsent s
  | _ => s

/-- MAINS_TIMEOUT (R67). -/
def execMainsTimeout (s : State) : Host.Outcome State Fault Refusal := .next (whenRunning mainsLost s)

/-- 100 ms without a crossing in MAINS_ABSENT: the count becomes 0 (R69). -/
def abandonRecovery (s : State) : State :=
  match s.lpd.drive with
  | .mainsAbsent _ _ => { s with lpd.drive := .mainsAbsent false 0, lpd.sinceCrossing := 0 }
  | _ => s

/-- RECOVERY_TIMEOUT (R69). -/
def execRecoveryTimeout (s : State) : Host.Outcome State Fault Refusal := .next (whenRunning abandonRecovery s)

end Sys2Proof.Machine
end

