-- ==== Sys2Proof/Machine/OrderEvents.lean ====
section
/-! DEFINITION. The meanings of the orders, each handed to the order decoder with its corrected sender and the characters
after its code (R6, R22). The frame that brings an order, and its effect on the silence timer, are FRAME_RECEIVED's. -/

namespace Sys2Proof.Machine

/-- ORDER_MALFORMED_CODE: a payload that names no order (R23). -/
def execOrderMalformedCode (sender : Addr) (_payload : List Byte) (s : State) : Host.Outcome State Fault Refusal :=
  .next (whenRunning (orderMalformed sender) s)

/-- WAKE (R26). -/
def execWake (sender : Addr) (args : List Byte) (s : State) : Host.Outcome State Fault Refusal :=
  .next (whenRunning (orderWake sender args) s)

/-- SLEEP (R27). -/
def execSleep (sender : Addr) (args : List Byte) (s : State) : Host.Outcome State Fault Refusal :=
  .next (whenRunning (orderSleep sender args) s)

/-- RESTART (R33). -/
def execRestart (sender : Addr) (args : List Byte) (s : State) : Host.Outcome State Fault Refusal :=
  .next (whenRunning (orderRestart sender args) s)

/-- SET_CLIMATE (R29). -/
def execSetClimate (sender : Addr) (args : List Byte) (s : State) : Host.Outcome State Fault Refusal :=
  .next (whenRunning (orderSetClimate sender args) s)

/-- STOP_CLIMATE (R30). -/
def execStopClimate (sender : Addr) (args : List Byte) (s : State) : Host.Outcome State Fault Refusal :=
  .next (whenRunning (orderStopClimate sender args) s)

/-- LOAD_OPEN (R163). -/
def execLoadOpen (sender : Addr) (args : List Byte) (s : State) : Host.Outcome State Fault Refusal :=
  .next (whenRunning (orderLoadOpen sender args) s)

/-- LOAD_STAGE (R164). -/
def execLoadStage (sender : Addr) (args : List Byte) (s : State) : Host.Outcome State Fault Refusal :=
  .next (whenRunning (orderLoadStage sender args) s)

/-- LOAD_CLOSE (R166). -/
def execLoadClose (sender : Addr) (args : List Byte) (s : State) : Host.Outcome State Fault Refusal :=
  .next (whenRunning (orderLoadClose sender args) s)

/-- LOAD_ABANDON (R171). -/
def execLoadAbandon (sender : Addr) (args : List Byte) (s : State) : Host.Outcome State Fault Refusal :=
  .next (whenRunning (orderLoadAbandon sender args) s)

/-- RECIPE_START (R177, R178). -/
def execRecipeStart (sender : Addr) (args : List Byte) (s : State) : Host.Outcome State Fault Refusal :=
  .next (whenRunning (orderRecipeStart sender args) s)

/-- RECIPE_CONFIRM (R185). -/
def execRecipeConfirm (sender : Addr) (args : List Byte) (s : State) : Host.Outcome State Fault Refusal :=
  .next (whenRunning (orderRecipeConfirm sender args) s)

/-- RECIPE_SKIP (R186). -/
def execRecipeSkip (sender : Addr) (args : List Byte) (s : State) : Host.Outcome State Fault Refusal :=
  .next (whenRunning (orderRecipeSkip sender args) s)

/-- RECIPE_ABORT (R192). -/
def execRecipeAbort (sender : Addr) (args : List Byte) (s : State) : Host.Outcome State Fault Refusal :=
  .next (whenRunning (orderRecipeAbort sender args) s)

/-- DESCALE_START (R145). -/
def execDescaleStart (sender : Addr) (args : List Byte) (s : State) : Host.Outcome State Fault Refusal :=
  .next (whenRunning (orderDescaleStart sender args) s)

/-- DESCALE_CONFIRM (R147). -/
def execDescaleConfirm (sender : Addr) (args : List Byte) (s : State) : Host.Outcome State Fault Refusal :=
  .next (whenRunning (orderDescaleConfirm sender args) s)

/-- DESCALE_ABORT (R154). -/
def execDescaleAbort (sender : Addr) (args : List Byte) (s : State) : Host.Outcome State Fault Refusal :=
  .next (whenRunning (orderDescaleAbort sender args) s)

/-- SET_HARDNESS (R31). -/
def execSetHardness (sender : Addr) (args : List Byte) (s : State) : Host.Outcome State Fault Refusal :=
  .next (whenRunning (orderSetHardness sender args) s)

/-- DROP_PEER (R45). -/
def execDropPeer (sender : Addr) (args : List Byte) (s : State) : Host.Outcome State Fault Refusal :=
  .next (whenRunning (orderDropPeer sender args) s)

/-- CLEAR_TRIP (R203). -/
def execClearTrip (sender : Addr) (args : List Byte) (s : State) : Host.Outcome State Fault Refusal :=
  .next (whenRunning (orderClearTrip sender args) s)

/-- DRAIN_NOW (R32). -/
def execDrainNow (sender : Addr) (args : List Byte) (s : State) : Host.Outcome State Fault Refusal :=
  .next (whenRunning (orderDrainNow sender args) s)

end Sys2Proof.Machine
end

