-- ==== Sys2Proof/Machine/Sensors.lean ====
section
/-! DEFINITION. The measurement unit (chapter 5): classification, rings, linearisation, the cavity values, debouncing
and the tank state. -/

namespace Sys2Proof.Machine

/-! ### Analog channels (R84 to R88) -/

/-- The class of a code (R84). -/
inductive CodeClass
  | short | valid | open
  deriving DecidableEq, Repr

def classify (code : Nat) : CodeClass :=
  if code ≤ 7 then .short else if code ≤ 1015 then .valid else .open

/-- A valid code enters the ring; the oldest leaves a full one (R84). -/
def pushCode (ring : List Nat) (code : Nat) : List Nat :=
  (if ring.length < 8 then ring else ring.drop 1) ++ [code]

/-- The linearisation tables: 17 values at codes 0, 64, …, 1024 (R87). -/
def platinumTable : List Int :=
  [-400, -190, 20, 232, 445, 660, 876, 1093, 1312, 1532, 1754, 1977, 2202, 2428, 2656, 2885, 3115]

def probeTable : List Int :=
  [0, 0, 50, 140, 225, 305, 380, 450, 520, 590, 660, 735, 815, 905, 1010, 1140, 1200]

def boilerTable : List Int :=
  [-400, -50, 150, 290, 400, 495, 580, 660, 740, 820, 905, 995, 1095, 1215, 1375, 1625, 2100]

def humTable : List Int :=
  [0, 0, 40, 108, 176, 244, 312, 380, 448, 516, 584, 652, 720, 788, 856, 924, 992]

/-- The value of a published code by its table (R87). -/
def linearise (table : List Int) (c : Nat) : Int :=
  let j := c / 64
  let v0 := table.getD j 0
  let v1 := table.getD (j + 1) 0
  v0 + ((v1 - v0) * ((c - 64 * j : Nat) : Int)).tdiv 64

/-- The published code: the mean of the ring's 8 codes, rounded toward zero (R86). -/
def publishedCode (ring : List Nat) : Nat := ring.sum / 8

/-- The status and ring after a round's code (R84, R85). -/
def classified (ch : Channel) (code : Nat) : Status × List Nat :=
  match classify code with
  | .short => (.short, [])
  | .open => (.open, [])
  | .valid =>
    let ring := pushCode ch.ring code
    (if ring.length < 8 then ch.status else .valid, ring)

/-- A channel at the end of a round (R84 to R86); `unready` is what a channel that is not VALID publishes. -/
def sampleChannel (table : List Int) (unready : Status → Reading) (ch : Channel) (code : Nat) : Channel :=
  let (status, ring) := classified ch code
  { status, ring,
    value := if status = .valid then .value (linearise table (publishedCode ring)) else unready status }

/-- STARTING, SHORT and OPEN publish INVALID (R86). -/
def unreadyInvalid : Status → Reading := fun _ => .invalid

/-- The probe publishes INVALID when SHORT and ABSENT when OPEN or STARTING (R88). -/
def unreadyProbe : Status → Reading
  | .short => .invalid
  | _ => .absent

/-! ### The cavity values (R89 to R91) -/

def regulatedOf (a b : Reading) : Option Int :=
  match a, b with
  | .value x, .value y => some ((x + y).tdiv 2)
  | .value x, _ => some x
  | _, .value y => some y
  | _, _ => none

def tripCavityOf (a b : Reading) : Option Int :=
  match a, b with
  | .value x, .value y => some (max x y)
  | .value x, _ => some x
  | _, .value y => some y
  | _, _ => none

/-- Both cavity channels are VALID and differ by more than 25.0 °C (R91). -/
def disagreeing (a b : Reading) : Bool :=
  match a, b with
  | .value x, .value y => 250 < (x - y).natAbs
  | _, _ => false

/-! ### Switches (R92, R93) -/

/-- A switch channel at the end of a round (R92). -/
def sampleSwitch (w : Switch) (level : Bool) : Switch :=
  let n := if w.runLevel = level ∧ 0 < w.runLength then min (w.runLength + 1) 3 else 1
  { published := if n = 3 then some level else w.published, runLevel := level, runLength := n }

/-- The tank state from the published levels of TANK_PRESENT and TANK_LOW (R93). -/
def tankOf (present low : Option Bool) : TankState :=
  if present = some true then if low = some false then .present else .low else .absent

/-! ### The round -/

/-- The measurement unit after a sampling round (R83). -/
def sampleAll (m : Measurement) (x : Samples) : Measurement :=
  let cavA := sampleChannel platinumTable unreadyInvalid m.cavA x.cavA.toNat
  let cavB := sampleChannel platinumTable unreadyInvalid m.cavB x.cavB.toNat
  let tankPresent := sampleSwitch m.tankPresent x.tankPresent
  let tankLow := sampleSwitch m.tankLow x.tankLow
  let n := if disagreeing cavA.value cavB.value then min (m.disagreeCount + 1) 300 else 0
  { cavA, cavB
    probe := sampleChannel probeTable unreadyProbe m.probe x.probe.toNat
    boiler := sampleChannel boilerTable unreadyInvalid m.boiler x.boiler.toNat
    hum := sampleChannel humTable unreadyInvalid m.hum x.hum.toNat
    levelLow := sampleSwitch m.levelLow x.levelLow
    levelHigh := sampleSwitch m.levelHigh x.levelHigh
    tankPresent, tankLow
    door := sampleSwitch m.door x.door
    lockFb := sampleSwitch m.lockFb x.lockFb
    regulated := regulatedOf cavA.value cavB.value
    tripCavity := tripCavityOf cavA.value cavB.value
    disagreeCount := n
    disagreement := n == 300
    tank := tankOf tankPresent.published tankLow.published
    mains := m.mains }

end Sys2Proof.Machine
end

