-- ==== Sys2Proof/Machine/ProcessEvents.lean ====
section
/-! DEFINITION. The events of the oven's processes (chapters 5 to 11): the sampling round and its publication, the regulator
step, the boiler's timers, the scale and descale unit's ticks and writes, the stage tick and the lock's travel. -/

namespace Sys2Proof.Machine

/-! ### The publication (chapter 5) -/

/-- A switch is published for the first time since a reset (R92, R136, R207). -/
def firstPublished (before after : Switch) : Bool := before.published.isNone && after.published.isSome

/-- The blocks act on a published set: the protection unit, the boiler, the descale, the recipe's PROBE hold and the fan
(R109, R117, R149 to R151, R188, R196 to R201). The manual leaves their order open (notes/assumptions/14), and DESIGN CHOICE
(notes/assumptions/49): an entry to COOL and a mark change at one publication make two requests for a retained write. -/
def reactToPublication (firstLow firstFb : Bool) (s : State) : State :=
  refreshFan (probePublication (sduPublication (boilerPublication firstLow (protectPublication firstFb s))))

/-- A sampling round: all channels sampled and published as one set, and the blocks act on it (R83). -/
def samplingRound (x : Samples) (s : State) : State :=
  let m := sampleAll s.mu x
  conclude (reactToPublication (firstPublished s.mu.levelLow m.levelLow) (firstPublished s.mu.lockFb m.lockFb)
    { s with mu := m })

/-- SAMPLING_ROUND (R83). -/
def execSamplingRound (x : Samples) (s : State) : Host.Outcome State Fault Refusal :=
  .next (whenRunning (samplingRound x) s)

/-- The disagreement of the cavity channels has gone on for 300 rounds (R91, R201). -/
def disagreementPersists (s : State) : State :=
  if disagreeing s.mu.cavA.value s.mu.cavB.value then
    conclude (addTrip .sensor { s with mu.disagreeCount := 300, mu.disagreement := true })
  else s

/-- DISAGREEMENT_CONDITION (R91). -/
def execDisagreementCondition (s : State) : Host.Outcome State Fault Refusal :=
  .next (whenRunning disagreementPersists s)

/-! ### Climate (chapter 6) -/

/-- REGULATOR_STEP (R101). -/
def execRegulatorStep (s : State) : Host.Outcome State Fault Refusal := .next (whenRunning regulatorTick s)

/-- The fan's next switching point in its cycle: the end of the on time, or the end of the cycle (R109). -/
def fanSwitch (s : State) : State :=
  match s.cr.fanCycle with
  | none => s
  | some t =>
    let on := fanLevel s * 200
    { s with cr.fanCycle := some (if t < on ∧ on < 1000 then on else 0) }

/-- FAN_CYCLE (R109). -/
def execFanCycle (s : State) : Host.Outcome State Fault Refusal := .next (whenRunning fanSwitch s)

/-! ### The boiler (chapter 7) -/

/-- 200 ms after a pulse, while the three conditions go on holding, a further pulse is given (R118). -/
def furtherPulse (s : State) : State :=
  if s.sgc.pulseTimer ≠ none ∧ pumpMay s = true then serviceEvents (givePulse s) else s

/-- FILL_PULSE (R118). -/
def execFillPulse (s : State) : Host.Outcome State Fault Refusal := .next (whenRunning furtherPulse s)

/-- A pulse has driven the pump for 100 ms (R118); a pulse that has driven it for less goes on (notes/assumptions/8). -/
def pulseEnds (s : State) : State := if s.sgc.pumpDrive = some 100 then { s with sgc.pumpDrive := none } else s

/-- FILL_PULSE_END (R118). -/
def execFillPulseEnd (s : State) : Host.Outcome State Fault Refusal := .next (whenRunning pulseEnds s)

/-- The WAIT_WATER wait reaches 2000 ms (R127). -/
def waitEnds (s : State) : State :=
  if s.sgc.state = .waitWater ∧ s.sgc.wait ≠ none then serviceEvents (sduFollow (enterFill s)) else s

/-- WAIT_WATER_EXPIRED (R127). -/
def execWaitWaterExpired (s : State) : Host.Outcome State Fault Refusal := .next (whenRunning waitEnds s)

/-- The COOL time reaches 1,800,000 ms (R129). -/
def coolTimeEnds (s : State) : State :=
  if s.sgc.state = .cool then judgeCool { s with sgc.coolTime := 1800000 } else s

/-- COOL_TIME_EXPIRED (R129). -/
def execCoolTimeExpired (s : State) : Host.Outcome State Fault Refusal := .next (whenRunning coolTimeEnds s)

/-- The state passes from DRAIN to OFF; a descale learns that its drain has ended (R130, R133). -/
def drainEnds (s : State) : State :=
  enterOff (if s.sgc.user = .descale then { s with sdu.drained := true } else s)

/-- The drain count reaches 40,000 ms, which it does while the drain pump runs (R130). -/
def drainComplete (s : State) : State :=
  if s.sgc.state = .drain ∧ tankSeated s = true then conclude (sduFollow (drainEnds s)) else s

/-- DRAIN_COMPLETE (R130). -/
def execDrainComplete (s : State) : Host.Outcome State Fault Refusal := .next (whenRunning drainComplete s)

/-! ### Scale and descale (chapter 8) -/

/-- METERING_TICK (R137). -/
def execMeteringTick (s : State) : Host.Outcome State Fault Refusal :=
  .next (whenRunning (fun s => serviceEvents (meteringTick s)) s)

/-- The memory reports a write complete, and the record is read back and compared (R143). -/
def writeReported (readBack : StoredRecord) (s : State) : State :=
  match s.sdu.writing with
  | none => s
  | some w =>
    let s1 := { s with store := readBack }
    if readBack = w then writeAgreed s1 else writeFailed s1

/-- RETAINED_WRITE_COMPLETE (R143). -/
def execRetainedWriteComplete (readBack : StoredRecord) (s : State) : Host.Outcome State Fault Refusal :=
  .next (whenRunning (writeReported readBack) s)

/-- 20 ms have passed without the memory's report (R143). -/
def writeUnreported (held : StoredRecord) (s : State) : State :=
  if s.sdu.writing = none then s else writeFailed { s with store := held }

/-- RETAINED_WRITE_TIMEOUT (R143). -/
def execRetainedWriteTimeout (held : StoredRecord) (s : State) : Host.Outcome State Fault Refusal :=
  .next (whenRunning (writeUnreported held) s)

/-- The soak count reaches 1200 (R150). -/
def soakCompletes (s : State) : State :=
  if soaking s then serviceEvents (sduFollow { s with sdu.soakCount := 1200 }) else s

/-- SOAK_COMPLETE (R150). -/
def execSoakComplete (s : State) : Host.Outcome State Fault Refusal := .next (whenRunning soakCompletes s)

/-- The heating time reaches 600 s (R151). -/
def heatLimit (s : State) : State :=
  if rinseHeating s then serviceEvents (endRinseHeat { s with sdu.heatingTime := 600 }) else s

/-- RINSE_HEAT_LIMIT (R151). -/
def execRinseHeatLimit (s : State) : Host.Outcome State Fault Refusal := .next (whenRunning heatLimit s)

/-! ### Recipe (chapter 10) -/

/-- STAGE_TICK (R183). -/
def execStageTick (s : State) : Host.Outcome State Fault Refusal :=
  .next (whenRunning (fun s => serviceEvents (stageTick s)) s)

/-! ### Lock (chapter 11) -/

/-- A travel reaches 3000 ms without its feedback (R198, R199); a travel that has run for less goes on
(notes/assumptions/8). -/
def travelTimesOut (s : State) : State :=
  if lockTravelling s = true ∧ s.pu.travel = 3000 then conclude (lockFault s) else s

/-- LOCK_TRAVEL_TIMEOUT (R198). -/
def execLockTravelTimeout (s : State) : Host.Outcome State Fault Refusal := .next (whenRunning travelTimesOut s)

end Sys2Proof.Machine
end

