-- ==== Sys2Proof/Machine/Reports.lean ====
section
/-! DEFINITION. The reports the order decoder builds (§2.2, R35 to R37): their payloads, from the state as it stands. -/

namespace Sys2Proof.Machine

/-! ### Codes (§2.2) -/

def Power.code : Power → Nat
  | .standby => 0 | .active => 1 | .windDown => 2

def Mode.code : Mode → Nat
  | .convection => 1 | .topBottom => 2 | .grill => 3 | .steam => 4 | .combi => 5 | .keepWarm => 6

def Owner.code : Owner → Nat
  | .none => 0 | .manual => 1 | .recipe => 2

def LockState.code : LockState → Nat
  | .unlocked => 0 | .locking => 1 | .locked => 2 | .unlocking => 3 | .fault => 4

def BoilerState.code : BoilerState → Nat
  | .off => 0 | .fill => 1 | .heat => 2 | .steam => 3 | .refill => 4 | .waitWater => 5 | .cool => 6 | .drain => 7
  | .dryFault => 8

def BoilerUser.code : BoilerUser → Nat
  | .climate => 0 | .descale => 1

def TankState.code : TankState → Nat
  | .absent => 0 | .low => 1 | .present => 2

def Phase.code : Phase → Nat
  | .idle => 0 | .prepDrain => 1 | .awaitAgent => 2 | .locking => 3 | .soakFill => 4 | .soakHeat => 5 | .soak => 6
  | .drainAgent => 7 | .awaitRinse => 8 | .rinse => 9 | .unlocking => 10 | .done => 11 | .recoverDrain => 12
  | .recoverRinse => 13

def RecipeState.code : RecipeState → Nat
  | .idle => 0 | .running => 1 | .pausedDoor => 2 | .waitPrompt => 3 | .held => 4

def SlotState.code : SlotState → Nat
  | .empty => 0 | .loading => 1 | .ready => 2 | .queued => 3 | .running => 4

/-- Running slot, queued slot: none 0, A 1, B 2. -/
def slotCode : Option SlotId → Nat
  | none => 0
  | some .a => 1
  | some .b => 2

/-- The hold-reason set: bit 0 POWER, bit 1 WATER, bit 2 PROBE, bit 3 TRIP. -/
def HoldSet.code (h : HoldSet) : Nat :=
  h.power.toNat + 2 * h.water.toNat + 4 * h.probe.toNat + 8 * h.trip.toNat

/-- One character. -/
def char1 (n : Nat) : List Byte := [BitVec.ofNat 8 n]

/-- A temperature or humidity field: 8000h stands for INVALID and 8001h for ABSENT. -/
def readingChars : Reading → List Byte
  | .value v => chars2Int v
  | .invalid => chars2 0x8000
  | .absent => chars2 0x8001

/-! ### The cycle reports -/

/-- CLIMATE, 18 characters (§2.2, R115, R206). -/
def climatePayload (s : State) : List Byte :=
  let r := s.cr.request
  char1 1 ++ char1 s.od.power.code ++ char1 ((r.map fun q => q.mode.code).getD 0) ++ char1 s.cr.owner.code
    ++ chars2Int ((r.map Request.cavity).getD 0) ++ chars2 ((r.bind Request.humidity).getD 0)
    ++ readingChars (match s.mu.regulated with | some v => .value v | none => .invalid)
    ++ readingChars s.mu.hum.value ++ readingChars s.mu.probe.value
    ++ char1 (fanLevel s) ++ char1 s.cr.ventOpen.toNat ++ char1 (doorOpen s).toNat ++ char1 s.pu.lock.code

def freshCount (s : State) : Nat :=
  (s.ssu.peers.toList.filter fun e => match e with | .fresh _ _ => true | _ => false).length

def staleCount (s : State) : Nat :=
  (s.ssu.peers.toList.filter fun e => match e with | .stale _ => true | _ => false).length

/-- SUPPLY, 19 characters (§2.2, R62). -/
def supplyPayload (s : State) : List Byte :=
  char1 2 ++ chars2 s.ssu.claim ++ chars2 s.ssu.announced ++ chars2 s.ssu.lastW ++ chars2 s.ssu.lastFo
    ++ chars2 s.ssu.lastA ++ chars2 s.lpd.pool ++ char1 s.ssu.starved.toNat ++ char1 s.ssu.contention.toNat
    ++ char1 (freshCount s) ++ char1 (staleCount s) ++ chars2 s.lpd.shed

/-- WATER, 11 characters (§2.2, R135, R157). -/
def waterPayload (s : State) : List Byte :=
  char1 3 ++ char1 s.sgc.state.code ++ char1 s.sgc.user.code ++ readingChars s.mu.boiler.value
    ++ char1 s.mu.tank.code ++ chars2 (s.sdu.account / 200) ++ char1 s.sdu.hardness ++ char1 s.sdu.phase.code
    ++ char1 s.sdu.mark.code

/-- RECIPE, 16 characters (§2.2, R194). -/
def recipePayload (s : State) : List Byte :=
  let c := s.re.context
  let prompt := c.bind StageContext.prompt
  char1 4 ++ char1 (recipeState s).code ++ char1 s.re.holds.code ++ char1 (slotCode s.re.running)
    ++ char1 (slotCode s.re.queued) ++ char1 s.re.slotA.state.code ++ char1 s.re.slotB.state.code
    ++ chars2 ((s.re.running.map fun i => (s.re.slot i).tag).getD 0)
    ++ char1 ((c.map StageContext.index).getD 0) ++ chars2 ((c.map StageContext.stageClock).getD 0)
    ++ chars2 ((c.map StageContext.atTempClock).getD 0) ++ char1 prompt.isSome.toNat ++ char1 (prompt.getD 0)

/-- The report a cycle position names (R35). -/
def cyclePayload (k : CycleKind) (s : State) : List Byte :=
  match k with
  | .climate => climatePayload s
  | .supply => supplyPayload s
  | .water => waterPayload s
  | .recipe => recipePayload s

/-- The order CLIMATE, SUPPLY, WATER, RECIPE and back (R35). -/
def CycleKind.next : CycleKind → CycleKind
  | .climate => .supply
  | .supply => .water
  | .water => .recipe
  | .recipe => .climate

/-! ### DIAG -/

/-- DIAG, 22 characters (§2.2, R37): an EMPTY latch sends its two characters as 0. -/
def diagPayload (s : State) : List Byte :=
  let c := s.link.counters
  let latch := match s.link.latch with
    | some l => char1 l.syndrome ++ [(l.kind ++ l.sender : Byte)]
    | none => [0, 0]
  char1 6 ++ chars2 c.clean ++ chars2 c.corrected ++ chars2 c.bad ++ chars2 c.foreign ++ chars2 c.collisions
    ++ chars2 c.dropped ++ char1 (s.link.latch.isSome.toNat + 2 * s.link.lost.toNat) ++ latch
    ++ chars2 s.cr.temperature.holds ++ chars2 s.cr.humidity.holds ++ chars2 s.sdu.failures

/-- The DIAG report, with what its acceptance acts on (R15, R37). -/
def diagReport (s : State) : Report := .diag s.link.latch.isSome s.link.lost (diagPayload s)

end Sys2Proof.Machine
end

