-- ==== Sys2Proof/Machine/ReportEvents.lean ====
section
/-! DEFINITION. The order decoder's own events (chapter 2): the report timetable, and the console silence timer. -/

namespace Sys2Proof.Machine

/-- The console silence timer has reached 20,000 ms in ACTIVE (R16, R205). A console frame taken first has restarted the
timer, and no CONSOLE_LOST occurs. -/
def silenceExpires (s : State) : State :=
  if s.link.silence ≠ some 20000 ∨ s.od.power ≠ .active then s
  else conclude (consoleLost { s with link.silence := none })

/-- CONSOLE_SILENCE_EXPIRED (R16). -/
def execConsoleSilenceExpired (s : State) : Host.Outcome State Fault Refusal := .next (whenRunning silenceExpires s)

/-- The report of the cycle position is built and offered, and the position moves on (R35). -/
def cycleReport (s : State) : State :=
  offer (.report (.cycle (cyclePayload s.od.cycle s)))
    { s with od.cycle := s.od.cycle.next, od.cycleTimer := 0 }

/-- CYCLE_TIMER_EXPIRED (R35). -/
def execCycleTimerExpired (s : State) : Host.Outcome State Fault Refusal := .next (whenRunning cycleReport s)

/-- The events timer stops; a set that is not empty is reported at once (R36). -/
def eventsTimerStops (s : State) : State :=
  if s.od.eventsTimer = none then s else serviceEvents { s with od.eventsTimer := none }

/-- EVENTS_TIMER_EXPIRED (R36). -/
def execEventsTimerExpired (s : State) : Host.Outcome State Fault Refusal := .next (whenRunning eventsTimerStops s)

/-- A DIAG report is built and offered (R37). -/
def diagnose (s : State) : State := offer (.report (diagReport s)) { s with od.diagTimer := 0 }

/-- DIAG_TIMER_EXPIRED (R37). -/
def execDiagTimerExpired (s : State) : Host.Outcome State Fault Refusal := .next (whenRunning diagnose s)

end Sys2Proof.Machine
end

