-- ==== Sys2Proof/Machine/SupplyEvents.lean ====
section
/-! DEFINITION. The supply sharing unit's own events (chapter 3): ageing, the raise hold, the notice period, listen-in and
starvation. -/

namespace Sys2Proof.Machine

/-- A FRESH entry whose age has reached 3500 ms becomes STALE and keeps its values; an allowance computation follows
(R43). A notice applied first has set the age to 0, and the entry stays FRESH. -/
def peerStale (a : Addr) (s : State) : State :=
  match peerIndex a with
  | none => s
  | some i =>
    match s.ssu.peers[i] with
    | .fresh v age => if age = 3500 then compute (setPeer i (.stale v) s) else s
    | _ => s

/-- PEER_ENTRY_STALE (R43). -/
def execPeerEntryStale (a : Addr) (s : State) : Host.Outcome State Fault Refusal := .next (whenRunning (peerStale a) s)

/-- The raise hold ends: R = min(Ca, A') waits for a claim point (R55). -/
def endRaiseHold (s : State) : State :=
  match s.ssu.raise with
  | .holding pre _ =>
    let s1 := recordAllowance s
    { s1 with ssu.raise := .waiting pre (min s1.ssu.announced s1.ssu.lastA) }
  | _ => s

/-- RAISE_HOLD_END (R55). -/
def execRaiseHoldEnd (s : State) : Host.Outcome State Fault Refusal := .next (whenRunning endRaiseHold s)

/-- While the drive is inactive a claim point is taken before the periodic notice; a raise due at it starts after it (R50,
R52). -/
def periodClaimPoint (s : State) : State := if driveInactive s then startRaise (claimPoint s) else s

/-- The periodic notice: it carries C, or Ca while a raise is in progress (R52). -/
def periodicNotice (s : State) : State :=
  offerNotice (if s.ssu.raise = .none then s.ssu.claim else s.ssu.announced) s

/-- The end of a notice period (R50, R52). -/
def noticePeriod (s : State) : State :=
  if s.ssu.period = none then s
  else periodicNotice (compute (periodClaimPoint { s with ssu.period := some 0 }))

/-- NOTICE_PERIOD_EXPIRED (R52). -/
def execNoticePeriodExpired (s : State) : Host.Outcome State Fault Refusal := .next (whenRunning noticePeriod s)

/-- Listen-in ends: the ASLEEP notice is offered and the notice period starts (R59). -/
def endListenIn (s : State) : State :=
  if s.ssu.listenIn = none then s
  else offerNotice 0 { s with ssu.listenIn := none, ssu.period := some 0 }

/-- LISTEN_IN_END (R59). -/
def execListenInEnd (s : State) : Host.Outcome State Fault Refusal := .next (whenRunning endListenIn s)

/-- The entry timer reaches 5000 ms: starved, STARVED raised, and a running recipe held with POWER (R60, R187). DESIGN
CHOICE (notes/assumptions/44): the starved condition is not evaluated anew here, so that an oven whose work has ended since
its last evaluation becomes starved, and leaves starved at the next. A timer that has counted less goes on
(notes/assumptions/8). -/
def becomeStarved (s : State) : State :=
  if s.ssu.entryTimer = some 5000 ∧ s.ssu.starved = false then
    serviceEvents (holdPower true (raise .starved { s with ssu.starved := true, ssu.entryTimer := none }))
  else s

/-- STARVE_ENTRY_EXPIRED (R60). -/
def execStarveEntryExpired (s : State) : Host.Outcome State Fault Refusal := .next (whenRunning becomeStarved s)

/-- The exit timer reaches 5000 ms: starved is left (R60, R187), on the last evaluation too (notes/assumptions/44). A timer
that has counted less goes on (notes/assumptions/8). -/
def endStarved (s : State) : State :=
  if s.ssu.exitTimer = some 5000 ∧ s.ssu.starved = true then leaveStarved s else s

/-- STARVE_EXIT_EXPIRED (R60). -/
def execStarveExitExpired (s : State) : Host.Outcome State Fault Refusal := .next (whenRunning endStarved s)

end Sys2Proof.Machine
end

