-- ==== Sys2Proof/Machine/Dispatch.lean ====
section
/-! DEFINITION. The dispatch of the commands to their meanings, one arm per command. -/

namespace Sys2Proof.Machine

def exec (i : Instr) (s : State) : Host.Outcome State Fault Refusal :=
  match i with
  | .powerOn config retained => Sys2Proof.Machine.execPowerOn config retained s
  | .lineIdle => Sys2Proof.Machine.execLineIdle s
  | .frameStart idleBits => Sys2Proof.Machine.execFrameStart idleBits s
  | .frameReceived chars => Sys2Proof.Machine.execFrameReceived chars s
  | .receptionFailed cause => Sys2Proof.Machine.execReceptionFailed cause s
  | .noticeReceived sender notice => Sys2Proof.Machine.execNoticeReceived sender notice s
  | .orderMalformedCode sender payload => Sys2Proof.Machine.execOrderMalformedCode sender payload s
  | .wake sender args => Sys2Proof.Machine.execWake sender args s
  | .sleep sender args => Sys2Proof.Machine.execSleep sender args s
  | .restart sender args => Sys2Proof.Machine.execRestart sender args s
  | .setClimate sender args => Sys2Proof.Machine.execSetClimate sender args s
  | .stopClimate sender args => Sys2Proof.Machine.execStopClimate sender args s
  | .loadOpen sender args => Sys2Proof.Machine.execLoadOpen sender args s
  | .loadStage sender args => Sys2Proof.Machine.execLoadStage sender args s
  | .loadClose sender args => Sys2Proof.Machine.execLoadClose sender args s
  | .loadAbandon sender args => Sys2Proof.Machine.execLoadAbandon sender args s
  | .recipeStart sender args => Sys2Proof.Machine.execRecipeStart sender args s
  | .recipeConfirm sender args => Sys2Proof.Machine.execRecipeConfirm sender args s
  | .recipeSkip sender args => Sys2Proof.Machine.execRecipeSkip sender args s
  | .recipeAbort sender args => Sys2Proof.Machine.execRecipeAbort sender args s
  | .descaleStart sender args => Sys2Proof.Machine.execDescaleStart sender args s
  | .descaleConfirm sender args => Sys2Proof.Machine.execDescaleConfirm sender args s
  | .descaleAbort sender args => Sys2Proof.Machine.execDescaleAbort sender args s
  | .setHardness sender args => Sys2Proof.Machine.execSetHardness sender args s
  | .dropPeer sender args => Sys2Proof.Machine.execDropPeer sender args s
  | .clearTrip sender args => Sys2Proof.Machine.execClearTrip sender args s
  | .drainNow sender args => Sys2Proof.Machine.execDrainNow sender args s
  | .confirmationSent => Sys2Proof.Machine.execConfirmationSent s
  | .frameBegin idleBits => Sys2Proof.Machine.execFrameBegin idleBits s
  | .collisionDetected => Sys2Proof.Machine.execCollisionDetected s
  | .frameSent => Sys2Proof.Machine.execFrameSent s
  | .reportConfirmation char => Sys2Proof.Machine.execReportConfirmation char s
  | .confirmationWaitExpired => Sys2Proof.Machine.execConfirmationWaitExpired s
  | .consoleSilenceExpired => Sys2Proof.Machine.execConsoleSilenceExpired s
  | .cycleTimerExpired => Sys2Proof.Machine.execCycleTimerExpired s
  | .eventsTimerExpired => Sys2Proof.Machine.execEventsTimerExpired s
  | .diagTimerExpired => Sys2Proof.Machine.execDiagTimerExpired s
  | .peerEntryStale address => Sys2Proof.Machine.execPeerEntryStale address s
  | .raiseHoldEnd => Sys2Proof.Machine.execRaiseHoldEnd s
  | .noticePeriodExpired => Sys2Proof.Machine.execNoticePeriodExpired s
  | .listenInEnd => Sys2Proof.Machine.execListenInEnd s
  | .starveEntryExpired => Sys2Proof.Machine.execStarveEntryExpired s
  | .starveExitExpired => Sys2Proof.Machine.execStarveExitExpired s
  | .zeroCrossing interval => Sys2Proof.Machine.execZeroCrossing interval s
  | .measureTimeout => Sys2Proof.Machine.execMeasureTimeout s
  | .mainsTimeout => Sys2Proof.Machine.execMainsTimeout s
  | .recoveryTimeout => Sys2Proof.Machine.execRecoveryTimeout s
  | .samplingRound samples => Sys2Proof.Machine.execSamplingRound samples s
  | .disagreementCondition => Sys2Proof.Machine.execDisagreementCondition s
  | .regulatorStep => Sys2Proof.Machine.execRegulatorStep s
  | .fanCycle => Sys2Proof.Machine.execFanCycle s
  | .fillPulse => Sys2Proof.Machine.execFillPulse s
  | .fillPulseEnd => Sys2Proof.Machine.execFillPulseEnd s
  | .waitWaterExpired => Sys2Proof.Machine.execWaitWaterExpired s
  | .coolTimeExpired => Sys2Proof.Machine.execCoolTimeExpired s
  | .drainComplete => Sys2Proof.Machine.execDrainComplete s
  | .meteringTick => Sys2Proof.Machine.execMeteringTick s
  | .retainedWriteComplete readBack => Sys2Proof.Machine.execRetainedWriteComplete readBack s
  | .retainedWriteTimeout held => Sys2Proof.Machine.execRetainedWriteTimeout held s
  | .soakComplete => Sys2Proof.Machine.execSoakComplete s
  | .rinseHeatLimit => Sys2Proof.Machine.execRinseHeatLimit s
  | .stageTick => Sys2Proof.Machine.execStageTick s
  | .lockTravelTimeout => Sys2Proof.Machine.execLockTravelTimeout s
  | .powerFailure left => Sys2Proof.Machine.execPowerFailure left s

end Sys2Proof.Machine
end

