-- ==== Sys2Proof/Machine/Tick.lean ====
section
/-! DEFINITION. The 1 ms time base (§0.2). The table of commands has no row for a tick, so a tick is what a step does when no
command waits (DESIGN CHOICE, notes/assumptions/2): every running timer advances by 1 ms, and the commands that stand for
a timer running out are put in the queue as their times come. -/

namespace Sys2Proof.Machine

/-- One millisecond more, up to a limit. -/
def upTo (limit n : Nat) : Nat := min (n + 1) limit

/-- A running timer advances. -/
def runOn (limit : Nat) (t : Option Nat) : Option Nat := t.map (upTo limit)

/-- A running timer reaches its limit in this millisecond. -/
def hits (limit : Nat) (t : Option Nat) : Bool := t == some (limit - 1)

/-- The drain count advances while the drain pump runs (R130). -/
def draining (s : State) : Bool := s.sgc.state == .drain && tankSeated s

/-- The age of a FRESH entry advances (R43). -/
def PeerEntry.older : PeerEntry → PeerEntry
  | .fresh v age => .fresh v (upTo 3500 age)
  | e => e

/-- A FRESH entry reaches 3500 ms in this millisecond (R43). -/
def PeerEntry.goesStale : PeerEntry → Bool
  | .fresh _ age => age == 3499
  | _ => false

/-- The raise hold advances (R54). -/
def Raise.older : Raise → Raise
  | .holding pre held => .holding pre (upTo 250 held)
  | r => r

/-- The raise hold reaches 250 ms in this millisecond. -/
def Raise.holdEnds : Raise → Bool
  | .holding _ held => held == 249
  | _ => false

/-- Every running timer advances by 1 ms. -/
def advance (s : State) : State :=
  { s with
    second := if s.second + 1 < 1000 then s.second + 1 else 0
    link.silence := runOn 20000 s.link.silence
    od.cycleTimer := upTo 250 s.od.cycleTimer
    od.eventsTimer := runOn 250 s.od.eventsTimer
    od.diagTimer := upTo 10000 s.od.diagTimer
    ssu.peers := s.ssu.peers.map PeerEntry.older
    ssu.raise := s.ssu.raise.older
    ssu.entryTimer := runOn 5000 s.ssu.entryTimer
    ssu.exitTimer := runOn 5000 s.ssu.exitTimer
    ssu.listenIn := runOn 3500 s.ssu.listenIn
    ssu.period := runOn 1000 s.ssu.period
    lpd.sinceCrossing := upTo 100 s.lpd.sinceCrossing
    cr.fanCycle := runOn 1000 s.cr.fanCycle
    sgc.pulseTimer := runOn 200 s.sgc.pulseTimer
    sgc.pumpDrive := runOn 100 s.sgc.pumpDrive
    sgc.wait := runOn 2000 s.sgc.wait
    sgc.coolTime := if s.sgc.state = .cool then upTo 1800000 s.sgc.coolTime else s.sgc.coolTime
    sgc.drainCount := if draining s then upTo 40000 s.sgc.drainCount else s.sgc.drainCount
    sdu.writeTimer := if s.sdu.writing.isSome then upTo 20 s.sdu.writeTimer else s.sdu.writeTimer
    pu.travel := if lockTravelling s then upTo 3000 s.pu.travel else s.pu.travel }

/-- A command that is due. -/
def due (b : Bool) (c : Instr) : List Instr := if b then [c] else []

/-- The entries that go STALE in this millisecond (R43). -/
def staleDue (s : State) : List Instr :=
  (List.range 15).filterMap fun i =>
    match s.ssu.peers.toList[i]? with
    | some e => if e.goesStale then some (.peerEntryStale (BitVec.ofNat 4 (i + 1))) else none
    | none => none

/-- The 100 ms limit of the drive state (R65, R67, R69). -/
def driveDue (s : State) : List Instr :=
  due (s.lpd.sinceCrossing == 99)
    (match s.lpd.drive with
     | .measuring _ _ _ => .measureTimeout
     | .running => .mainsTimeout
     | .mainsAbsent _ _ => .recoveryTimeout)

/-- A retained write reaches 20 ms in this millisecond (R143). -/
def writeDue (s : State) : Bool := s.sdu.writing.isSome && s.sdu.writeTimer == 19

/-- What runs out in this millisecond, from the state before it. The manual leaves the order of events that fall together
open; this is the model's (notes/assumptions/13). -/
def dueCommands (s : State) : List Instr :=
  staleDue s ++ due s.ssu.raise.holdEnds .raiseHoldEnd ++ due (hits 1000 s.ssu.period) .noticePeriodExpired
    ++ due (hits 3500 s.ssu.listenIn) .listenInEnd
    ++ due (hits 5000 s.ssu.entryTimer) .starveEntryExpired ++ due (hits 5000 s.ssu.exitTimer) .starveExitExpired
    ++ driveDue s ++ due (hits 20000 s.link.silence) .consoleSilenceExpired
    ++ (if s.second = 999 then [.regulatorStep, .meteringTick, .stageTick] else [])
    ++ due (hits 1000 s.cr.fanCycle) .fanCycle
    ++ due (hits 100 s.sgc.pumpDrive) .fillPulseEnd ++ due (hits 200 s.sgc.pulseTimer) .fillPulse
    ++ due (hits 2000 s.sgc.wait) .waitWaterExpired
    ++ due (s.sgc.state == .cool && s.sgc.coolTime == 1799999) .coolTimeExpired
    ++ due (draining s && s.sgc.drainCount == 39999) .drainComplete
    ++ due (writeDue s) (.retainedWriteTimeout (Config.freeRecord s.freeUses))
    ++ due (lockTravelling s && s.pu.travel == 2999) .lockTravelTimeout
    ++ due (s.od.cycleTimer == 249) .cycleTimerExpired ++ due (hits 250 s.od.eventsTimer) .eventsTimerExpired
    ++ due (s.od.diagTimer == 9999) .diagTimerExpired

/-- One millisecond of the time base, in a started C40. -/
def tick (s : State) : State :=
  if s.run = .running then
    let s1 := advance s
    { s1 with pending := dueCommands s, freeUses := if writeDue s then s.freeUses + 1 else s.freeUses }
  else s

end Sys2Proof.Machine
end

