-- ==== Sys2Proof/Safety.lean ====
section
/-! DEFINITION. What counts as a safe state of the C40, and the vocabulary the statements use: which commands are orders
and what a payload spells, when an order is admitted, and the invariants. -/

namespace Sys2Proof.Machine

/-! ### Outputs -/

/-- No gate of a load under an interlock is driven, as the gates were decided (R79). -/
def gatesRespectInterlocks (s : State) : Bool :=
  (!s.lpd.gates.steamHeater || !interlocked s .steamHeater) && (!s.lpd.gates.top || !interlocked s .top)
    && (!s.lpd.gates.bottom || !interlocked s .bottom) && (!s.lpd.gates.ring || !interlocked s .ring)

/-- Every output is off (R18). -/
def allOff (s : State) : Prop :=
  s.lpd.gates = .off ∧
    outputs s = { fanRelay := false, lamp := false, ventOpen := none, fillPump := false, drainPump := false,
                  lockEngage := false, lockRelease := false }

/-! ### Orders -/

/-- The sender an order comes with; none for a command that is no order. -/
def orderSender : Instr → Option Addr
  | .orderMalformedCode a _ | .wake a _ | .sleep a _ | .restart a _ | .setClimate a _ | .stopClimate a _
  | .loadOpen a _ | .loadStage a _ | .loadClose a _ | .loadAbandon a _ | .recipeStart a _ | .recipeConfirm a _
  | .recipeSkip a _ | .recipeAbort a _ | .descaleStart a _ | .descaleConfirm a _ | .descaleAbort a _
  | .setHardness a _ | .dropPeer a _ | .clearTrip a _ | .drainNow a _ => some a
  | _ => none

/-- A character that codes a slot (§2.2). -/
def namesSlot (b : Byte) : Prop := b = 1 ∨ b = 2

/-- The payload after the order code is not malformed: its length is the one the code requires and every checked field
names something (R23). -/
def spelled : Instr → Prop
  | .wake _ a | .sleep _ a | .restart _ a | .stopClimate _ a | .recipeAbort _ a | .descaleStart _ a
  | .descaleAbort _ a | .clearTrip _ a | .drainNow _ a => a = []
  | .setClimate _ a =>
    ∃ m c0 c1 h0 h1 f, a = [m, c0, c1, h0, h1, f] ∧ 1 ≤ m.toNat ∧ m.toNat ≤ 6 ∧ f.toNat ≤ 5
  | .loadOpen _ a => ∃ b n t0 t1, a = [b, n, t0, t1] ∧ namesSlot b ∧ 1 ≤ n.toNat ∧ n.toNat ≤ 24
  | .loadStage _ a => ∃ b k r, a = b :: k :: r ∧ r.length = 14 ∧ namesSlot b ∧ k.toNat ≤ 23
  | .loadClose _ a | .loadAbandon _ a | .recipeStart _ a => ∃ b, a = [b] ∧ namesSlot b
  | .recipeConfirm _ a | .recipeSkip _ a => ∃ k, a = [k] ∧ k.toNat ≤ 23
  | .descaleConfirm _ a => a = [1] ∨ a = [2]
  | .setHardness _ a => ∃ h, a = [h]
  | .dropPeer _ a => ∃ p, a = [p] ∧ 1 ≤ p.toNat ∧ p.toNat ≤ 15
  | _ => False

/-- The orders that never meet a BUSY condition (R24). -/
def neverBusy : Instr → Bool
  | .restart _ _ | .stopClimate _ _ | .recipeAbort _ _ | .descaleAbort _ _ => true
  | _ => false

/-- The orders that meet BUSY while the lock travels (R24). -/
def asksLock : Instr → Bool
  | .descaleStart _ _ | .descaleConfirm _ _ => true
  | _ => false

/-- The order meets a BUSY condition (R24). -/
def meetsBusy (c : Instr) (s : State) : Prop :=
  (s.ssu.listenIn ≠ none ∧ neverBusy c = false) ∨
    (asksLock c = true ∧ (s.pu.lock = .locking ∨ s.pu.lock = .unlocking))

/-- RESTART. -/
def isRestart : Instr → Bool
  | .restart _ _ => true
  | _ => false

/-- The order reaches its own state refusals: it passes checks 1 to 3 and no restart is pending (R22 to R25). -/
def admitted (c : Instr) (s : State) : Prop :=
  s.run = .running ∧ orderSender c = some s.config.console ∧ spelled c ∧ ¬ meetsBusy c s ∧ s.od.restartPending = false

/-- The answer to an order that changes nothing but its confirmation. -/
def answered (a : Confirmation) (s : State) : State := { s with link.confirmation := some a }

/-- The order an ORDER frame's payload brings, by its first character (§2.2). -/
def orderOf (sender : Addr) : List Byte → Instr
  | [] => .orderMalformedCode sender []
  | code :: args =>
    match code.toNat with
    | 1 => .wake sender args
    | 2 => .sleep sender args
    | 3 => .restart sender args
    | 4 => .setClimate sender args
    | 5 => .stopClimate sender args
    | 6 => .loadOpen sender args
    | 7 => .loadStage sender args
    | 8 => .loadClose sender args
    | 9 => .loadAbandon sender args
    | 10 => .recipeStart sender args
    | 11 => .recipeConfirm sender args
    | 12 => .recipeSkip sender args
    | 13 => .recipeAbort sender args
    | 14 => .descaleStart sender args
    | 15 => .descaleConfirm sender args
    | 16 => .descaleAbort sender args
    | 17 => .setHardness sender args
    | 18 => .dropPeer sender args
    | 19 => .clearTrip sender args
    | 20 => .drainNow sender args
    | _ => .orderMalformedCode sender (code :: args)

/-! ### Invariants -/

/-- Agent and food are kept apart: while the retained mark is not NONE or the descale phase not IDLE, the climate has no
owner and no recipe runs (R155). -/
def agentApart (s : State) : Prop :=
  (s.sdu.mark ≠ .none ∨ s.sdu.phase ≠ .idle) → s.cr.owner = .none ∧ s.re.running = none

/-- No pending event stands without an EVENTS report built in the last 250 ms (R36); a restart owed to the link unit
builds it first (R19). -/
def eventsServed (s : State) : Prop :=
  s.od.events ≠ 0 → s.od.eventsTimer ≠ none ∨ s.link.restartOwed = true

/-- The transmit queue: at most 4 frames; behind the first, all NOTICEs ahead of all REPORTs; and a REPORT that is first
has a NOTICE behind it only where it is on the line or awaited, or has collided and kept its place (R8, R9,
notes/assumptions/10). A C40 that drives or awaits has a frame, and what it awaits is a REPORT's confirmation. -/
def queueInOrder (s : State) : Prop :=
  s.link.queue.length ≤ 4 ∧
    (s.link.queue.drop 1).Pairwise (fun f g => f.isNotice = false → g.isNotice = false) ∧
    (s.link.tx = .idle → ∀ f ∈ s.link.queue.head?, f.isNotice = false → f.collisions = 0 →
      ∀ g ∈ s.link.queue, g.isNotice = false) ∧
    (s.link.tx ≠ .idle → s.link.queue ≠ []) ∧
    (s.link.tx = .awaiting → ∀ f ∈ s.link.queue.head?, f.isNotice = false)

/-- The claim in force is never above the announced claim, nor above what the announced claim returns to if a raise ends
without effect; a raised value that waits is no higher than the announced claim (R49, R54, R55). In STANDBY no claim is in
force (R56), and listen-in is a time of STANDBY (R59). -/
def claimsOrdered (s : State) : Prop :=
  s.ssu.claim ≤ s.ssu.announced ∧
    (match s.ssu.raise with
     | .none => True
     | .queued pre => s.ssu.claim ≤ pre
     | .holding _ _ => True
     | .waiting _ r => r ≤ s.ssu.announced) ∧
    (s.od.power = .standby → s.ssu.claim = 0 ∧ s.ssu.raise = .none) ∧
    (s.ssu.listenIn ≠ none → s.od.power = .standby)

/-- A regulator context holds its ranges (R100). -/
def RegContext.inRange (c : RegContext) : Prop := c.integrator ≤ 256000 ∧ c.output ≤ 1000

/-- A load's record holds its ranges (R64). -/
def Load.inRange (ratingW : Nat) (l : Load) : Prop :=
  l.demand ≤ 1000 ∧ l.grant ≤ ratingW ∧ l.count ≤ 100 ∧ l.carry ≤ ratingW - 1 ∧ l.position ≤ 3

/-- The regulators' contexts, the steam demand, the load list and the shed counter hold their ranges (R64, R76, R100,
R120). -/
def controlInRange (s : State) : Prop :=
  s.cr.temperature.inRange ∧ s.cr.humidity.inRange ∧ s.sgc.steamDemand ≤ 1000 ∧ s.lpd.shed ≤ 65535 ∧
    ∀ i : LoadId, (s.lpd.loads.get i).inRange (ratingW s.config i)

/-- The account and hardness hold their ranges, the derate signal follows the account, and under it no STEAM_HEATER demand
exceeds 600 (R137, R139). -/
def scaleInRange (s : State) : Prop :=
  s.sdu.account ≤ 400000 ∧ s.sdu.hardness ≤ 40 ∧ (s.sgc.derate = true ↔ 200000 ≤ s.sdu.account) ∧
    (200000 ≤ s.sdu.account → s.lpd.loads.steamHeater.demand ≤ 600)

/-- The running and the queued slot are the ones in those states, a slot waits only behind a running one, a stage context
stands only while a slot runs, and with none running no hold reason stands and the map is empty (R175, R176, R178). -/
def slotsAgree (s : State) : Prop :=
  (∀ i, (s.re.slot i).state = .running ↔ s.re.running = some i) ∧
    (∀ i, (s.re.slot i).state = .queued ↔ s.re.queued = some i) ∧
    (s.re.running = none → s.re.queued = none ∧ s.re.context = none ∧ s.re.repeats = [] ∧ s.re.holds = .empty)

/-- The climate request's owner is RECIPE exactly while a slot runs (R97, R178, R191). -/
def recipeOwnsClimate (s : State) : Prop := s.re.running ≠ none ↔ s.cr.owner = .recipe

/-- The hold reasons of the stage in progress agree with their causes: POWER with the starved state, PROBE with a CORE stage
whose probe gives no temperature, TRIP with a trip that affects the stage; WATER is for steam stages, stands while the
boiler waits for water and not while it steams (R187 to R189). -/
def holdsFit (s : State) : Prop :=
  ∀ g, currentStage s = some g →
    let h := s.re.holds
    (h.power = true ↔ s.ssu.starved = true) ∧
      (h.probe = true ↔ g.isCore = true ∧ s.mu.probe.value.isValue = false) ∧
      (h.trip = true ↔ s.pu.trips.affects g = true) ∧
      (h.water = true → g.steams = true ∧ s.sgc.state ≠ .steam) ∧
      (g.steams = true → s.sgc.state = .waitWater → h.water = true)

/-- LOCK_FAULT and the LOCK trip stand together (R199, R204, R207). -/
def lockFaultTripped (s : State) : Prop := s.pu.lock = .fault ↔ s.pu.trips.lock = true

end Sys2Proof.Machine
end

