-- ==== Sys2Proof/Certificates/Slice0/Obligations.lean ====
section
/-! DEFINITION. The statements about the model, from the numbered rules of spec/; OBLIGATIONS.json lists them. -/

open Sys2Proof Sys2Proof.Machine

/-! ### The step and the supply -/

/-- A step runs the command at the front of the queue on the state with the queue's rest. That commands wait in a queue
and are taken from its front is the model's choice (notes/assumptions/34 and 2). -/
def Obligations.StepTakesFront : Prop :=
  ∀ (c : Instr) (rest : List Instr) (s : State), s.pending = c :: rest → step s = exec c { s with pending := rest }

/-- A command's effect leaves the queue of commands, which is the model's own (notes/assumptions/34), as it is. -/
def Obligations.ExecKeepsQueue : Prop :=
  ∀ (c : Instr) (s t : State), exec c s = .next t → t.pending = s.pending

/-- The model's choice (notes/assumptions/2): with no command waiting a millisecond of the time base passes. Every running
timer and count of milliseconds advances by one, up to its limit (notes/assumptions/35); the command of each that reaches its
limit is queued once, in the order of notes/assumptions/13, and no other command; and nothing else changes. What a memory holds
that does not report a write is free (notes/assumptions/5), and the three 1000 ms ticks come together
(notes/assumptions/32). -/
def Obligations.IdleStepTicks : Prop :=
  ∀ s : State, s.run = .running → s.pending = [] →
    let run (limit : Nat) (x : Option Nat) : Option Nat := x.map fun n => min (n + 1) limit
    let due (now : Bool) (c : Instr) : List Instr := if now then [c] else []
    let writeEnds : Bool := s.sdu.writing ≠ none ∧ s.sdu.writeTimer = 19
    let draining : Bool := s.sgc.state = .drain ∧ s.mu.tank ≠ .absent
    let travelling : Bool := s.pu.lock = .locking ∨ s.pu.lock = .unlocking
    ∃ t, step s = .next t ∧
      t = { s with
        pending := t.pending, freeUses := t.freeUses,
        second := if s.second < 999 then s.second + 1 else 0,
        link.silence := run 20000 s.link.silence,
        od.cycleTimer := min (s.od.cycleTimer + 1) 250, od.eventsTimer := run 250 s.od.eventsTimer,
        od.diagTimer := min (s.od.diagTimer + 1) 10000,
        ssu.peers := s.ssu.peers.map fun e => match e with
          | .fresh v age => .fresh v (min (age + 1) 3500)
          | x => x,
        ssu.raise := (match s.ssu.raise with
          | .holding pre held => .holding pre (min (held + 1) 250)
          | x => x),
        ssu.entryTimer := run 5000 s.ssu.entryTimer, ssu.exitTimer := run 5000 s.ssu.exitTimer,
        ssu.listenIn := run 3500 s.ssu.listenIn, ssu.period := run 1000 s.ssu.period,
        lpd.sinceCrossing := min (s.lpd.sinceCrossing + 1) 100, cr.fanCycle := run 1000 s.cr.fanCycle,
        sgc.pulseTimer := run 200 s.sgc.pulseTimer, sgc.pumpDrive := run 100 s.sgc.pumpDrive,
        sgc.wait := run 2000 s.sgc.wait, sgc.coolTime := t.sgc.coolTime, sgc.drainCount := t.sgc.drainCount,
        sdu.writeTimer := t.sdu.writeTimer, pu.travel := t.pu.travel } ∧
      (s.sgc.state = .cool → t.sgc.coolTime = min (s.sgc.coolTime + 1) 1800000) ∧
      (s.sgc.state ≠ .cool → t.sgc.coolTime = s.sgc.coolTime) ∧
      (draining → t.sgc.drainCount = min (s.sgc.drainCount + 1) 40000) ∧
      (¬ draining → t.sgc.drainCount = s.sgc.drainCount) ∧
      (s.sdu.writing ≠ none → t.sdu.writeTimer = min (s.sdu.writeTimer + 1) 20) ∧
      (s.sdu.writing = none → t.sdu.writeTimer = s.sdu.writeTimer) ∧
      (travelling → t.pu.travel = min (s.pu.travel + 1) 3000) ∧ (¬ travelling → t.pu.travel = s.pu.travel) ∧
      (writeEnds → t.freeUses = s.freeUses + 1) ∧ (¬ writeEnds → t.freeUses = s.freeUses) ∧
      t.pending =
        ((List.finRange 15).filterMap fun i => match s.ssu.peers[i] with
          | .fresh _ age => if age = 3499 then some (.peerEntryStale (BitVec.ofNat 4 (i.val + 1))) else none
          | _ => none) ++
        (match s.ssu.raise with
          | .holding _ held => due (held = 249) .raiseHoldEnd
          | _ => []) ++
        due (s.ssu.period = some 999) .noticePeriodExpired ++ due (s.ssu.listenIn = some 3499) .listenInEnd ++
        due (s.ssu.entryTimer = some 4999) .starveEntryExpired ++ due (s.ssu.exitTimer = some 4999) .starveExitExpired ++
        due (s.lpd.sinceCrossing = 99) (match s.lpd.drive with
          | .measuring _ _ _ => .measureTimeout
          | .running => .mainsTimeout
          | .mainsAbsent _ _ => .recoveryTimeout) ++
        due (s.link.silence = some 19999) .consoleSilenceExpired ++ due (s.second = 999) .regulatorStep ++
        due (s.second = 999) .meteringTick ++ due (s.second = 999) .stageTick ++ due (s.cr.fanCycle = some 999) .fanCycle ++
        due (s.sgc.pumpDrive = some 99) .fillPulseEnd ++ due (s.sgc.pulseTimer = some 199) .fillPulse ++
        due (s.sgc.wait = some 1999) .waitWaterExpired ++
        due (s.sgc.state = .cool ∧ s.sgc.coolTime = 1799999) .coolTimeExpired ++
        due (draining ∧ s.sgc.drainCount = 39999) .drainComplete ++
        due writeEnds (.retainedWriteTimeout (Config.freeRecord s.freeUses)) ++
        due (travelling ∧ s.pu.travel = 2999) .lockTravelTimeout ++ due (s.od.cycleTimer = 249) .cycleTimerExpired ++
        due (s.od.eventsTimer = some 249) .eventsTimerExpired ++ due (s.od.diagTimer = 9999) .diagTimerExpired

/-- A configuration record that is valid: 18 bytes, their sum 0 modulo 256, every field in its range (§1.2). -/
def validRecord (b : List Byte) : Prop :=
  let f (i : Nat) : Nat := (b.getD i 0).toNat
  let w (i : Nat) : Nat := f i + 256 * f (i + 1)
  b.length = 18 ∧ byteSum b % 256 = 0 ∧ 1 ≤ f 0 ∧ f 0 ≤ 15 ∧ 1 ≤ f 1 ∧ f 1 ≤ 15 ∧ f 1 ≠ f 0 ∧ f 2 ≤ 3 ∧
    100 ≤ w 3 ∧ w 3 ≤ 1100 ∧ f 5 ≤ 50 ∧ w 6 ≤ 400 ∧ 80 ≤ w 8 ∧ w 8 ≤ 300 ∧ 50 ≤ w 10 ∧ w 10 ≤ 300 ∧
    50 ≤ w 12 ∧ w 12 ≤ 300 ∧ 50 ≤ w 14 ∧ w 14 ≤ 300 ∧ f 16 ≤ 40

/-- A C40 whose configuration record is invalid is silent: whatever comes but the supply's going and coming leaves it as it
is, in STANDBY, with every output off, its counters 0 and nothing read from the retained store (R18). The values that the
blocks which are not started hold, run levels among them, are the model's choice (notes/assumptions/1 and 6), and that the
vent is then not driven its reading (notes/assumptions/30). -/
def Obligations.InvalidConfigurationSilences : Prop :=
  ∀ (config : Option (List Byte)) (r : RetainedRead) (s : State), (∀ b ∈ config, ¬ validRecord b) →
    ∃ t, exec (.powerOn config r) s = .next t ∧ t.run = .configFault ∧ t.od.power = .standby ∧ allOff t ∧
      t.link = .reset ∧ t.sdu = .reset ∧ t.mu = .resetWith none ∧ t.ssu = .reset ∧ t.lpd = .reset ∧ t.cr = .reset ∧
      t.sgc = .reset ∧ t.re = .reset ∧ t.pu = .reset ∧
      ∀ c : Instr, (∀ k q, c ≠ .powerOn k q) → (∀ m, c ≠ .powerFailure m) → exec c t = .next t

/-- The values the blocks start with at a power-on with a valid record (R17, R19, R40, R63, R82, R95, R116, R136, R158, R174, R195, R207):
the record's fields, the account, hardness and mark of a valid retained record, and the worst case of an invalid one (R140, R141, R156);
the EVENTS report alone stands in the queue, where an event is pending (R36, R138). At a failure of the supply everything is lost but the
external memory's record, which a write in progress leaves in whatever state the memory holds (R143). The model's choices here: the flag
for the retained record's sum (notes/assumptions/4), the configuration copy's zeros without a record (3), that the events of one command
go in one EVENTS report (7), the run levels and the numbers that stand for none (6, 42), the rinse step and the phase LOCKING was entered
from (17), the flag drained (29), a POWER_ON in a C40 that has power (25), the state without supply (1), the record left and the counter
of free uses (5), and the queue of commands, which stays (34). -/
def Obligations.PowerOnStartsBlocks : Prop :=
  (∀ (b : List Byte) (r : RetainedRead) (s : State), validRecord b →
    let f (i : Nat) : Nat := (b.getD i 0).toNat
    let w (i : Nat) : Nat := f i + 256 * f (i + 1)
    let found : Option StoredRecord :=
      match r with
      | .stored => some s.store
      | .holds x => some x
      | .noAnswer => none
    let valid (x : StoredRecord) : Prop :=
      x.sumOk = true ∧ x.account ≤ 400000 ∧ x.hardness ≤ 40 ∧ x.mark ≤ 2
    ∃ t, exec (.powerOn (some b) r) s = .next t ∧ t.run = .running ∧
      t.config.own.toNat = f 0 ∧ t.config.console.toNat = f 1 ∧ t.config.cls = f 2 ∧ t.config.budget = w 3 ∧
      t.config.aux = f 5 ∧ t.config.floor = w 6 ∧ t.config.steamRating = w 8 ∧ t.config.topRating = w 10 ∧
      t.config.bottomRating = w 12 ∧ t.config.ringRating = w 14 ∧ t.config.hardness = f 16 ∧
      t.link = { LinkUnit.reset with lfsr := BitVec.ofNat 16 (f 0), queue := t.link.queue } ∧
      t.od = { OrderDecoder.reset with events := t.od.events, eventsTimer := t.od.eventsTimer } ∧
      t.ssu = { SupplyUnit.reset with listenIn := some 0 } ∧ t.lpd = .reset ∧ t.mu = .resetWith none ∧ t.cr = .reset ∧
      t.re = .reset ∧ t.pu = .reset ∧
      t.sgc = { Boiler.reset with user := t.sgc.user, derate := decide (200000 ≤ t.sdu.account) } ∧
      t.sdu = { Scale.reset with
        account := t.sdu.account, hardness := t.sdu.hardness, mark := t.sdu.mark, phase := t.sdu.phase,
        writing := t.sdu.writing } ∧
      (let advice : EventSet := if 150000 ≤ t.sdu.account then Event.descaleAdvice.mask else 0
       (∀ x ∈ found, valid x →
         t.sdu.account = x.account ∧ t.sdu.hardness = x.hardness ∧ t.sdu.mark.code = x.mark ∧ t.sdu.writing = none ∧
           t.od.events = advice) ∧
       ((∀ x ∈ found, ¬ valid x) →
         t.sdu.account = 200000 ∧ t.sdu.hardness = f 16 ∧ t.sdu.mark = .rinseNeeded ∧
           t.sdu.writing = some { account := 200000, hardness := f 16, mark := 2, sumOk := true } ∧
           t.od.events = advice ||| Event.retainedLost.mask)) ∧
      (t.od.events = 0 → t.link.queue = [] ∧ t.od.eventsTimer = none) ∧
      (t.od.events ≠ 0 →
        t.link.queue =
            [{ body := .report (.events t.od.events), collisions := 0, backoff := 0, abandoned := false }] ∧
          t.od.eventsTimer = some 0) ∧
      (t.sdu.phase, t.sgc.user) =
        (match t.sdu.mark with
         | .none => (.idle, .climate)
         | .agentIn => (.recoverDrain, .descale)
         | .rinseNeeded => (.recoverRinse, .descale))) ∧
  ∀ (left : StoredRecord) (s : State),
    exec (.powerFailure left) s =
      .next { State.reset with
        pending := s.pending, freeUses := s.freeUses, store := if s.sdu.writing = none then s.store else left }

/-! ### The check code and the frame -/

/-- The refusal reasons by their codes, from 1 on (§2.2). -/
def refusalReasons : List Reason :=
  [.malformed, .notConsole, .asleep, .recipeActive, .descaling, .lockout, .slotBusy, .queueTaken, .slotState,
    .missingStages, .badProgram, .stalePrompt, .peerFresh, .tripped, .conditionPresent, .notNow, .rinseRequired]

/-- A frame the C40 sends is received whole: its check characters make it CLEAN, and its fields read back as they were
written (R2, R3, R4, R5). A notice goes to target 0 as 15 characters: the header, class, flags, claim, wanted and floor with
the least significant character first, two spare characters of 0, and the check characters (R2, §3.1). A report goes to the
console, its header ahead of its payload (R2); and a confirmation is one character, 20h, 40h, or 80h with its reason's code
(§1.2, §2.2). -/
def Obligations.SentFrameReadsBack : Prop :=
  ∀ c : ConfigCopy,
    (∀ b : Body, b.payload.length ≤ 24 →
      ∃ data, receive (frameChars c b) = .complete (.clean data) ∧
        takenOf data = { kind := (b.header c).1, sender := c.own, target := (b.header c).2, payload := b.payload }) ∧
    (∀ n : Notice, n.cls ≤ 3 →
      let chars : List Byte := frameChars c (.notice n)
      let b (i : Nat) : Nat := (chars.getD i 0).toNat
      let w (i : Nat) : Nat := b i + 256 * b (i + 1)
      let flag (p : Bool) : Nat := if p then 1 else 0
      chars.length = 15 ∧ b 0 = 16 + c.own.toNat ∧ b 1 = 0 ∧ b 2 = 10 ∧ b 3 = n.cls ∧
        b 4 = flag n.raise + 2 * flag n.leave + 4 * flag n.asleep ∧ w 5 = n.claim % 65536 ∧ w 7 = n.wanted % 65536 ∧
        w 9 = n.floor % 65536 ∧ w 11 = 0) ∧
    (∀ r : Report, r.payload.length ≤ 24 →
      let chars : List Byte := frameChars c (.report r)
      let b (i : Nat) : Nat := (chars.getD i 0).toNat
      chars.length = r.payload.length + 5 ∧ b 0 = 48 + c.own.toNat ∧ b 1 = c.console.toNat ∧ b 2 = r.payload.length ∧
        (chars.drop 3).take r.payload.length = r.payload) ∧
    Confirmation.char .accept = 0x20 ∧ Confirmation.char .busy = 0x40 ∧
    ∀ (k : Nat) (r : Reason), refusalReasons[k]? = some r → (Confirmation.char (.refuse r)).toNat = 0x80 + k + 1

/-- Position p(j) of data bit j, counted from 1: the j-th positive integer that is not a power of two (R4). -/
def positionOf (j : Nat) : Nat := dataPositions.getD (j - 1) 0

/-- Header and payload characters whose length field counts the payload. -/
def wellLaid (data : List Byte) : Prop :=
  3 ≤ data.length ∧ data.length ≤ 27 ∧ lengthField data + 3 = data.length

/-- Any single flipped bit is found and put right: a data bit, a check bit, the overall bit. A flip in the length field makes the
frame BAD where the check code is given the frame at its true length, as here; a receiver that counts the frame's end from
the flipped length drops it by other rules (R3, R5). -/
def Obligations.SingleFlipCorrected : Prop :=
  ∀ (data : List Byte) (c0 c1 : Byte), wellLaid data → checkChars data = [c0, c1] →
    checkFrame data c0 c1 = .clean data ∧
      (∀ j, j < 8 * data.length →
        checkFrame (flipBit data j) c0 c1 =
          if 16 ≤ j ∧ j < 24 then .bad else .corrected data (positionOf (j + 1))) ∧
      (∀ k, k < 8 → checkFrame data (c0 ^^^ BitVec.twoPow 8 k) c1 = .corrected data (2 ^ k)) ∧
      checkFrame data c0 (c1 ^^^ 1) = .corrected data 0

/-- Any two flipped bits are detected (R5). -/
def Obligations.DoubleFlipDetected : Prop :=
  ∀ (data : List Byte) (c0 c1 : Byte), wellLaid data → checkChars data = [c0, c1] →
    (∀ i j, i < j → j < 8 * data.length → checkFrame (flipBit (flipBit data i) j) c0 c1 = .bad) ∧
      (∀ j k, j < 8 * data.length → k < 8 → checkFrame (flipBit data j) (c0 ^^^ BitVec.twoPow 8 k) c1 = .bad) ∧
      (∀ k l, k < l → l < 8 → checkFrame data (c0 ^^^ BitVec.twoPow 8 k ^^^ BitVec.twoPow 8 l) c1 = .bad) ∧
      (∀ j, j < 8 * data.length → checkFrame (flipBit data j) c0 (c1 ^^^ 1) = .bad) ∧
      (∀ k, k < 8 → checkFrame data (c0 ^^^ BitVec.twoPow 8 k) (c1 ^^^ 1) = .bad)

/-! ### The line -/

/-- The slots of access wait: 0 for a NOTICE whose RAISE flag is set, 2 for every other frame (R7). -/
def waitSlots (b : Body) : Nat :=
  match b with
  | .notice n => if n.raise then 0 else 2
  | .report _ => 2

/-- LINE_IDLE, FRAME_START and RECEPTION_FAILED move the receive state, count a frame cut short, end the wait for a confirmation and pay
off backoff, and nothing else (R1, R3, R7, R13). That LINE_IDLE changes nothing while the C40 drives a frame, and ends the wait for a
confirmation without acceptance, is the model's reading (notes/assumptions/20); that FRAME_START carries the idle clock's reading is its
choice (notes/assumptions/9). -/
def Obligations.ReceptionStartsAndEnds : Prop :=
  ∀ s : State, s.run = .running →
    (∀ chars, s.link.tx = .sending chars → exec .lineIdle s = .next s) ∧
    (s.link.tx = .idle → s.link.rx = .receiving →
      exec .lineIdle s = .next { s with link.rx := .idle, link.counters.bad := min (s.link.counters.bad + 1) 65535 }) ∧
    (s.link.tx = .idle → s.link.rx ≠ .receiving → exec .lineIdle s = .next { s with link.rx := .idle }) ∧
    (∀ f rest r, s.link.tx = .awaiting → s.link.rx ≠ .receiving → s.link.queue = f :: rest → f.body = .report r →
      exec .lineIdle s = .next { s with link.rx := .idle, link.tx := .idle, link.queue := rest }) ∧
    (∀ n, s.link.rx ≠ .idle → exec (.frameStart n) s = .next s) ∧
    (∀ n, s.link.rx = .idle → (s.link.tx ≠ .idle ∨ s.link.queue = []) →
      exec (.frameStart n) s = .next { s with link.rx := .receiving }) ∧
    (∀ n f rest, s.link.rx = .idle → s.link.tx = .idle → s.link.queue = f :: rest →
      exec (.frameStart n) s =
        .next { s with
          link.rx := .receiving,
          link.queue := { f with backoff := f.backoff - (n - (12 + 20 * waitSlots f.body)) / 20 } :: rest }) ∧
    (∀ k, s.link.rx = .receiving →
      exec (.receptionFailed k) s =
        .next { s with
          link.rx := if k = .earlyIdle then .idle else .waitIdle,
          link.counters.bad := min (s.link.counters.bad + 1) 65535 }) ∧
    (∀ k, s.link.rx ≠ .receiving → exec (.receptionFailed k) s = .next s)

/-- A frame the check code takes is counted and, CORRECTED, latched; one from the console restarts the silence timer in
ACTIVE; and it is used by its kind: a NOTICE of ten characters, read by the layout of §3.1, and an ORDER to the C40 as their
commands, any other frame not at all (R5, R6, R14, R15, R16). A BAD frame is counted and dropped. -/
def Obligations.TakenFrameUsedByKind : Prop :=
  ∀ (chars data : List Byte) (o : CheckOutcome) (s s1 s2 : State), s.run = .running → s.link.rx = .receiving →
    receive chars = .complete o →
    (o = .bad →
      exec (.frameReceived chars) s =
        .next { s with link.rx := .waitIdle, link.counters.bad := min (s.link.counters.bad + 1) 65535 }) ∧
    (o = .clean data ∧
        s1 = { s with link.rx := .waitIdle, link.counters.clean := min (s.link.counters.clean + 1) 65535 } ∨
      (∃ y, o = .corrected data y ∧
        s1 = { s with
          link.rx := .waitIdle, link.counters.corrected := min (s.link.counters.corrected + 1) 65535,
          link.lost := s.link.lost || s.link.latch.isSome,
          link.latch := match s.link.latch with
            | some l => some l
            | none => some { syndrome := y, sender := (takenOf data).sender, kind := (takenOf data).kind } }) →
      s2 = (if (takenOf data).sender = s.config.console ∧ s.od.power = .active then { s1 with link.silence := some 0 }
            else s1) →
      let t := takenOf data
      let b (i : Nat) : Nat := (t.payload.getD i 0).toNat
      let w (i : Nat) : Nat := b i + 256 * b (i + 1)
      (t.kind = 1 → t.payload.length = 10 →
        exec (.frameReceived chars) s =
          exec (.noticeReceived t.sender
            { cls := b 0 % 4, raise := decide (b 1 % 2 = 1), leave := decide (b 1 / 2 % 2 = 1),
              asleep := decide (b 1 / 4 % 2 = 1), claim := w 2, wanted := w 4, floor := w 6 }) s2) ∧
      (t.kind = 1 → t.payload.length ≠ 10 →
        exec (.frameReceived chars) s = .next { s2 with link.counters.foreign := min (s2.link.counters.foreign + 1) 65535 }) ∧
      (t.kind = 2 → t.target = s.config.own →
        exec (.frameReceived chars) s = exec (orderOf t.sender t.payload) s2) ∧
      (t.kind = 2 → t.target ≠ s.config.own → exec (.frameReceived chars) s = .next s2) ∧
      (t.kind = 3 → exec (.frameReceived chars) s = .next s2) ∧
      (t.kind ≠ 1 → t.kind ≠ 2 → t.kind ≠ 3 →
        exec (.frameReceived chars) s =
          .next { s2 with link.counters.foreign := min (s2.link.counters.foreign + 1) 65535 }))

/-- A frame begins once the idle clock has counted 12 bit times and 20 for each slot it waits, and not while the C40 receives,
confirms or awaits; sent, a NOTICE leaves the queue and a REPORT awaits its confirmation; a RAISE sent starts the raise
hold (R7, R11, R13, R54). That FRAME_BEGIN carries the idle clock's reading, and changes nothing where it comes too early or
while the C40 receives, confirms or awaits, is the model's choice (notes/assumptions/9). -/
def Obligations.FramesBeginAndGo : Prop :=
  ∀ (s : State) (f : Frame) (rest : List Frame), s.run = .running → s.link.queue = f :: rest →
    (∀ n, s.link.rx = .idle → s.link.tx = .idle → s.link.confirmation = none →
      12 + 20 * (waitSlots f.body + f.backoff) ≤ n →
      exec (.frameBegin n) s =
        .next { s with
          link.tx := .sending (frameChars s.config f.body), link.rx := .waitIdle,
          link.queue := { f with backoff := 0 } :: rest }) ∧
    (∀ n, s.link.rx ≠ .idle ∨ s.link.tx ≠ .idle ∨ s.link.confirmation ≠ none ∨
        n < 12 + 20 * (waitSlots f.body + f.backoff) → exec (.frameBegin n) s = .next s) ∧
    (∀ chars r, s.link.tx = .sending chars → f.body = .report r →
      exec .frameSent s = .next { s with link.tx := .awaiting }) ∧
    (∀ chars n, s.link.tx = .sending chars → f.body = .notice n → n.leave = false →
      (n.raise = false ∨ f.abandoned = true) →
      exec .frameSent s = .next { s with link.tx := .idle, link.queue := rest }) ∧
    (∀ chars n pre, s.link.tx = .sending chars → f.body = .notice n → n.leave = false → n.raise = true →
      f.abandoned = false → s.ssu.raise = .queued pre →
      exec .frameSent s = .next { s with link.tx := .idle, link.queue := rest, ssu.raise := .holding pre 0 })

/-- A collision: the C40 stops and receives; the frame draws a backoff of 1 to 16 slots from the stepped register and keeps its place in
the queue, or at the eighth collision is dropped, a RAISE then taking the announced claim back (R8, R11, R54). That a REPORT keeps its
place, the first, also ahead of NOTICEs queued while it was on the line is the model's reading of R8 beside R9 (notes/assumptions/10). -/
def Obligations.CollisionBacksOff : Prop :=
  ∀ (s : State) (f : Frame) (rest : List Frame) (chars : List Byte), s.run = .running → s.link.tx = .sending chars →
    s.link.queue = f :: rest →
    let r := s.link.lfsr.toNat
    let bit (i : Nat) : Nat := r / 2 ^ i % 2
    let r' := (2 * r + (bit 15 + bit 13 + bit 12 + bit 10) % 2) % 65536
    let s1 : State := { s with
      link.tx := .idle, link.rx := .receiving, link.counters.collisions := min (s.link.counters.collisions + 1) 65535 }
    let f' : Frame := { f with collisions := f.collisions + 1, backoff := r' % 16 + 1 }
    (f.collisions < 7 →
      exec .collisionDetected s = .next { s1 with link.lfsr := BitVec.ofNat 16 r', link.queue := f' :: rest }) ∧
    (7 ≤ f.collisions →
      let s2 : State := { s1 with
        link.queue := rest, link.counters.dropped := min (s.link.counters.dropped + 1) 65535 }
      (∀ x, f.body = .report x → exec .collisionDetected s = .next s2) ∧
      (∀ n, f.body = .notice n → n.leave = false → (n.raise = false ∨ f.abandoned = true) →
        exec .collisionDetected s = .next s2) ∧
      (∀ n pre, f.body = .notice n → n.leave = false → n.raise = true → f.abandoned = false →
        s.ssu.raise = .queued pre →
        exec .collisionDetected s = .next { s2 with ssu.raise := .none, ssu.announced := pre }))

/-- The outcome of a report awaited: ACCEPT removes the events an EVENTS report carried, and empties the latch and clears the flag a DIAG
report carried; anything else heard, or nothing, changes nothing but the queue (R13, R15, R35, R39). A confirmation the C40 sends
is sent once; then a listen-in RESTART takes effect in the link unit, and the EVENTS report owed enters the emptied queue (R12,
R19, R33, R36); that the report waits for that moment is the model's reading (notes/assumptions/21). -/
def Obligations.ReportOutcomeActs : Prop :=
  (∀ (s : State) (f : Frame) (r : Report) (rest : List Frame), s.run = .running → s.link.tx = .awaiting →
    s.link.queue = f :: rest → f.body = .report r →
    let s1 : State := { s with link.tx := .idle, link.queue := rest }
    (∀ x : Option Byte, x ≠ some 0x20 → exec (.reportConfirmation x) s = .next s1) ∧
    exec .confirmationWaitExpired s = .next s1 ∧
    exec (.reportConfirmation (some 0x20)) s =
      .next (match r with
        | .cycle _ => s1
        | .events carried => { s1 with od.events := s.od.events &&& ~~~carried }
        | .diag held lost _ =>
          { s1 with
            link.latch := if held then none else s.link.latch, link.lost := if lost then false else s.link.lost })) ∧
  ∀ (s : State) (a : Confirmation), s.run = .running → s.link.confirmation = some a → eventsServed s →
    (s.link.restartOwed = false → exec .confirmationSent s = .next { s with link.confirmation := none }) ∧
    (s.link.restartOwed = true → s.od.events ≠ 0 → s.od.eventsTimer = none →
      exec .confirmationSent s =
        .next { s with
          link := { LinkUnit.reset with
            lfsr := s.link.lfsr,
            queue := [{ body := .report (.events s.od.events), collisions := 0, backoff := 0, abandoned := false }] },
          od.eventsTimer := some 0 })

/-! ### Reports -/

/-- The mode of its code (§2.2). -/
def modeCode : Mode → Nat
  | .convection => 1
  | .topBottom => 2
  | .grill => 3
  | .steam => 4
  | .combi => 5
  | .keepWarm => 6

/-- The command builds a report, which is offered to the transmit queue of `s` and leaves `s1` otherwise: it goes behind the
others; a full queue gives up its oldest REPORT that is neither on the line nor awaited, or else does not take it, and the
loss is counted (R9, R10). -/
def offersReport (c : Instr) (r : Report) (s s1 : State) : Prop :=
  let frame : Frame := { body := .report r, collisions := 0, backoff := 0, abandoned := false }
  let isReport (g : Frame) : Bool := match g.body with
    | .notice _ => false
    | .report _ => true
  let fixed : Nat := if s.link.tx = .idle then 0 else 1
  (s.link.queue.length < 4 → exec c s = .next { s1 with link.queue := s.link.queue ++ [frame] }) ∧
    (∀ before old after, 4 ≤ s.link.queue.length → s.link.queue = before ++ old :: after →
      (∀ g ∈ before.drop fixed, isReport g = false) → isReport old = true → (s.link.tx ≠ .idle → before ≠ []) →
      exec c s =
        .next { s1 with
          link.queue := before ++ after ++ [frame],
          link.counters.dropped := min (s.link.counters.dropped + 1) 65535 }) ∧
    (4 ≤ s.link.queue.length → (∀ g ∈ s.link.queue.drop fixed, isReport g = false) →
      exec c s = .next { s1 with link.counters.dropped := min (s.link.counters.dropped + 1) 65535 })

/-- A cycle report is built each 250 ms of the kind whose turn it is, from the state as it stands, and its frame is queued behind the
others; a full queue gives up its oldest waiting REPORT, or else does not take the frame, and the loss is counted (R9, R10, R35).
The characters of CLIMATE, SUPPLY, WATER and RECIPE, by the layouts and codes of §2.2 (R62, R115, R135, R157, R194, R206). That
CYCLE_TIMER_EXPIRED acts at any count of the cycle timer is the model's choice (notes/assumptions/8). -/
def Obligations.CycleReportQueued : Prop :=
  ∀ s : State, s.run = .running →
    let payload : List Byte := cyclePayload s.od.cycle s
    let next : CycleKind := match s.od.cycle with
      | .climate => .supply
      | .supply => .water
      | .water => .recipe
      | .recipe => .climate
    let s1 : State := { s with od.cycle := next, od.cycleTimer := 0 }
    let b (i : Nat) : Nat := (payload.getD i 0).toNat
    let w (i : Nat) : Nat := b i + 256 * b (i + 1)
    let signed (x : Int) : Nat := (x % 65536).toNat
    let reading (r : Reading) : Nat := match r with
      | .value x => signed x
      | .invalid => 0x8000
      | .absent => 0x8001
    let flag (p : Bool) : Nat := if p then 1 else 0
    let fresh (e : PeerEntry) : Bool := match e with
      | .fresh _ _ => true
      | _ => false
    let stale (e : PeerEntry) : Bool := match e with
      | .stale _ => true
      | _ => false
    let slotStates : List SlotState := [.empty, .loading, .ready, .queued, .running]
    let slots : List (Option SlotId) := [none, some .a, some .b]
    (s.od.cycle = .climate →
      payload.length = 18 ∧ b 0 = 1 ∧ ([Power.standby, .active, .windDown])[b 1]? = some s.od.power ∧
        b 2 = (match s.cr.request with
          | some r => modeCode r.mode
          | none => 0) ∧
        ([Owner.none, .manual, .recipe])[b 3]? = some s.cr.owner ∧
        w 4 = signed ((s.cr.request.map Request.cavity).getD 0) ∧
        w 6 = ((s.cr.request.bind Request.humidity).getD 0) % 65536 ∧
        w 8 = (match s.mu.regulated with
          | some v => signed v
          | none => 0x8000) ∧
        w 10 = reading s.mu.hum.value ∧ w 12 = reading s.mu.probe.value ∧
        (s.cr.fanCycle = none → b 14 = 0) ∧ (∀ r n, s.cr.request = some r → s.cr.fanCycle = some n → b 14 = r.fan % 256) ∧
        b 15 = flag s.cr.ventOpen ∧ b 16 = flag (doorOpen s) ∧
        ([LockState.unlocked, .locking, .locked, .unlocking, .fault])[b 17]? = some s.pu.lock) ∧
      (s.od.cycle = .supply →
        payload.length = 19 ∧ b 0 = 2 ∧ w 1 = s.ssu.claim % 65536 ∧ w 3 = s.ssu.announced % 65536 ∧
          w 5 = s.ssu.lastW % 65536 ∧ w 7 = s.ssu.lastFo % 65536 ∧ w 9 = s.ssu.lastA % 65536 ∧ w 11 = s.lpd.pool % 65536 ∧
          b 13 = flag s.ssu.starved ∧ b 14 = flag s.ssu.contention ∧ b 15 = (s.ssu.peers.toList.filter fresh).length ∧
          b 16 = (s.ssu.peers.toList.filter stale).length ∧ w 17 = s.lpd.shed % 65536) ∧
      (s.od.cycle = .water →
        payload.length = 11 ∧ b 0 = 3 ∧
          ([BoilerState.off, .fill, .heat, .steam, .refill, .waitWater, .cool, .drain, .dryFault])[b 1]? = some s.sgc.state ∧
          ([BoilerUser.climate, .descale])[b 2]? = some s.sgc.user ∧ w 3 = reading s.mu.boiler.value ∧
          ([TankState.absent, .low, .present])[b 5]? = some s.mu.tank ∧ w 6 = s.sdu.account / 200 % 65536 ∧
          b 8 = s.sdu.hardness % 256 ∧
          ([Phase.idle, .prepDrain, .awaitAgent, .locking, .soakFill, .soakHeat, .soak, .drainAgent, .awaitRinse, .rinse,
            .unlocking, .done, .recoverDrain, .recoverRinse])[b 9]? = some s.sdu.phase ∧
          ([Mark.none, .agentIn, .rinseNeeded])[b 10]? = some s.sdu.mark) ∧
      (s.od.cycle = .recipe →
        payload.length = 16 ∧ b 0 = 4 ∧
          ([RecipeState.idle, .running, .pausedDoor, .waitPrompt, .held])[b 1]? = some (recipeState s) ∧
          b 2 = flag s.re.holds.power + 2 * flag s.re.holds.water + 4 * flag s.re.holds.probe + 8 * flag s.re.holds.trip ∧
          slots[b 3]? = some s.re.running ∧ slots[b 4]? = some s.re.queued ∧ slotStates[b 5]? = some s.re.slotA.state ∧
          slotStates[b 6]? = some s.re.slotB.state ∧
          w 7 = (match s.re.running with
            | some i => (s.re.slot i).tag % 65536
            | none => 0) ∧
          (s.re.context = none → b 9 = 0 ∧ w 10 = 0 ∧ w 12 = 0 ∧ b 14 = 0 ∧ b 15 = 0) ∧
          (∀ c, s.re.context = some c →
            b 9 = c.index % 256 ∧ w 10 = c.stageClock % 65536 ∧ w 12 = c.atTempClock % 65536 ∧
              b 14 = flag c.prompt.isSome ∧ b 15 = c.prompt.getD 0 % 256)) ∧
      offersReport .cycleTimerExpired (.cycle payload) s s1

/-- The events by their bits in the EVENTS report, from bit 0 on (§2.2). -/
def eventBits : List Event :=
  [.stageStarted, .prompt, .coreTimeout, .recipeDone, .recipeAborted, .descaleAdvice, .descaleWaitUser, .descaleDone,
    .tankEmpty, .starved, .trip, .clamped, .retainedLost, .dupAddress, .programClamped, .configRestored]

/-- The DIAG report carries the counters, the latch and the flag and changes none of them; while events are pending an EVENTS
report is built as the events timer stops, and with none pending the timer stays stopped (R14, R15, R36, R37); it carries one bit for
each event, by the table of §2.2, and either report enters the queue as R9 and R10 say. That DIAG_TIMER_EXPIRED and
EVENTS_TIMER_EXPIRED act at any count of their timers is the model's choice (notes/assumptions/8), and that an EVENTS report waits for a
restart owed to the link unit its reading (notes/assumptions/21). -/
def Obligations.DiagAndEventsReported : Prop :=
  (∀ s : State, s.run = .running →
    let diag : List Byte := diagPayload s
    let w (i : Nat) : Nat := (diag.getD i 0).toNat + 256 * (diag.getD (i + 1) 0).toNat
    offersReport .diagTimerExpired (.diag s.link.latch.isSome s.link.lost diag) s { s with od.diagTimer := 0 } ∧
      diag.length = 22 ∧ diag.head? = some 6 ∧ w 1 = s.link.counters.clean % 65536 ∧
      w 3 = s.link.counters.corrected % 65536 ∧ w 5 = s.link.counters.bad % 65536 ∧ w 7 = s.link.counters.foreign % 65536 ∧
      w 9 = s.link.counters.collisions % 65536 ∧ w 11 = s.link.counters.dropped % 65536 ∧
      diag.getD 13 0 = BitVec.ofNat 8 (s.link.latch.isSome.toNat + 2 * s.link.lost.toNat) ∧
      (s.link.latch = none → diag.getD 14 0 = 0 ∧ diag.getD 15 0 = 0) ∧
      (∀ l, s.link.latch = some l →
        (diag.getD 14 0).toNat = l.syndrome % 256 ∧ (diag.getD 15 0).toNat = 16 * l.kind.toNat + l.sender.toNat) ∧
      w 16 = s.cr.temperature.holds % 65536 ∧ w 18 = s.cr.humidity.holds % 65536 ∧ w 20 = s.sdu.failures % 65536 ∧
      (∀ n, s.od.eventsTimer = some n → s.od.events = 0 →
        exec .eventsTimerExpired s = .next { s with od.eventsTimer := none }) ∧
      (s.od.eventsTimer = none → exec .eventsTimerExpired s = .next s) ∧
      (∀ n, s.od.eventsTimer = some n → s.link.restartOwed = true →
        exec .eventsTimerExpired s = .next { s with od.eventsTimer := none }) ∧
      (∀ n, s.od.eventsTimer = some n → s.od.events ≠ 0 → s.link.restartOwed = false →
        offersReport .eventsTimerExpired (.events s.od.events) s { s with od.eventsTimer := some 0 })) ∧
  (∀ es : EventSet, (Report.events es).payload = [5, BitVec.ofNat 8 es.toNat, BitVec.ofNat 8 (es.toNat / 256)]) ∧
  ∀ (k : Nat) (e : Event), eventBits[k]? = some e →
    e.mask = BitVec.twoPow 16 k ∧ ∀ es : EventSet, es.has e = es.getLsbD k

/-- What the end of a request in `s` leaves of the climate: no owner and no mode, both contexts at rest with their hold counters kept, the
elements' demands 0, steam not wanted and its demand 0, the vent open and the fan off (R108, R109, R110, R112). -/
def requestEnded (s t : State) : Prop :=
  t.cr.owner = .none ∧ t.cr.request = none ∧
    t.cr.temperature = { s.cr.temperature with error := 0, integrator := 0, output := 0 } ∧
    t.cr.humidity = { s.cr.humidity with error := 0, integrator := 0, output := 0 } ∧
    t.lpd.loads.top.demand = 0 ∧ t.lpd.loads.bottom.demand = 0 ∧ t.lpd.loads.ring.demand = 0 ∧
    t.sgc.steamWanted = false ∧ t.sgc.steamDemand = 0 ∧ t.cr.ventOpen = true ∧ t.cr.fanCycle = none

/-- The boiler serves the climate with steam and leaves its state for COOL when steam is no longer wanted (R128). -/
def steamsForClimate (s : State) : Prop :=
  s.sgc.user = .climate ∧ s.sgc.steamWanted = true ∧ s.sgc.state ∈ [.fill, .heat, .steam, .refill, .waitWater]

/-- The request of `s` has ended: a boiler that filled, heated, steamed or waited for it is in COOL, with a retained write requested, and any
other stays (R128, R129, R142). -/
def climateEnded (s t : State) : Prop :=
  requestEnded s t ∧
    (steamsForClimate s →
      t.sgc.state = .cool ∧ t.sgc.coolTime = 0 ∧ t.sgc.pulses = 0 ∧ t.sgc.wait = none ∧ t.sgc.limitMark = false ∧
        t.sdu.writing ≠ none ∧ t.lpd.loads.steamHeater.demand = 0) ∧
    (¬ steamsForClimate s → t.sgc.state = s.sgc.state ∧ t.sdu = s.sdu)

/-- What a wind-down leaves of the boiler, with a request ended or not: one that `climateEnded` sends to COOL, or that stands there, passes
to DRAIN at once where the change of the power state finds it below 70.0 °C or its COOL time over (R128, R129, R142). -/
def boilerWoundDown (ended : Prop) (s t : State) : Prop :=
  let stops : Prop := ended ∧ steamsForClimate s
  let drains : Prop :=
    s.sgc.user = .climate ∧ (stops ∨ s.sgc.state = .cool) ∧
      ((boilerValue s).below 700 = true ∨ (¬ stops ∧ 1800000 ≤ s.sgc.coolTime))
  (drains → t.sgc.state = .drain ∧ t.sgc.drainCount = 0 ∧ t.lpd.loads.steamHeater.demand = 0) ∧
    (stops →
      (¬ drains → t.sgc.state = .cool) ∧ t.sgc.coolTime = 0 ∧ t.sgc.pulses = 0 ∧ t.sgc.wait = none ∧
        t.sgc.limitMark = false ∧ t.sdu.writing ≠ none ∧ t.lpd.loads.steamHeater.demand = 0) ∧
    (¬ stops → t.sdu = s.sdu ∧ (¬ drains → t.sgc.state = s.sgc.state))

/-- CONSOLE_LOST ends the climate, with the elements' demands 0, steam not wanted and a boiler that fills, heats, steams or waits for it
in COOL, which below 70.0 °C passes to DRAIN as the oven winds down (R129); it aborts the recipe, sends a descale that may hold agent to
its drain, and winds down where no descale runs; the trips, the lock and the measurements stay (R16, R112, R128, R153, R193, R205). It
does not occur where the silence timer does not stand at its 20,000 ms, as after a console frame that was taken first (R16). That the
request ends before the power state moves, so that a boiler it sends to COOL passes to DRAIN in the same command, is the model's reading
(notes/assumptions/15), and that the command acts at 20,000 ms in ACTIVE only, and nowhere else changes anything, its choice
(notes/assumptions/8). -/
def Obligations.ConsoleLostStopsCooking : Prop :=
  (∀ s : State, s.run = .running → s.link.silence ≠ some 20000 ∨ s.od.power ≠ .active →
    exec .consoleSilenceExpired s = .next s) ∧
  ∀ s : State, s.run = .running → s.od.power = .active → s.link.silence = some 20000 → slotsAgree s →
    ∃ t, exec .consoleSilenceExpired s = .next t ∧ t.link.silence = none ∧ t.cr.owner = .none ∧
      t.cr.request = (if s.cr.owner = .none then s.cr.request else none) ∧
      (s.cr.owner ≠ .none → requestEnded s t) ∧ (s.sdu.phase = .idle → boilerWoundDown (s.cr.owner ≠ .none) s t) ∧
      t.cr.fanCycle = (if t.od.power = .active ∧ s.cr.owner = .none then s.cr.fanCycle else none) ∧
      t.re.running = none ∧ t.re.queued = none ∧ t.re.context = none ∧ t.re.repeats = [] ∧ t.re.holds = .empty ∧
      (∀ i, (t.re.slot i).program = (s.re.slot i).program) ∧
      (∀ i, s.re.running = some i ∨ s.re.queued = some i → (t.re.slot i).state = .ready) ∧
      (t.od.events.has .recipeAborted = true ↔ s.od.events.has .recipeAborted = true ∨ s.re.running ≠ none) ∧
      t.pu = s.pu ∧ t.mu = s.mu ∧ t.config = s.config ∧ t.sdu.mark = s.sdu.mark ∧ t.sdu.account = s.sdu.account ∧
      (s.sdu.phase = .idle →
        t.sdu.phase = .idle ∧
          t.od.power = if t.sgc.state = .off ∧ s.pu.lock ≠ .locking ∧ s.pu.lock ≠ .unlocking then .standby else .windDown) ∧
      (s.sdu.phase ∈ [.locking, .soakFill, .soakHeat, .soak] → t.sdu.phase = .drainAgent ∧ t.od.power = .active) ∧
      (s.sdu.phase ∉ [.idle, .locking, .soakFill, .soakHeat, .soak] → t.sdu.phase = s.sdu.phase ∧ t.od.power = .active)

/-! ### Checking an order -/

/-- An order passes the checks in their order: from another sender it is refused NOT_CONSOLE, malformed MALFORMED, under a BUSY
condition answered BUSY; and nothing but the confirmation changes. BUSY is answered in no other case (R22, R23, R24). -/
def Obligations.OrderChecksInOrder : Prop :=
  ∀ (c : Instr) (a : Addr) (s : State), s.run = .running → orderSender c = some a →
    (a ≠ s.config.console → exec c s = .next (answered (.refuse .notConsole) s)) ∧
    (a = s.config.console → ¬ spelled c → exec c s = .next (answered (.refuse .malformed) s)) ∧
    (a = s.config.console → spelled c → meetsBusy c s → exec c s = .next (answered .busy s)) ∧
    ∀ t, a = s.config.console → spelled c → exec c s = .next t → (t.link.confirmation = some .busy ↔ meetsBusy c s)

/-- While a restart is pending every other order that passes the first three checks is refused NOT_NOW, before its own state
refusals, and a RESTART is accepted and changes nothing (R25). -/
def Obligations.PendingRestartRefuses : Prop :=
  ∀ (c : Instr) (s : State), s.run = .running → orderSender c = some s.config.console → s.od.restartPending = true →
    (spelled c → ¬ meetsBusy c s → isRestart c = false → exec c s = .next (answered (.refuse .notNow) s)) ∧
    (spelled c → isRestart c = true → exec c s = .next (answered .accept s)) ∧
    (¬ spelled c → exec c s = .next (answered (.refuse .malformed) s)) ∧
    (spelled c → meetsBusy c s → exec c s = .next (answered .busy s))

/-! ### The general orders -/

/-- WAKE makes the power state ACTIVE and starts the silence timer; in STANDBY the claim stays 0, a notice with claim 0 is offered and the
announced claim is 0 but for a raise that follows; in ACTIVE it changes nothing (R20, R26, R53, R56). That a recovery phase is
judged at the end of the WAKE, and raises DESCALE_WAIT_USER with the door open also under a LOCK trip, is the model's reading
(notes/assumptions/16). -/
def Obligations.WakeMakesActive : Prop :=
  ∀ (a : Addr) (s : State), admitted (.wake a []) s → eventsServed s →
    (s.od.power = .active → exec (.wake a []) s = .next (answered .accept s)) ∧
    (s.od.power ≠ .active →
      ∃ t, exec (.wake a []) s = .next t ∧ t.od.power = .active ∧ t.link.silence = some 0 ∧
        t.link.confirmation = some .accept ∧ t.ssu.claim = s.ssu.claim ∧ t.mu = s.mu ∧ t.config = s.config ∧
        t.cr.request = s.cr.request ∧ t.cr.owner = s.cr.owner ∧ t.re.slotA = s.re.slotA ∧ t.re.slotB = s.re.slotB ∧
        t.re.running = s.re.running ∧ t.sdu.account = s.sdu.account ∧
        (s.od.power = .standby → claimsOrdered s →
          t.ssu.claim = 0 ∧
            ((t.ssu.raise = .none ∧ t.ssu.announced = 0) ∨
              (t.ssu.raise = .queued 0 ∧ t.ssu.announced = t.ssu.lastA ∧ 5 ≤ t.ssu.lastA)) ∧
            (s.link.queue.length < 4 →
              ∃ f ∈ t.link.queue, f.body =
                .notice
                  { cls := s.config.cls, raise := false, leave := false, asleep := false, claim := 0,
                    wanted := t.ssu.lastW, floor := t.ssu.lastFo })) ∧
        (s.sdu.phase = .recoverDrain ∨ s.sdu.phase = .recoverRinse →
          (doorOpen s = true → t.sdu.phase = s.sdu.phase ∧ t.od.events.has .descaleWaitUser = true) ∧
          (doorOpen s = false → s.pu.trips.lock = false → t.sdu.phase ≠ s.sdu.phase)) ∧
        (s.sdu.phase ≠ .recoverDrain → s.sdu.phase ≠ .recoverRinse →
          t = { s with
            od := t.od, link := t.link, ssu := t.ssu, lpd.loads := t.lpd.loads, cr.fanCycle := t.cr.fanCycle,
            sgc := t.sgc, re.holds.power := t.re.holds.power } ∧
          t.od.events = s.od.events))

/-- SLEEP in ACTIVE is refused while a recipe is not IDLE or a descale runs; else it ends a MANUAL request, with the elements' demands 0,
the vent open, the fan off and steam not wanted, and winds down, to STANDBY at once where the boiler is OFF and the lock does not travel.
A boiler that filled, heated, steamed or waited goes to COOL, and one in COOL below 70.0 °C or with its COOL time over to DRAIN. In the
other power states it changes nothing (R20, R21, R27, R109, R110, R112, R128, R129). That the request ends before the power state moves,
so that a boiler it sends to COOL passes to DRAIN in the same command, is the model's reading of R27 and R129 (notes/assumptions/15). -/
def Obligations.SleepWindsDown : Prop :=
  ∀ (a : Addr) (s : State), admitted (.sleep a []) s →
    (s.od.power ≠ .active → exec (.sleep a []) s = .next (answered .accept s)) ∧
    (s.od.power = .active → recipeState s ≠ .idle →
      exec (.sleep a []) s = .next (answered (.refuse .recipeActive) s)) ∧
    (s.od.power = .active → recipeState s = .idle → s.sdu.phase ≠ .idle →
      exec (.sleep a []) s = .next (answered (.refuse .descaling) s)) ∧
    (s.od.power = .active → recipeState s = .idle → s.sdu.phase = .idle →
      ∃ t, exec (.sleep a []) s = .next t ∧ t.link.confirmation = some .accept ∧ t.link.silence = none ∧
        t.od.power = (if t.sgc.state = .off ∧ s.pu.lock ≠ .locking ∧ s.pu.lock ≠ .unlocking then .standby else .windDown) ∧
        (s.cr.owner = .manual → requestEnded s t) ∧ boilerWoundDown (s.cr.owner = .manual) s t ∧
        (s.cr.owner ≠ .manual →
          t.cr = { s.cr with fanCycle := none } ∧ t.lpd.loads.top = s.lpd.loads.top ∧
            t.lpd.loads.bottom = s.lpd.loads.bottom ∧ t.lpd.loads.ring = s.lpd.loads.ring ∧
            t.sgc.steamWanted = s.sgc.steamWanted ∧ t.sgc.steamDemand = s.sgc.steamDemand) ∧
        t.cr.fanCycle = none ∧ t.mu = s.mu ∧ t.pu = s.pu ∧ t.re = s.re ∧ t.config = s.config ∧
        t.sdu.account = s.sdu.account ∧ t.sdu.phase = .idle ∧ t.sdu.mark = s.sdu.mark)

/-- What a restart leaves of every block but the link unit: `s` is the state it takes effect in (R34, R40, R58, R63, R82, R95, R116,
R136, R138, R158, R174, R195, R207). -/
def restarted (s t : State) : Prop :=
  t.run = s.run ∧ t.config = s.config ∧ t.store = s.store ∧ t.pending = s.pending ∧ t.second = s.second ∧
    t.freeUses = s.freeUses ∧
    t.od = { OrderDecoder.reset with
      events := Event.configRestored.mask ||| (if 150000 ≤ t.sdu.account then Event.descaleAdvice.mask else 0),
      eventsTimer := if t.link.restartOwed then none else some 0 } ∧
    t.ssu = { SupplyUnit.reset with
      peers := s.ssu.peers, listenIn := s.ssu.listenIn, period := some 0, contention := t.ssu.contention } ∧
    t.lpd = { Planner.reset with drive := s.lpd.drive, sinceCrossing := s.lpd.sinceCrossing } ∧
    t.mu = .resetWith s.mu.mains ∧ t.cr = .reset ∧ t.re = .reset ∧
    t.sgc = { Boiler.reset with
      state := if s.pu.trips.boilerDry then .dryFault else .off, user := t.sgc.user,
      derate := decide (200000 ≤ t.sdu.account) } ∧
    t.sdu = { Scale.reset with
      account := min (s.sdu.account + s.sdu.meteringSum) 400000, hardness := s.sdu.hardness, mark := s.sdu.mark,
      phase := t.sdu.phase, writing := s.sdu.writing, writeTimer := s.sdu.writeTimer,
      rewritePending := s.sdu.rewritePending, retry := s.sdu.retry } ∧
    (t.sdu.phase, t.sgc.user) =
      (match s.sdu.mark with
       | .none => (.idle, .climate)
       | .agentIn => (.recoverDrain, .descale)
       | .rinseNeeded => (.recoverRinse, .descale)) ∧
    t.pu = { Protection.reset with
      trips := s.pu.trips, lock := if s.pu.trips.lock then .fault else .unlocked }

/-- An accepted RESTART outside listen-in offers LEAVE and waits for it; when the LEAVE notice leaves the queue, sent or dropped at its
eighth collision, or at once where the queue does not take it, every block takes its restart state and the ASLEEP notice is offered, and
behind it the EVENTS report; in listen-in it takes effect at once, in the link unit later (R19, R33, R34, R36, R40, R57, R58, R63). That
in listen-in the EVENTS report waits for the link unit's restart is the model's reading of R19 and R33 (notes/assumptions/21). The run
levels of the switches after it, the numbers that stand for none, the rinse step, the phase LOCKING was entered from and the flag drained
are the model's choice (notes/assumptions/6, 42, 17 and 29), and so is that the 1000 ms count runs on through it (32); that its events go
in one EVENTS report is the model's reading (7). -/
def Obligations.RestartLeavesThenResets : Prop :=
  ∀ s : State, s.run = .running →
    let frame (b : Body) : Frame := { body := b, collisions := 0, backoff := 0, abandoned := false }
    let asleepFirst (t : State) : Prop :=
      t.link.queue =
        [frame (.notice
            { cls := s.config.cls, raise := false, leave := false, asleep := true, claim := 0, wanted := 0, floor := 0 }),
          frame (.report (.events t.od.events))]
    (∀ a, admitted (.restart a []) s → s.ssu.listenIn = none → queueTakes s.link = true →
      ∃ t, exec (.restart a []) s = .next t ∧ t.od.restartPending = true ∧ t.link.confirmation = some .accept ∧
        t.ssu = { s.ssu with raise := .none } ∧
        (∃ f ∈ t.link.queue, ∃ n, f.body = .notice n ∧ n.leave = true ∧ n.claim = 0 ∧ n.wanted = 0 ∧ n.floor = 0) ∧
        t = { s with link := t.link, od.restartPending := true, ssu.raise := .none }) ∧
    (∀ a, admitted (.restart a []) s → s.ssu.listenIn = none → queueTakes s.link = false →
      ∃ t, exec (.restart a []) s = .next t ∧ restarted s t ∧ asleepFirst t ∧
        t.link = { LinkUnit.reset with lfsr := s.link.lfsr, confirmation := some .accept, queue := t.link.queue }) ∧
    (∀ a n, admitted (.restart a []) s → s.ssu.listenIn = some n →
      ∃ t, exec (.restart a []) s = .next t ∧ restarted s t ∧
        t.link = { s.link with restartOwed := true, confirmation := some .accept }) ∧
    (∀ chars f rest n, s.link.tx = .sending chars → s.link.queue = f :: rest → f.body = .notice n → n.leave = true →
      s.od.restartPending = true → s.ssu.listenIn = none →
      (∃ t, exec .frameSent s = .next t ∧ restarted s t ∧ asleepFirst t ∧
        t.link = { LinkUnit.reset with
          lfsr := s.link.lfsr, confirmation := s.link.confirmation, queue := t.link.queue }) ∧
      (7 ≤ f.collisions →
        ∃ t, exec .collisionDetected s = .next t ∧ restarted s t ∧ asleepFirst t ∧
          t.link = { LinkUnit.reset with
            lfsr := s.link.lfsr, confirmation := s.link.confirmation, queue := t.link.queue }))

/-- The cavity range of a mode in 0.1 °C (R98). -/
def cavityRange : Mode → Int × Int
  | .convection => (300, 2500)
  | .topBottom => (300, 2500)
  | .grill => (300, 2750)
  | .steam => (350, 1000)
  | .combi => (500, 2300)
  | .keepWarm => (400, 900)

/-- The STEAM_HEATER demand of a boiler that serves the climate, by its state: at most 600 under the derate signal, and 0 while the boiler
value is INVALID (R121). -/
def heaterOf (s : State) : Nat :=
  let base : Nat := match s.sgc.state with
    | .fill => if s.mu.levelLow.published = some true then 1000 else 0
    | .heat => 1000
    | .steam => s.sgc.steamDemand
    | .refill => if s.mu.levelLow.published = some true then s.sgc.steamDemand else 0
    | .off | .waitWater | .cool | .drain | .dryFault => 0
  match s.mu.boiler.value with
  | .value _ => if s.sgc.derate then min base 600 else base
  | .invalid | .absent => 0

/-- SET_CLIMATE is refused as R28 orders, and otherwise writes a MANUAL request with its setpoints brought into range and the fan's default
filled in; a new mode starts from rest, the same mode keeps the contexts. The vent takes the mode's position, in COMBI by the humidity; the fan
runs with the door closed, in a new cycle where it stood still. Steam wanted follows the mode: as it begins, a boiler in OFF, DRAIN or
COOL fills, heats or steams by its level, tank and temperature, and as it ends, a boiler that fills, heats, steams or waits goes to COOL; a
new mode's steam demand of 0 and the heater demand with it are written (R28, R29, R100, R108, R109, R110, R121, R122, R123, R128, R129,
R130). -/
def Obligations.SetClimateWritesRequest : Prop :=
  ∀ (a : Addr) (m c0 c1 h0 h1 f : Byte) (mode : Mode) (s : State),
    admitted (.setClimate a [m, c0, c1, h0, h1, f]) s → m.toNat = modeCode mode →
    let steams : Prop := mode = .steam ∨ mode = .combi
    let lockout : Prop := steams ∧ 260000 ≤ s.sdu.account
    let tripped : Prop :=
      s.pu.trips.cavityOvertemp = true ∨ s.pu.trips.sensor = true ∨ s.pu.trips.lock = true ∨
        (s.pu.trips.boilerDry = true ∧ steams)
    let cavity : Int := (c1 ++ c0 : BitVec 16).toInt
    let humidity : Nat := (h1 ++ h0 : BitVec 16).toNat
    let lo : Int := (cavityRange mode).1
    let hi : Int := (cavityRange mode).2
    let refused (r : Reason) : Prop := exec (.setClimate a [m, c0, c1, h0, h1, f]) s = .next (answered (.refuse r) s)
    (s.od.power ≠ .active → refused .asleep) ∧
    (s.od.power = .active → recipeState s ≠ .idle → refused .recipeActive) ∧
    (s.od.power = .active → recipeState s = .idle → (s.sdu.phase ≠ .idle ∨ s.sdu.mark ≠ .none) → refused .descaling) ∧
    (s.od.power = .active → recipeState s = .idle → s.sdu.phase = .idle → s.sdu.mark = .none →
      (lockout → refused .lockout) ∧ (¬ lockout → tripped → refused .tripped) ∧
      (¬ lockout → ¬ tripped →
        ∃ t, exec (.setClimate a [m, c0, c1, h0, h1, f]) s = .next t ∧ t.link.confirmation = some .accept ∧
          t.cr.owner = .manual ∧
          t.cr.request = some
            { mode := mode, cavity := max lo (min hi cavity),
              humidity := if mode = .combi then some (max 200 (min 900 humidity)) else none,
              fan := if f.toNat = 0 then 3 else f.toNat } ∧
          ((cavity < lo ∨ hi < cavity ∨ (mode = .combi ∧ (humidity < 200 ∨ 900 < humidity))) →
            t.od.events.has .clamped = true) ∧
          (lo ≤ cavity → cavity ≤ hi → (mode = .combi → 200 ≤ humidity ∧ humidity ≤ 900) →
            t.od.events.has .clamped = s.od.events.has .clamped) ∧
          (s.cr.request.map Request.mode = some mode →
            t.cr.temperature = s.cr.temperature ∧ t.cr.humidity = s.cr.humidity ∧ t.lpd.loads.ring.demand = s.lpd.loads.ring.demand) ∧
          (s.cr.request.map Request.mode ≠ some mode →
            t.cr.temperature = { s.cr.temperature with error := 0, integrator := 0, output := 0 } ∧
              t.cr.humidity = { s.cr.humidity with error := 0, integrator := 0, output := 0 } ∧
              t.lpd.loads.top.demand = 0 ∧ t.lpd.loads.bottom.demand = 0 ∧ t.lpd.loads.ring.demand = 0) ∧
          (t.cr.ventOpen = true ↔
            ¬ steams ∨ (mode = .combi ∧ ∀ v, s.mu.hum.value = .value v → ((max 200 (min 900 humidity) : Nat) : Int) + 100 < v)) ∧
          t.cr.fanCycle =
            (if s.mu.door.published = some false then some (s.cr.fanCycle.getD 0) else none) ∧
          (t.sgc.steamWanted = true ↔ steams) ∧
          (s.cr.request.map Request.mode ≠ some mode →
            t.sgc.steamDemand = 0 ∧ (s.sgc.user = .climate → t.lpd.loads.steamHeater.demand = heaterOf t)) ∧
          (s.sgc.user = .climate →
            let wet : Prop := s.mu.levelLow.published = some true
            let full : Prop := wet ∧ s.mu.levelHigh.published = some true
            let boils : Prop := ∃ v, s.mu.boiler.value = .value v ∧ 980 ≤ v
            let st := s.sgc.state
            let goesOn : Prop := (st = .off ∨ st = .drain) ∧ full ∨ st = .cool ∧ wet
            (s.sgc.steamWanted = false → steams →
              (goesOn → boils → t.sgc.state = .steam) ∧ (goesOn → ¬ boils → t.sgc.state = .heat) ∧
              (¬ goesOn → st ∈ [.off, .drain, .cool] →
                (s.mu.tank = .present → t.sgc.state = .fill ∧ t.sgc.pulses = 1) ∧
                (s.mu.tank ≠ .present → t.sgc.state = .waitWater ∧ t.od.events.has .tankEmpty = true)) ∧
              (st ∉ [.off, .drain, .cool] → t.sgc.state = st)) ∧
            (s.sgc.steamWanted = true → ¬ steams →
              (st ∈ [.fill, .heat, .steam, .refill, .waitWater] →
                t.sgc.state = .cool ∧ t.sgc.coolTime = 0 ∧ t.sdu.writing ≠ none) ∧
              (st ∉ [.fill, .heat, .steam, .refill, .waitWater] → t.sgc.state = st)) ∧
            ((s.sgc.steamWanted = true ↔ steams) → t.sgc.state = st)) ∧
          t.mu = s.mu ∧ t.pu = s.pu ∧ t.ssu = s.ssu ∧ t.config = s.config ∧ t.od.power = s.od.power ∧
          t.sdu.account = s.sdu.account ∧ t.sdu.phase = .idle ∧ t.re.running = s.re.running ∧
          t.re.slotA = s.re.slotA ∧ t.re.slotB = s.re.slotB))

/-- STOP_CLIMATE ends a MANUAL request, and a boiler that fills, heats, steams or waits for it goes to COOL; it is refused while a recipe owns the
climate, and changes nothing where no request is held; RECIPE_ABORT returns both slots to READY, ends the climate and raises RECIPE_ABORTED, and
changes nothing in IDLE (R30, R109, R110, R112, R128, R129, R142, R192). That the climate's owner is RECIPE while a slot runs is an invariant,
stated by CookingInvariantsKept. -/
def Obligations.StoppingOrdersEndClimate : Prop :=
  ∀ (a : Addr) (s : State),
    (admitted (.stopClimate a []) s →
      (s.cr.owner = .recipe → exec (.stopClimate a []) s = .next (answered (.refuse .recipeActive) s)) ∧
      (s.cr.owner = .none → exec (.stopClimate a []) s = .next (answered .accept s)) ∧
      (s.cr.owner = .manual →
        ∃ t, exec (.stopClimate a []) s = .next t ∧ t.link.confirmation = some .accept ∧ climateEnded s t ∧
          t = { s with
            link.confirmation := some .accept, cr := t.cr, lpd.loads := t.lpd.loads, sgc := t.sgc, sdu := t.sdu,
            ssu := t.ssu, re.holds := t.re.holds } ∧
          t.sdu.account = s.sdu.account ∧ t.sdu.phase = s.sdu.phase ∧ t.sdu.mark = s.sdu.mark)) ∧
    (admitted (.recipeAbort a []) s → eventsServed s →
      (s.re.running = none → exec (.recipeAbort a []) s = .next (answered .accept s)) ∧
      (∀ i, s.re.running = some i → slotsAgree s →
        ∃ t, exec (.recipeAbort a []) s = .next t ∧ t.link.confirmation = some .accept ∧ t.re.running = none ∧
          t.re.queued = none ∧ t.re.context = none ∧ t.re.repeats = [] ∧ t.re.holds = .empty ∧
          t.cr.owner = .none ∧ (recipeOwnsClimate s → climateEnded s t) ∧
          t.od.events = s.od.events ||| Event.recipeAborted.mask ∧
          (∀ j, t.re.slot j = { s.re.slot j with
            state := if s.re.running = some j ∨ s.re.queued = some j then .ready else (s.re.slot j).state }) ∧
          t.mu = s.mu ∧ t.pu = s.pu ∧ t.config = s.config ∧ t.od.power = s.od.power ∧ t.sdu.account = s.sdu.account ∧
          t.sdu.phase = s.sdu.phase))

/-- SET_HARDNESS holds the value, at most 40, and requests a write only where it differs from the one held; a value above 40 is held as 40
and raises CLAMPED (R31, R142, R143). -/
def Obligations.SetHardnessHeld : Prop :=
  ∀ (a : Addr) (h : Byte) (s : State), admitted (.setHardness a [h]) s → eventsServed s →
    (h.toNat = s.sdu.hardness → h.toNat ≤ 40 → exec (.setHardness a [h]) s = .next (answered .accept s)) ∧
    (h.toNat ≠ s.sdu.hardness → h.toNat ≤ 40 → s.sdu.writing = none →
      exec (.setHardness a [h]) s =
        .next { s with
          link.confirmation := some .accept,
          sdu := { s.sdu with
            hardness := h.toNat,
            writing := some
              { account := s.sdu.account, hardness := h.toNat, mark := s.sdu.mark.code, sumOk := true },
            writeTimer := 0, rewritePending := false } }) ∧
    (h.toNat ≠ s.sdu.hardness → h.toNat ≤ 40 → s.sdu.writing ≠ none →
      exec (.setHardness a [h]) s =
        .next { s with
          link.confirmation := some .accept, sdu := { s.sdu with hardness := h.toNat, rewritePending := true } }) ∧
    (40 < h.toNat →
      ∃ t, exec (.setHardness a [h]) s = .next t ∧ t.link.confirmation = some .accept ∧ t.sdu.hardness = 40 ∧
        t.od.events = s.od.events ||| Event.clamped.mask ∧ (s.sdu.hardness = 40 → t.sdu = s.sdu) ∧
        (s.sdu.hardness ≠ 40 → s.sdu.writing = none →
          t.sdu = { s.sdu with
            hardness := 40,
            writing := some { account := s.sdu.account, hardness := 40, mark := s.sdu.mark.code, sumOk := true },
            writeTimer := 0, rewritePending := false }) ∧
        (s.sdu.hardness ≠ 40 → s.sdu.writing ≠ none →
          t.sdu = { s.sdu with hardness := 40, rewritePending := true }) ∧
        t = { s with link := t.link, od := t.od, sdu := t.sdu })

/-- DRAIN_NOW is accepted under the user CLIMATE in COOL, and the boiler goes to DRAIN with a drain count of 0; in every other case it is refused
NOT_NOW (R32, R130). -/
def Obligations.DrainNowDrains : Prop :=
  ∀ (a : Addr) (s : State), admitted (.drainNow a []) s →
    (s.sgc.user = .climate → s.sgc.state = .cool →
      ∃ t, exec (.drainNow a []) s = .next t ∧ t.link.confirmation = some .accept ∧ t.sgc.state = .drain ∧
        t.sgc.drainCount = 0 ∧ t.lpd.loads.steamHeater.demand = 0 ∧
        t = { s with
          link.confirmation := some .accept, lpd.loads.steamHeater := t.lpd.loads.steamHeater, sgc := t.sgc }) ∧
    (¬ (s.sgc.user = .climate ∧ s.sgc.state = .cool) →
      exec (.drainNow a []) s = .next (answered (.refuse .notNow) s))

/-- DROP_PEER empties a STALE entry and the allowance is computed; a FRESH entry refuses it and an EMPTY one accepts it unchanged (R45). -/
def Obligations.DropPeerEmptiesStale : Prop :=
  ∀ (a : Addr) (p : Byte) (i : Fin 15) (s : State), admitted (.dropPeer a [p]) s → p.toNat = i.val + 1 →
    (∀ v age, s.ssu.peers[i] = .fresh v age →
      exec (.dropPeer a [p]) s = .next (answered (.refuse .peerFresh) s)) ∧
    (s.ssu.peers[i] = .empty → exec (.dropPeer a [p]) s = .next (answered .accept s)) ∧
    (∀ v, s.ssu.peers[i] = .stale v →
      ∃ t, exec (.dropPeer a [p]) s = .next t ∧ t.link.confirmation = some .accept ∧
        t.ssu.peers = s.ssu.peers.set i .empty ∧
        t.ssu.lastA = allowance { s with ssu.peers := s.ssu.peers.set i .empty } ∧ t.ssu.claim = s.ssu.claim ∧
        t = { s with link := t.link, ssu := t.ssu, re.holds.power := t.re.holds.power })

/-! ### Recipe programs -/

/-- LOAD_OPEN opens an empty load, LOAD_STAGE stores a record as received, by its 14 characters, in the place of its index, LOAD_ABANDON
empties the slot; a QUEUED or RUNNING slot is busy, and a record is taken only in LOADING below the declared count (§9.2, R160, R161,
R163, R164, R165, R171). The numbers that stand for none in a slot are the model's choice (notes/assumptions/42). -/
def Obligations.LoadingOrdersKeepRecords : Prop :=
  ∀ (a : Addr) (b : Byte) (i : SlotId) (s : State), b.toNat = (match i with | .a => 1 | .b => 2) →
    let x : Slot := s.re.slot i
    let busy : Prop := x.state = .queued ∨ x.state = .running
    (∀ n t0 t1, admitted (.loadOpen a [b, n, t0, t1]) s →
      (busy → exec (.loadOpen a [b, n, t0, t1]) s = .next (answered (.refuse .slotBusy) s)) ∧
      (¬ busy →
        exec (.loadOpen a [b, n, t0, t1]) s =
          .next { s with
            link.confirmation := some .accept,
            re := s.re.setSlot i
              { state := .loading, tag := t0.toNat + 256 * t1.toNat, count := n.toNat, places := .replicate 24 none,
                program := [], steam := false } })) ∧
    (∀ (k : Byte) (chars : List Byte), admitted (.loadStage a (b :: k :: chars)) s →
      let char (i : Nat) : Byte := chars.getD (i - 1) 0
      let pair (i : Nat) : BitVec 16 := char (i + 1) ++ char i
      let r : StageRecord :=
        { kind := char 1, selector := char 2, flags := char 3, cavity := pair 4, humidity := pair 6, fan := char 8,
          condition := char 9, value := pair 10, limit := pair 12, prompt := char 14 }
      (x.state ≠ .loading → exec (.loadStage a (b :: k :: chars)) s = .next (answered (.refuse .slotState) s)) ∧
      (x.state = .loading → x.count ≤ k.toNat →
        exec (.loadStage a (b :: k :: chars)) s = .next (answered (.refuse .malformed) s)) ∧
      (∀ h : k.toNat < 24, x.state = .loading → k.toNat < x.count →
        exec (.loadStage a (b :: k :: chars)) s =
          .next { s with
            link.confirmation := some .accept,
            re := s.re.setSlot i { x with places := x.places.set k.toNat (some r) h } })) ∧
    (admitted (.loadAbandon a [b]) s →
      (busy → exec (.loadAbandon a [b]) s = .next (answered (.refuse .slotBusy) s)) ∧
      (¬ busy →
        exec (.loadAbandon a [b]) s =
          .next { s with
            link.confirmation := some .accept,
            re := s.re.setSlot i
              { state := .empty, tag := 0, count := 0, places := .replicate 24 none, program := [], steam := false } }))

/-- A program that passes checks 1 and 2: one END, the last; every REPEAT's target before it and neither REPEAT nor END; at most 12 of
them (R167). -/
def shapeOk (recs : List StageRecord) : Prop :=
  (∃ r : StageRecord, recs.getLast? = some r ∧ r.kind.toNat = 7) ∧
    (∀ (i : Nat) (r : StageRecord), recs[i]? = some r → i + 1 < recs.length → r.kind.toNat ≠ 7) ∧
    (∀ (i : Nat) (r : StageRecord), recs[i]? = some r → r.kind.toNat = 6 →
      r.selector.toNat < i ∧ ∃ t : StageRecord, recs[r.selector.toNat]? = some t ∧ t.kind.toNat ≠ 6 ∧ t.kind.toNat ≠ 7) ∧
    (recs.filter fun r => r.kind.toNat == 6).length ≤ 12

/-- A stage that passes checks 3 and 4 (R162, R168). -/
def partsOk (r : StageRecord) : Prop :=
  let k := r.kind.toNat
  let has (i : Nat) : Prop := r.flags.toNat / 2 ^ i % 2 = 1
  let cond := r.condition.toNat
  1 ≤ k ∧ k ≤ 7 ∧
    (k = 1 → 1 ≤ r.selector.toNat ∧ r.selector.toNat ≤ 3) ∧
    (k ≤ 4 → has 0 ∧ has 3 ∧ 1 ≤ cond ∧ cond ≤ 4 ∧ (has 2 → r.fan.toNat ≤ 5)) ∧
    (k = 3 → has 1) ∧
    (k = 5 → has 5 ∧ (has 3 → cond = 4)) ∧
    (k = 6 → 1 ≤ cond ∧ cond ≤ 9)

/-- The program stage a record forms (R162, R169). -/
def formed (r : StageRecord) : Stage :=
  let has (i : Nat) : Bool := r.flags.toNat / 2 ^ i % 2 == 1
  let limit : Option Nat := if has 4 ∧ r.limit.toNat ≠ 0 then some r.limit.toNat else none
  let prompt : Option Nat := if has 5 then some r.prompt.toNat else none
  let heat (m : Mode) : Stage :=
    .heating
      { mode := m, cavity := max (cavityRange m).1 (min (cavityRange m).2 r.cavity.toInt),
        humidity := if m = .combi then some (max 200 (min 900 r.humidity.toNat)) else none,
        fan := if has 2 ∧ r.fan.toNat ≠ 0 then r.fan.toNat else 3 }
      (match r.condition.toNat with
       | 1 => .time (max 1 r.value.toNat)
       | 2 => .timeAtTemp (max 1 r.value.toNat)
       | 3 => .core (max 300 (min 1000 r.value.toNat))
       | _ => .confirm)
      (if r.condition.toNat = 1 ∨ r.condition.toNat = 2 then none else limit) prompt
  match r.kind.toNat, r.selector.toNat with
  | 1, 1 => heat .convection
  | 1, 2 => heat .topBottom
  | 1, 3 => heat .grill
  | 2, _ => heat .steam
  | 3, _ => heat .combi
  | 4, _ => heat .keepWarm
  | 5, _ => .prompt limit r.prompt.toNat
  | 6, t => .loop t r.condition.toNat
  | _, _ => .finish

/-- LOAD_CLOSE is refused outside LOADING, with a place empty, or with a program that fails a check, and changes nothing then; else the
program is formed, its values in range, the slot READY, and PROGRAM_CLAMPED raised exactly where a value had to be changed (R166, R167,
R168, R169, R170). That the value of a CORE condition is read without a sign is the model's reading (notes/assumptions/47). -/
def Obligations.LoadCloseFormsProgram : Prop :=
  ∀ (a : Addr) (b : Byte) (i : SlotId) (s : State), admitted (.loadClose a [b]) s →
    b.toNat = (match i with | .a => 1 | .b => 2) →
    let x : Slot := s.re.slot i
    let places : List (Option StageRecord) := x.places.toList.take x.count
    let ok (recs : List StageRecord) : Prop := shapeOk recs ∧ ∀ r ∈ recs, partsOk r
    let refused (r : Reason) : Prop := exec (.loadClose a [b]) s = .next (answered (.refuse r) s)
    let changed (r : StageRecord) : Prop :=
      ∃ q cond limit prompt, formed r = .heating q cond limit prompt ∧
        (q.cavity ≠ r.cavity.toInt ∨ (∃ h, q.humidity = some h ∧ h ≠ r.humidity.toNat) ∨
          (r.condition.toNat ≤ 2 ∧ r.value.toNat = 0) ∨
          (r.condition.toNat = 3 ∧ (r.value.toNat < 300 ∨ 1000 < r.value.toNat)))
    (x.state ≠ .loading → refused .slotState) ∧
    (x.state = .loading → none ∈ places → refused .missingStages) ∧
    (∀ recs : List StageRecord, x.state = .loading → places = recs.map some → ¬ ok recs → refused .badProgram) ∧
    (∀ recs : List StageRecord, x.state = .loading → places = recs.map some → ok recs →
      ∃ t, exec (.loadClose a [b]) s = .next t ∧ t.link.confirmation = some .accept ∧
        t.re = s.re.setSlot i
          { state := .ready, tag := x.tag, count := x.count, places := .replicate 24 none, program := recs.map formed,
            steam := (recs.map formed).any Stage.steams } ∧
        (t.od.events.has .programClamped = true ↔ s.od.events.has .programClamped = true ∨ ∃ r ∈ recs, changed r) ∧
        (∀ e, e ≠ .programClamped → t.od.events.has e = s.od.events.has e) ∧
        t = { s with link := t.link, od := t.od, re := t.re })

/-- RECIPE_START's refusals come in R177's order; an accepted start of a second slot queues it and changes nothing else, and one from IDLE runs the
slot: the climate's owner is RECIPE and a stage 0 is entered, a heating stage with its climate and a PROMPT with a request without a mode;
a program that is an END alone ends at once, with RECIPE_DONE raised, the climate request ended and the slots as before (R177, R178, R179,
R180, R181, R191). -/
def Obligations.RecipeStartRunsOrQueues : Prop :=
  ∀ (a : Addr) (b : Byte) (i : SlotId) (s : State), admitted (.recipeStart a [b]) s → slotsAgree s → eventsServed s →
    b.toNat = (match i with | .a => 1 | .b => 2) →
    let x : Slot := s.re.slot i
    let refused (r : Reason) : Prop := exec (.recipeStart a [b]) s = .next (answered (.refuse r) s)
    (x.state = .running → refused .slotBusy) ∧
    (x.state = .queued → refused .queueTaken) ∧
    ((x.state = .empty ∨ x.state = .loading) → refused .slotState) ∧
    (x.state = .ready → s.od.power ≠ .active → refused .asleep) ∧
    (x.state = .ready → s.od.power = .active → (s.sdu.phase ≠ .idle ∨ s.sdu.mark ≠ .none) → refused .descaling) ∧
    (x.state = .ready → s.od.power = .active → s.sdu.phase = .idle → s.sdu.mark = .none →
      (x.steam = true ∧ 260000 ≤ s.sdu.account → refused .lockout) ∧
      (¬ (x.steam = true ∧ 260000 ≤ s.sdu.account) → s.cr.owner = .manual → refused .notNow) ∧
      (¬ (x.steam = true ∧ 260000 ≤ s.sdu.account) → s.cr.owner ≠ .manual →
        (∀ j, s.re.running = some j →
          exec (.recipeStart a [b]) s =
            .next { s with
              link.confirmation := some .accept,
              re := { s.re.setSlot i { x with state := .queued } with queued := some i } }) ∧
        (∀ r cond limit prompt, s.re.running = none → x.program.head? = some (.heating r cond limit prompt) →
          ∃ t, exec (.recipeStart a [b]) s = .next t ∧ t.link.confirmation = some .accept ∧
            t.re.running = some i ∧ t.re.queued = none ∧ t.re.slot i = { x with state := .running } ∧
            t.re.slot i.other = s.re.slot i.other ∧ t.re.repeats = [] ∧ t.cr.owner = .recipe ∧
            t.cr.request = (if s.pu.trips.cavityOvertemp = true ∨ s.pu.trips.sensor = true then none else some r) ∧
            t.re.context = some
              { index := 0, stageClock := 0, atTempClock := 0, waiting := decide (cond = .confirm),
                prompt := if cond = .confirm then some (prompt.getD 0) else prompt } ∧
            t.od.events.has .stageStarted = true ∧ t.mu = s.mu ∧ t.pu = s.pu ∧ t.config = s.config ∧ t.od.power = .active ∧
            t.sdu.account = s.sdu.account ∧ t.sdu.phase = .idle ∧ t.sdu.mark = .none) ∧
        (∀ limit code, s.re.running = none → x.program.head? = some (.prompt limit code) →
          ∃ t, exec (.recipeStart a [b]) s = .next t ∧ t.link.confirmation = some .accept ∧
            t.re.running = some i ∧ t.re.queued = none ∧ t.re.slot i = { x with state := .running } ∧
            t.re.slot i.other = s.re.slot i.other ∧ t.re.repeats = [] ∧ t.cr.owner = .recipe ∧ t.cr.request = none ∧
            t.lpd.loads.top.demand = 0 ∧ t.lpd.loads.bottom.demand = 0 ∧ t.lpd.loads.ring.demand = 0 ∧
            t.sgc.steamWanted = false ∧
            t.re.context = some { index := 0, stageClock := 0, atTempClock := 0, waiting := true, prompt := some code } ∧
            t.re.holds = { power := s.ssu.starved, water := false, probe := false, trip := false } ∧
            t.od.events.has .stageStarted = true ∧ t.od.events.has .prompt = true ∧ t.mu = s.mu ∧ t.pu = s.pu ∧
            t.config = s.config ∧ t.od.power = .active ∧ t.sdu.account = s.sdu.account) ∧
        (s.re.running = none → x.program.head? = some .finish →
          ∃ t, exec (.recipeStart a [b]) s = .next t ∧ t.link.confirmation = some .accept ∧ t.re = s.re ∧
            climateEnded s t ∧ t.od.events.has .recipeDone = true ∧
            t.od.events.has .stageStarted = s.od.events.has .stageStarted ∧ t.mu = s.mu ∧ t.pu = s.pu ∧
            t.config = s.config ∧ t.od.power = .active ∧ t.sdu.account = s.sdu.account)))

/-- `out` is the outcome of a command that ends the stage in progress, at context `c` of the slot `i`; `s` is the state with the command's own
answer or event in it. The next index is reached: a heating or PROMPT stage is entered with its clocks at 0, a heating stage with its climate
or, while CAVITY_OVERTEMP or SENSOR stands, held by TRIP without a mode; a REPEAT makes or counts down its entry and jumps, or falls through
and drops it; an END ends the program and the climate, and a slot that is queued runs on from its stage 0 (R112, R179, R180, R181, R182, R189,
R191). -/
def stageEnds (out : Host.Outcome State Fault Refusal) (i : SlotId) (c : StageContext) (s : State) : Prop :=
  let next : Nat := c.index + 1
  let prog : List Stage := (s.re.slot i).program
  let tripped : Prop := s.pu.trips.cavityOvertemp = true ∨ s.pu.trips.sensor = true
  let isEntered (st : Stage) : Bool := match st with
    | .heating _ _ _ _ | .prompt _ _ => true
    | .loop _ _ | .finish => false
  let unheated (t : State) : Prop :=
    t.cr.request = none ∧ t.lpd.loads.top.demand = 0 ∧ t.lpd.loads.bottom.demand = 0 ∧ t.lpd.loads.ring.demand = 0 ∧
      t.sgc.steamWanted = false
  let inStage (t : State) (m : Nat) (st : Stage) : Prop :=
    t.link.confirmation = s.link.confirmation ∧ t.od.events.has .stageStarted = true ∧ t.mu = s.mu ∧ t.pu = s.pu ∧
      t.ssu.claim = s.ssu.claim ∧ t.sdu.account = s.sdu.account ∧
      (∀ r cond limit prompt, st = .heating r cond limit prompt →
        t.cr.owner = .recipe ∧ t.re.context = some
            { index := m, stageClock := 0, atTempClock := 0, waiting := decide (cond = .confirm),
              prompt := if cond = .confirm then some (prompt.getD 0) else prompt } ∧
          (¬ tripped → t.cr.request = some r ∧
            (s.cr.request.map Request.mode = some r.mode →
              t.cr.temperature = s.cr.temperature ∧ t.cr.humidity = s.cr.humidity)) ∧
          (tripped → unheated t ∧ t.re.holds.trip = true)) ∧
      (∀ limit code, st = .prompt limit code →
        t.re.context = some
            { index := m, stageClock := 0, atTempClock := 0, waiting := true, prompt := some code } ∧
          t.od.events.has .prompt = true ∧
          t.re.holds = { power := t.ssu.starved, water := false, probe := false, trip := false })
  let entered (t : State) (m : Nat) (st : Stage) : Prop :=
    inStage t m st ∧ t.re.running = some i ∧ t.re.queued = s.re.queued ∧ t.re.slotA = s.re.slotA ∧
      t.re.slotB = s.re.slotB ∧
      (∀ limit code, st = .prompt limit code →
        t.od.events = s.od.events ||| Event.stageStarted.mask ||| Event.prompt.mask ∧
          t = { s with link := t.link, od := t.od, re := t.re })
  let othersKept (t : State) : Prop := ∀ j, j ≠ next → lookRepeat t.re.repeats j = lookRepeat s.re.repeats j
  let ended (t : State) : Prop :=
    t.link.confirmation = s.link.confirmation ∧ t.re.running = none ∧ t.re.queued = none ∧ t.re.context = none ∧
      t.re.repeats = [] ∧ t.re.holds = .empty ∧
      (∀ j, t.re.slot j = { s.re.slot j with
        state := if s.re.running = some j ∨ s.re.queued = some j then .ready else (s.re.slot j).state }) ∧
      t.cr.owner = .none ∧ (recipeOwnsClimate s → climateEnded s t) ∧ t.od.events.has .recipeDone = true ∧ t.mu = s.mu ∧
      t.pu = s.pu ∧ t.sdu.account = s.sdu.account
  let arrives (m : Nat) (counted : State → Prop) : Prop :=
    (∀ st, prog[m]? = some st → isEntered st = true → ∃ t, out = .next t ∧ entered t m st ∧ counted t) ∧
      (prog[m]? = some .finish → s.re.queued = none → ∃ t, out = .next t ∧ ended t) ∧
      (∀ j, prog[m]? = some .finish → s.re.queued = some j → j ≠ i →
        (∀ st, (s.re.slot j).program.head? = some st → isEntered st = true →
          ∃ t, out = .next t ∧ inStage t 0 st ∧ t.re.running = some j ∧ t.re.queued = none ∧
            t.re.slot i = { s.re.slot i with state := .ready } ∧
            t.re.slot j = { s.re.slot j with state := .running } ∧ t.re.repeats = [] ∧
            t.od.events.has .recipeDone = true ∧
            ((∃ limit code, st = .prompt limit code) → t.cr.owner = .recipe ∧ unheated t)) ∧
        ((s.re.slot j).program.head? = some .finish → ∃ t, out = .next t ∧ ended t))
  arrives next (fun t => t.re.repeats = s.re.repeats) ∧
    ∀ tgt n, prog[next]? = some (.loop tgt n) →
      (lookRepeat s.re.repeats next = none → 0 < n →
        arrives tgt (fun t => lookRepeat t.re.repeats next = some (n - 1) ∧ othersKept t)) ∧
      (∀ left, lookRepeat s.re.repeats next = some (left + 1) →
        arrives tgt (fun t => lookRepeat t.re.repeats next = some left ∧ othersKept t)) ∧
      (lookRepeat s.re.repeats next = some 0 ∨ (lookRepeat s.re.repeats next = none ∧ n = 0) →
        arrives (next + 1) (fun t => lookRepeat t.re.repeats next = none ∧ othersKept t))

/-- RECIPE_CONFIRM ends the stage it names while it waits, and RECIPE_SKIP the stage in progress it names; any other index or state, IDLE
among them, is refused STALE_PROMPT. A following stage is entered with its clocks at 0, a heating stage with its climate or, while
CAVITY_OVERTEMP or SENSOR stands, held by TRIP without a mode; a REPEAT makes or counts down its entry and jumps, or falls through and drops
it; an END ends the program and the climate, and a slot that is queued runs on from its stage 0 (R112, R179, R180, R181, R182, R185, R186,
R189, R191). That the climate's owner is RECIPE while a slot runs is an invariant, stated by CookingInvariantsKept. -/
def Obligations.ConfirmAndSkipEndStage : Prop :=
  ∀ (a : Addr) (k : Byte) (s : State), slotsAgree s → eventsServed s →
    (s.re.running = none →
      (admitted (.recipeConfirm a [k]) s →
        exec (.recipeConfirm a [k]) s = .next (answered (.refuse .stalePrompt) s)) ∧
      (admitted (.recipeSkip a [k]) s → exec (.recipeSkip a [k]) s = .next (answered (.refuse .stalePrompt) s))) ∧
    ∀ (i : SlotId) (c : StageContext), s.re.running = some i → s.re.context = some c →
      (admitted (.recipeConfirm a [k]) s →
        (recipeState s ≠ .waitPrompt ∨ k.toNat ≠ c.index →
          exec (.recipeConfirm a [k]) s = .next (answered (.refuse .stalePrompt) s)) ∧
        (recipeState s = .waitPrompt → k.toNat = c.index →
          stageEnds (exec (.recipeConfirm a [k]) s) i c (answered .accept s))) ∧
      (admitted (.recipeSkip a [k]) s →
        (k.toNat ≠ c.index → exec (.recipeSkip a [k]) s = .next (answered (.refuse .stalePrompt) s)) ∧
        (k.toNat = c.index → stageEnds (exec (.recipeSkip a [k]) s) i c (answered .accept s)))

/-- The stage tick: no clock moves in PAUSED_DOOR or HELD; in RUNNING the stage clock counts and the at-temperature clock counts in the
band; a TIME or TIME_AT_TEMP stage ends at the tick at which its clock equals its value and goes on until then, a CORE stage ends as its
probe reaches its value or, with CORE_TIMEOUT, at its limit, and a CONFIRM or PROMPT stage at its limit, if it carries one. A stage that
ends so is followed as after RECIPE_CONFIRM: by a stage that is entered, through a REPEAT, by the end of the program or by a chained start
(R112, R179, R180, R181, R182, R183, R184, R189, R191). That the climate's owner is RECIPE while a slot runs is an invariant, stated by
CookingInvariantsKept. -/
def Obligations.StageTickCountsAndJudges : Prop :=
  ∀ (i : SlotId) (c : StageContext) (st : Stage) (s : State), s.run = .running → eventsServed s →
    s.re.running = some i → s.re.context = some c → (s.re.slot i).program[c.index]? = some st →
    let clock : Nat := min (c.stageClock + 1) 65535
    let atTemp : Nat := min (c.atTempClock + 1) 65535
    let inBand (r : Request) : Prop :=
      ∃ v, s.mu.regulated = some v ∧ r.cavity - 50 ≤ v ∧ (r.mode = .steam ∨ v ≤ r.cavity + 50)
    let ran (c' : StageContext) : Prop := exec .stageTick s = .next { s with re.context := some c' }
    let ended (events : EventSet) : Prop := stageEnds (exec .stageTick s) i c { s with od.events := events }
    (recipeState s = .pausedDoor ∨ recipeState s = .held → exec .stageTick s = .next s) ∧
    (∀ r n limit p, recipeState s = .running → st = .heating r (.time n) limit p →
      (clock = n → ended s.od.events) ∧
      (clock ≠ n → inBand r → ran { c with stageClock := clock, atTempClock := atTemp }) ∧
      (clock ≠ n → ¬ inBand r → ran { c with stageClock := clock })) ∧
    (∀ r n limit p, recipeState s = .running → st = .heating r (.timeAtTemp n) limit p →
      (inBand r → atTemp = n → ended s.od.events) ∧ (¬ inBand r → c.atTempClock = n → ended s.od.events) ∧
      (inBand r → atTemp ≠ n → ran { c with stageClock := clock, atTempClock := atTemp }) ∧
      (¬ inBand r → c.atTempClock ≠ n → ran { c with stageClock := clock })) ∧
    (∀ r v limit p, recipeState s = .running → st = .heating r (.core v) limit p →
      let reached : Prop := ∃ x, s.mu.probe.value = .value x ∧ (v : Int) ≤ x
      (reached → ended s.od.events) ∧
      (¬ reached → limit = some clock → ended (s.od.events ||| Event.coreTimeout.mask)) ∧
      (¬ reached → limit ≠ some clock → inBand r → ran { c with stageClock := clock, atTempClock := atTemp }) ∧
      (¬ reached → limit ≠ some clock → ¬ inBand r → ran { c with stageClock := clock })) ∧
    (∀ r limit p code, recipeState s = .waitPrompt → st = .heating r .confirm limit p ∨ st = .prompt limit code →
      (limit = none → ran c) ∧
      (∀ n, limit = some n → s.re.holds ≠ .empty →
        (c.stageClock = n → ended s.od.events) ∧ (c.stageClock ≠ n → ran c)) ∧
      (∀ n, limit = some n → s.re.holds = .empty →
        (clock = n → ended s.od.events) ∧ (clock ≠ n → ran { c with stageClock := clock })))

/-! ### The descale -/

/-- DESCALE_START is refused as R145 orders; accepted, it takes the boiler, and drains it first unless it is OFF (R145, R146, R119,
R133). -/
def Obligations.DescaleStartTakesBoiler : Prop :=
  ∀ (a : Addr) (s : State), admitted (.descaleStart a []) s →
    let refused (r : Reason) : Prop := exec (.descaleStart a []) s = .next (answered (.refuse r) s)
    (s.od.power ≠ .active → refused .asleep) ∧
    (s.od.power = .active → recipeState s ≠ .idle → refused .recipeActive) ∧
    (s.od.power = .active → recipeState s = .idle → s.cr.owner ≠ .none → refused .notNow) ∧
    (s.od.power = .active → recipeState s = .idle → s.cr.owner = .none → s.pu.trips ≠ .empty → refused .tripped) ∧
    (s.od.power = .active → recipeState s = .idle → s.cr.owner = .none → s.pu.trips = .empty → s.sdu.phase ≠ .idle →
      refused .notNow) ∧
    (s.od.power = .active → recipeState s = .idle → s.cr.owner = .none → s.pu.trips = .empty → s.sdu.phase = .idle →
      ∃ t, exec (.descaleStart a []) s = .next t ∧ t.link.confirmation = some .accept ∧ t.sgc.user = .descale ∧
        t.lpd.loads.steamHeater.demand = 0 ∧ t.sdu.mark = s.sdu.mark ∧ t.sdu.account = s.sdu.account ∧
        (s.sgc.state = .off →
          t.sdu.phase = .awaitAgent ∧ t.sgc.state = .off ∧ t.od.events = s.od.events ||| Event.descaleWaitUser.mask) ∧
        (s.sgc.state = .cool → t.sdu.phase = .prepDrain ∧ t.sgc.state = .drain ∧ t.sgc.drainCount = 0) ∧
        (s.sgc.state = .drain → t.sdu.phase = .prepDrain ∧ t.sgc = { s.sgc with user := .descale }) ∧
        t.mu = s.mu ∧ t.pu = s.pu ∧ t.cr = s.cr ∧ t.re = s.re ∧ t.ssu = s.ssu ∧ t.config = s.config ∧ t.od.power = .active)

/-- DESCALE_CONFIRM is refused in any phase that does not wait for its step, while the descale is frozen, and, for AGENT, with the door
not closed; AGENT drives the lock in (a lock already LOCKED leads on to the agent's fill), and RINSE begins the first cycle: with its
fill, with TANK_EMPTY and the wait for water where the tank is not ready, or with its heating where the boiler is full; a boiler in
DRY_FAULT stays there (R127, R132, R139, R147, R148, R149, R151, R198). That the heating then begun is judged against 90.0 °C at
publications only is the model's choice (notes/assumptions/45). -/
def Obligations.DescaleConfirmMovesOn : Prop :=
  ∀ (a : Addr) (s : State),
    (admitted (.descaleConfirm a [1]) s →
      (s.sdu.phase ≠ .awaitAgent ∨ s.pu.trips.lock = true ∨ doorOpen s = true →
        exec (.descaleConfirm a [1]) s = .next (answered (.refuse .notNow) s)) ∧
      (s.sdu.phase = .awaitAgent → s.pu.trips.lock = false → doorOpen s = false → lockFaultTripped s → s.sgc.user = .descale →
        ∃ t, exec (.descaleConfirm a [1]) s = .next t ∧ t.link.confirmation = some .accept ∧ t.pu.command = .engage ∧
          t.pu.trips = s.pu.trips ∧ t.sdu.account = s.sdu.account ∧ t.mu = s.mu ∧ t.cr = s.cr ∧
          (s.pu.lock = .unlocked →
            t.pu.lock = .locking ∧ t.pu.travel = 0 ∧ t.sdu.phase = .locking ∧ t.sdu.mark = s.sdu.mark ∧
              t.sgc = s.sgc ∧ t.lpd.loads.steamHeater.demand = 0) ∧
          (s.pu.lock = .locked →
            t.pu.lock = .locked ∧ t.sdu.mark = .agentIn ∧
              (t.sdu.phase = .soakFill ∨ t.sdu.phase = .soakHeat))) ) ∧
    (admitted (.descaleConfirm a [2]) s →
      (s.sdu.phase ≠ .awaitRinse ∨ s.pu.trips.lock = true →
        exec (.descaleConfirm a [2]) s = .next (answered (.refuse .notNow) s)) ∧
      (s.sdu.phase = .awaitRinse → s.pu.trips.lock = false → s.sgc.state ∈ [.off, .cool, .drain, .dryFault] →
        s.sgc.user = .descale →
        ∃ t, exec (.descaleConfirm a [2]) s = .next t ∧ t.link.confirmation = some .accept ∧ t.sdu.phase = .rinse ∧
          t.sdu.rinseCycle = 1 ∧ t.sdu.meteringSum = s.sdu.meteringSum ∧ t.sdu.mark = s.sdu.mark ∧
          t.sdu.account = s.sdu.account ∧ t.pu = s.pu ∧ t.mu = s.mu ∧ t.cr = s.cr ∧
          (s.sgc.state = .dryFault →
            t.sdu.rinseStep = .fill ∧ t.sgc = s.sgc ∧ t.lpd.loads.steamHeater.demand = 0) ∧
          (s.sgc.state ≠ .dryFault → boilerFull s = false →
            t.sdu.rinseStep = .fill ∧ t.lpd.loads.steamHeater.demand = 0 ∧
              (s.mu.tank = .present → t.sgc.state = .fill ∧ t.sgc.pulses = 1) ∧
              (s.mu.tank ≠ .present →
                t.sgc.state = .waitWater ∧ t.sgc.wait = none ∧ t.od.events.has .tankEmpty = true)) ∧
          (s.sgc.state ≠ .dryFault → boilerFull s = true →
            t.sdu.rinseStep = .heat ∧ t.sdu.heatingTime = 0 ∧ t.sgc.state = .heat ∧
              t.lpd.loads.steamHeater.demand =
                (match s.mu.boiler.value with
                 | .value _ => if s.sgc.derate then 600 else 1000
                 | .invalid | .absent => 0))))

/-- DESCALE_ABORT by phase: refused in IDLE and, once agent may be in the boiler and from the rinse on, as RINSE_REQUIRED; before the agent it ends
the descale; with the agent it goes on to DRAIN_AGENT, with the mark and the account kept (R154). -/
def Obligations.DescaleAbortByPhase : Prop :=
  ∀ (a : Addr) (s : State), admitted (.descaleAbort a []) s →
    (s.sdu.phase = .idle → exec (.descaleAbort a []) s = .next (answered (.refuse .notNow) s)) ∧
    (s.sdu.phase ∈ [.drainAgent, .awaitRinse, .rinse, .unlocking, .recoverDrain, .recoverRinse] →
      exec (.descaleAbort a []) s = .next (answered (.refuse .rinseRequired) s)) ∧
    (s.sdu.phase ∈ [.prepDrain, .awaitAgent] →
      ∃ t, exec (.descaleAbort a []) s = .next t ∧ t.link.confirmation = some .accept ∧ t.sdu.phase = .idle ∧
        t.sgc.user = .climate ∧ t.sdu.mark = s.sdu.mark ∧ t.sdu.account = s.sdu.account ∧
        (s.sgc.state = .drain → t.sgc.state = .drain ∧ t.sgc.drainCount = s.sgc.drainCount) ∧
        t.mu = s.mu ∧ t.pu = s.pu ∧ t.cr = s.cr ∧ t.config = s.config) ∧
    (s.sdu.phase ∈ [.locking, .soakFill, .soakHeat, .soak] →
      ∃ t, exec (.descaleAbort a []) s = .next t ∧ t.link.confirmation = some .accept ∧ t.sdu.phase = .drainAgent ∧
        t.sdu.mark = s.sdu.mark ∧ t.sdu.account = s.sdu.account ∧ t.pu = s.pu ∧
        (s.pu.trips.lock = false → s.sgc.state ∈ [.off, .fill, .heat, .waitWater, .cool] →
          t.sgc.state = .drain ∧ t.sgc.drainCount = 0) ∧
        (s.sgc.user = .descale → t.lpd.loads.steamHeater.demand = 0) ∧ t.mu = s.mu ∧ t.cr = s.cr ∧ t.re = s.re)

/-! ### Trips -/

/-- CLEAR_TRIP is refused NOT_NOW with no trip, CONDITION_PRESENT where every member's cause stands, and otherwise removes exactly the members whose
cause has gone (R203); a lock released from its trip is taken from its feedback (R204); and a stage held by TRIP runs on, its climate written
again, once no trip that affects it is left (R189). -/
def Obligations.ClearTripRemovesEnded : Prop :=
  ∀ (a : Addr) (s : State), admitted (.clearTrip a []) s →
    let hot : Prop := ∀ v, s.mu.tripCavity = some v → 3000 < v
    let dry : Prop :=
      (∃ x, s.mu.boiler.value = .value x ∧ 1600 < x) ∨
        (s.sgc.state = .dryFault ∧ ∀ x, s.mu.boiler.value = .value x → 1000 ≤ x)
    let sensor : Prop :=
      s.mu.cavA.status = .short ∨ s.mu.cavA.status = .open ∨ s.mu.cavB.status = .short ∨ s.mu.cavB.status = .open ∨
        s.mu.disagreement = true
    let door : Prop := s.mu.door.published ≠ some false
    let p := s.pu.trips
    let clearable : Prop :=
      (p.cavityOvertemp = true ∧ ¬ hot) ∨ (p.boilerDry = true ∧ ¬ dry) ∨ (p.sensor = true ∧ ¬ sensor) ∨
        (p.lock = true ∧ ¬ door)
    (p = .empty → exec (.clearTrip a []) s = .next (answered (.refuse .notNow) s)) ∧
    (p ≠ .empty → ¬ clearable → exec (.clearTrip a []) s = .next (answered (.refuse .conditionPresent) s)) ∧
    (clearable →
      ∃ t, exec (.clearTrip a []) s = .next t ∧ t.link.confirmation = some .accept ∧
        (t.pu.trips.cavityOvertemp = true ↔ p.cavityOvertemp = true ∧ hot) ∧
        (t.pu.trips.boilerDry = true ↔ p.boilerDry = true ∧ dry) ∧
        (t.pu.trips.sensor = true ↔ p.sensor = true ∧ sensor) ∧
        (t.pu.trips.lock = true ↔ p.lock = true ∧ door) ∧
        (p.boilerDry = true → ¬ dry → s.sgc.state = .dryFault → s.sgc.user = .climate →
          s.sdu.phase = .idle → s.re.running = none → (∀ r, s.cr.request = some r → r.mode.steams = false) →
          s.sgc.steamWanted = false → t.sgc.state = .off) ∧
        (p.lock = true → ¬ door → s.pu.command = .none → s.sdu.phase = .idle →
          t.pu.lock = if s.mu.lockFb.published = some true then .unlocking else .unlocked) ∧
        (∀ i k r cond limit prompt, s.re.running = some i → s.re.context = some k →
          (s.re.slot i).program[k.index]? = some (.heating r cond limit prompt) → s.re.holds.trip = true →
          let q := t.pu.trips
          let left : Prop :=
            q.cavityOvertemp = true ∨ q.sensor = true ∨ q.lock = true ∨ (q.boilerDry = true ∧ r.mode.steams = true)
          t.re.running = some i ∧ t.re.context = some k ∧
            (¬ left → t.re.holds.trip = false ∧ t.cr.owner = .recipe ∧ t.cr.request = some r) ∧
            (left → t.re.holds.trip = true ∧ t.cr.owner = s.cr.owner ∧ t.cr.request = s.cr.request)) ∧
        (s.sdu.phase = .idle → s.re.running = none → slotsAgree s →
          t = { s with
            link := t.link, od := t.od, ssu := t.ssu, lpd.loads := t.lpd.loads, cr.fanCycle := t.cr.fanCycle, sgc := t.sgc,
            sdu := t.sdu, pu := t.pu } ∧
          t.sdu.account = s.sdu.account ∧ t.sdu.mark = s.sdu.mark ∧ t.sdu.phase = .idle ∧
          (p.lock = false → t.pu = { s.pu with trips := t.pu.trips })))

/-! ### Sharing the supply -/

/-- A notice replaces the entry of its sender; an entry whose age has reached 3500 ms becomes STALE with its values; an allowance
computation follows each, and may start a raise: it changes neither the claim in force nor the announced claim of a raise in progress
(R42, R43, R44, R46, R48, R53). An entry of any other age, as after a notice that was taken first, stays (R43); that the command then
does nothing at all, and that it does nothing to an EMPTY or STALE entry, is the model's choice (notes/assumptions/8). -/
def Obligations.NoticeReplacesEntry : Prop :=
  ∀ (a : Addr) (i : Fin 15) (n : Notice) (s : State), s.run = .running → a.toNat = i.val + 1 →
    let e : PeerEntry :=
      if n.leave then .empty
      else if n.asleep then .fresh { cls := n.cls, claim := 0, wanted := 0, floor := 0 } 0
      else .fresh { cls := n.cls, claim := n.claim, wanted := n.wanted, floor := n.floor } 0
    let computed (s1 t : State) : Prop :=
      t.ssu.lastA = allowance s1 ∧ t.ssu.lastW = ownWanted s1 ∧ t.ssu.lastFo = floorInEffect s1 ∧
        t.ssu.claim = s.ssu.claim ∧ (s.ssu.raise ≠ .none → t.ssu.raise = s.ssu.raise ∧ t.ssu.announced = s.ssu.announced) ∧
        (s.ssu.raise = .none → s.ssu.claim + 5 ≤ allowance s1 → s.od.power ≠ .standby → s.od.restartPending = false →
          s.link.queue.length < 4 →
          t.ssu.raise = .queued s.ssu.announced ∧ t.ssu.announced = allowance s1 ∧
            ∃ f ∈ t.link.queue, f.body =
              .notice
                { cls := s.config.cls, raise := true, leave := false, asleep := false, claim := allowance s1,
                  wanted := ownWanted s1, floor := floorInEffect s1 }) ∧
        (allowance s1 < s.ssu.claim + 5 → t.ssu.raise = s.ssu.raise ∧ t.ssu.announced = s.ssu.announced)
    (∃ t, exec (.noticeReceived a n) s = .next t ∧ t.ssu.peers = s.ssu.peers.set i e ∧
      computed { s with ssu.peers := s.ssu.peers.set i e } t ∧
      t.od.events = (if a = s.config.own then s.od.events ||| Event.dupAddress.mask else s.od.events) ∧
      t = { s with link := t.link, od := t.od, ssu := t.ssu, re.holds.power := t.re.holds.power }) ∧
    (∀ v, s.ssu.peers[i] = .fresh v 3500 →
      ∃ t, exec (.peerEntryStale a) s = .next t ∧ t.ssu.peers = s.ssu.peers.set i (.stale v) ∧
        computed { s with ssu.peers := s.ssu.peers.set i (.stale v) } t ∧
        t = { s with link := t.link, ssu := t.ssu, re.holds.power := t.re.holds.power }) ∧
    ((∀ v, s.ssu.peers[i] ≠ .fresh v 3500) → exec (.peerEntryStale a) s = .next s)

/-- The weight of a class (R47). -/
def weightOf : Nat → Nat
  | 0 => 8
  | 1 => 4
  | 2 => 2
  | 3 => 1
  | _ => 0

/-- The allowance, from the table, the budget and the demands: a STALE entry counts at the worse of its claim and wanted; with the wanted
values within the budget the oven may take what it wants, in contention its floor and a share by class weight, or a scaled floor; never
more than the headroom, but never less than the aux draw, and 0 in STANDBY (R43, R46, R47, R48). -/
def Obligations.AllowanceSharesBudget : Prop :=
  ∀ s : State,
    let claimOf (e : PeerEntry) : Nat := match e with
      | .empty => 0
      | .fresh v _ => v.claim
      | .stale v => max v.claim v.wanted
    let wantedOf (e : PeerEntry) : Nat := match e with
      | .empty => 0
      | .fresh v _ => v.wanted
      | .stale v => max v.claim v.wanted
    let floorOf (e : PeerEntry) : Nat := match e with
      | .empty => 0
      | .fresh v _ => min v.floor v.wanted
      | .stale v => min v.floor v.wanted
    let clsOf (e : PeerEntry) : Nat := match e with
      | .empty => 4
      | .fresh v _ => v.cls
      | .stale v => v.cls
    let sum (f : PeerEntry → Nat) : Nat := (s.ssu.peers.toList.map f).sum
    let part (i : LoadId) : Nat := ((s.lpd.loads.get i).demand * rating s.config i + 999) / 1000
    let B := s.config.budget
    let aux := s.config.aux
    let W := if s.od.power = .standby then 0 else aux + part .steamHeater + part .top + part .bottom + part .ring
    let Fo :=
      if s.od.power = .active ∧ (s.cr.owner ≠ .none ∨ s.sdu.phase ≠ .idle) then min s.config.floor W else 0
    let H := B - sum claimOf
    let D := sum wantedOf + W
    let Fs := sum floorOf + Fo
    let own := weightOf s.config.cls
    let ws := sum (fun e => if floorOf e < wantedOf e then weightOf (clsOf e) else 0) + if Fo < W then own else 0
    ownWanted s = W ∧ floorInEffect s = Fo ∧ headroom s = H ∧
      (s.od.power = .standby → allowance s = 0) ∧
      (s.od.power ≠ .standby →
        (D ≤ B → allowance s = max (min W H) aux) ∧
        (B < D → B ≤ Fs → allowance s = max (min (Fo * B / Fs) H) aux) ∧
        (B < D → Fs < B → Fo < W → allowance s = max (min (min W (Fo + (B - Fs) * own / ws)) H) aux) ∧
        (B < D → Fs < B → W ≤ Fo → allowance s = max (min (min W Fo) H) aux))

/-- The raise hold's end leaves the lesser of the announced claim and the allowance waiting; listen-in ends in an ASLEEP notice, where the
queue takes it, and the notice period; the starved condition's entry timer makes the oven starved and holds a running recipe, and its exit
timer ends both (R54, R55, R59, R60, R187). That RAISE_HOLD_END and LISTEN_IN_END act at any count of their timers, which the clock ends
at 250 and 3500 ms, that the starved timers' commands act at 5000 ms only, and that each does nothing elsewhere, is the model's choice
(notes/assumptions/8). So is that the starved timers' ends do not evaluate the starved condition anew (notes/assumptions/44). -/
def Obligations.SupplyTimersEnd : Prop :=
  ∀ s : State, s.run = .running →
    (∀ pre held, s.ssu.raise = .holding pre held →
      ∃ t, exec .raiseHoldEnd s = .next t ∧ t.ssu.raise = .waiting pre (min s.ssu.announced (allowance s)) ∧
        t.ssu.lastA = allowance s ∧ t.ssu.claim = s.ssu.claim ∧ t.ssu.announced = s.ssu.announced ∧
        t.ssu.peers = s.ssu.peers ∧ t = { s with ssu := t.ssu, re.holds.power := t.re.holds.power }) ∧
    ((∀ pre held, s.ssu.raise ≠ .holding pre held) → exec .raiseHoldEnd s = .next s) ∧
    (∀ n, s.ssu.listenIn = some n → claimsOrdered s → s.od.restartPending = false → s.link.queue.length < 4 →
      ∃ t, exec .listenInEnd s = .next t ∧ t.link.queue.length = s.link.queue.length + 1 ∧
        (∃ f ∈ t.link.queue, f.body =
          .notice
            { cls := s.config.cls, raise := false, leave := false, asleep := true, claim := 0, wanted := 0, floor := 0 }) ∧
        t = { s with
          link.queue := t.link.queue,
          ssu := { s.ssu with listenIn := none, period := some 0, announced := 0 } }) ∧
    (∀ n, s.ssu.listenIn = some n → s.od.restartPending = false → queueTakes s.link = false →
      exec .listenInEnd s =
        .next { s with
          link.counters.dropped := min (s.link.counters.dropped + 1) 65535,
          ssu := { s.ssu with
            listenIn := none, period := some 0, announced := 0 } }) ∧
    (s.ssu.listenIn = none → exec .listenInEnd s = .next s) ∧
    (s.ssu.entryTimer = some 5000 → s.ssu.starved = false →
      ∃ t, exec .starveEntryExpired s = .next t ∧ t.ssu = { s.ssu with starved := true, entryTimer := none } ∧
        t.od.events = s.od.events ||| Event.starved.mask ∧
        t.re.holds.power = (s.re.running.isSome || s.re.holds.power) ∧
        t = { s with link := t.link, od := t.od, ssu := t.ssu, re.holds.power := t.re.holds.power }) ∧
    (s.ssu.entryTimer ≠ some 5000 ∨ s.ssu.starved = true → exec .starveEntryExpired s = .next s) ∧
    (s.ssu.exitTimer = some 5000 → s.ssu.starved = true →
      exec .starveExitExpired s =
        .next { s with
          ssu := { s.ssu with starved := false, entryTimer := none, exitTimer := none },
          re.holds.power := if s.re.running = none then s.re.holds.power else false }) ∧
    (s.ssu.exitTimer ≠ some 5000 ∨ s.ssu.starved = false → exec .starveExitExpired s = .next s)

/-- At a notice period the allowance is computed and a periodic notice offered; while the drive is inactive a claim point comes first, at which a
raised value that waits takes force, the claim falls to the allowance, and a notice of its own is offered where a raise ended below the
announced claim or the claim fell by 20 u or more; without a raise in progress the announced claim becomes the claim; in listen-in and with
a restart pending no notice is offered and the period runs on (R50, R51, R52). That NOTICE_PERIOD_EXPIRED acts at any count of the period
is the model's choice (notes/assumptions/8). -/
def Obligations.NoticePeriodTakesClaim : Prop :=
  ∀ (s : State) (n : Nat), s.run = .running → claimsOrdered s → s.ssu.period = some n →
    ∃ t, exec .noticePeriodExpired s = .next t ∧ t.ssu.period = some 0 ∧ t.ssu.lastA = allowance s ∧
      t.ssu.lastW = ownWanted s ∧ t.ssu.lastFo = floorInEffect s ∧ t.ssu.peers = s.ssu.peers ∧
      (s.lpd.drive = .running → t.ssu.claim = s.ssu.claim) ∧
      (s.lpd.drive ≠ .running →
        t.ssu.claim =
          min (match s.ssu.raise with
               | .waiting _ r => r
               | _ => s.ssu.claim) (allowance s)) ∧
      (s.od.restartPending = false → s.ssu.listenIn = none → t.ssu.raise = .none → t.ssu.announced = t.ssu.claim) ∧
      (s.ssu.raise ≠ .none → s.lpd.drive = .running → t.ssu.raise = s.ssu.raise ∧ t.ssu.announced = s.ssu.announced) ∧
      (s.od.restartPending = false → s.ssu.listenIn = none → s.link.queue = [] →
        ∃ f ∈ t.link.queue, f.body =
          .notice
            { cls := s.config.cls, raise := false, leave := false, asleep := decide (s.od.power = .standby),
              claim := t.ssu.announced, wanted := ownWanted s, floor := floorInEffect s }) ∧
      (s.od.restartPending = false → s.ssu.listenIn = none → s.link.queue = [] → s.lpd.drive ≠ .running →
        ((∃ pre r, s.ssu.raise = .waiting pre r ∧ t.ssu.claim < s.ssu.announced) ∨
          (s.ssu.raise = .none ∧ t.ssu.claim + 20 ≤ s.ssu.claim)) →
        (∃ f, t.link.queue.head? = some f ∧ f.body =
          .notice
            { cls := s.config.cls, raise := false, leave := false, asleep := decide (s.od.power = .standby),
              claim := t.ssu.claim, wanted := ownWanted s, floor := floorInEffect s }) ∧ 2 ≤ t.link.queue.length) ∧
      (s.od.restartPending = true ∨ s.ssu.listenIn ≠ none → t.link = s.link ∧ t.ssu.announced = s.ssu.announced) ∧
      t = { s with link := t.link, ssu := t.ssu, re.holds.power := t.re.holds.power }

/-- The claim in force, whenever it takes a new value, does not exceed the headroom the others' claims leave, or the aux draw where that is more
(R49). -/
def Obligations.NewClaimWithinHeadroom : Prop :=
  ∀ (c : Instr) (s t : State), exec c s = .next t → t.ssu.claim ≠ s.ssu.claim →
    t.ssu.claim ≤ max (headroom t) t.config.aux

/-! ### Load planning and burst firing -/

/-- The regular band of a mains frequency in µs (R66). -/
def bandLimits : Mains → Nat × Nat
  | .hz50 => (8500, 11500)
  | .hz60 => (7100, 9600)

/-- Zero crossings and their absence: 20 regular intervals measure the mains or bring them back; in RUNNING an early crossing is noise, and
any other begins the next half-cycle, in which a load fires as its run of half-cycles says and no interlock forbids; 100 ms without a
crossing abandon the measurement or the count, and in RUNNING the window with every gate off (R65, R66, R67, R68, R69, R77, R78). That
the command of a limit acts at any count, and does nothing in a drive state that has no such limit, is the model's choice
(notes/assumptions/8), and so is the rounding of the mean interval (notes/assumptions/11). -/
def Obligations.CrossingsCountHalfCycles : Prop :=
  ∀ (iv : Nat) (s : State), s.run = .running →
    let drive (d : Drive) : State := { s with lpd.drive := d, lpd.sinceCrossing := 0 }
    let gate (i : LoadId) : Bool :=
      let l := s.lpd.loads.get i
      decide (((s.lpd.half : Int) + 1 - 25 * l.position) % 100 < l.count) && !interlocked s i
    (∀ m, s.lpd.drive = .running → s.mu.mains = some m →
      (iv < (bandLimits m).1 → exec (.zeroCrossing iv) s = .next s) ∧
      ((bandLimits m).1 ≤ iv → s.lpd.half < 99 →
        exec (.zeroCrossing iv) s =
          .next { s with
            lpd.sinceCrossing := 0, lpd.half := s.lpd.half + 1,
            lpd.gates := ⟨gate .steamHeater, gate .top, gate .bottom, gate .ring⟩ })) ∧
    (∀ ref count sum, s.lpd.drive = .measuring ref count sum →
      let counted : Prop := ref = true ∧ 7000 ≤ iv ∧ iv ≤ 12000
      (¬ counted → exec (.zeroCrossing iv) s = .next (drive (.measuring true 0 0))) ∧
      (counted → count < 19 → exec (.zeroCrossing iv) s = .next (drive (.measuring true (count + 1) (sum + iv)))) ∧
      (counted → count = 19 →
        ∃ t, exec (.zeroCrossing iv) s = .next t ∧ t.lpd.drive = .running ∧ t.lpd.half = 0 ∧
          t.mu = { s.mu with mains := some (if 183400 ≤ sum + iv then .hz50 else .hz60) }) ∧
      exec .measureTimeout s = .next (drive (.measuring false 0 0)) ∧
      exec .mainsTimeout s = .next s ∧ exec .recoveryTimeout s = .next s) ∧
    (∀ ref count m, s.lpd.drive = .mainsAbsent ref count → s.mu.mains = some m →
      (ref = true → iv < (bandLimits m).1 → exec (.zeroCrossing iv) s = .next s) ∧
      (ref = false ∨ (bandLimits m).2 < iv → exec (.zeroCrossing iv) s = .next (drive (.mainsAbsent true 0))) ∧
      (ref = true → (bandLimits m).1 ≤ iv → iv ≤ (bandLimits m).2 → count < 19 →
        exec (.zeroCrossing iv) s = .next (drive (.mainsAbsent true (count + 1)))) ∧
      (ref = true → (bandLimits m).1 ≤ iv → iv ≤ (bandLimits m).2 → count = 19 →
        ∃ t, exec (.zeroCrossing iv) s = .next t ∧ t.lpd.drive = .running ∧ t.lpd.half = 0 ∧ t.mu = s.mu) ∧
      exec .recoveryTimeout s = .next (drive (.mainsAbsent false 0)) ∧
      exec .mainsTimeout s = .next s ∧ exec .measureTimeout s = .next s) ∧
    (s.lpd.drive = .running →
      exec .mainsTimeout s =
        .next { s with
          lpd.drive := .mainsAbsent false 0, lpd.half := 99, lpd.gates := ⟨false, false, false, false⟩, lpd.pool := 0,
          lpd.sinceCrossing := 0,
          lpd.loads := s.lpd.loads.map fun l =>
            { l with grant := 0, count := 0, carry := 0, limited := decide (0 < l.demand) } } ∧
      exec .measureTimeout s = .next s ∧ exec .recoveryTimeout s = .next s)

/-- The loads in plan order, for each mode of the climate request and for none (R72). -/
def inOrder : Option Mode → List LoadId
  | some .convection => [.ring, .steamHeater, .top, .bottom]
  | some .topBottom => [.top, .bottom, .steamHeater, .ring]
  | some .grill => [.top, .steamHeater, .ring, .bottom]
  | some .steam => [.steamHeater, .ring, .top, .bottom]
  | some .combi => [.ring, .steamHeater, .top, .bottom]
  | some .keepWarm => [.bottom, .steamHeater, .ring, .top]
  | none => [.steamHeater, .ring, .top, .bottom]

/-- A window start: the claim point, at which a raised value takes force, the claim falls to the allowance and a notice announces it where
a raise ended below the announced claim or the claim fell by 20 u or more; the pool, which is zero in STANDBY and with the door open;
the grants, each the lesser of the power wanted and what the loads before it in plan order have left; the counts, capped at the pool;
the carries, and what the cap gives up in the shed counter; so that the heater power planned does not exceed the pool (R50, R51, R70,
R71, R72, R73, R74, R75, R76, R77, R79). The premise that the shed counter is at most 65,535 (R76) is an invariant, stated by RangesKept. -/
def Obligations.WindowWithinPool : Prop :=
  ∀ (iv : Nat) (m : Mains) (s : State), s.run = .running → s.lpd.drive = .running → s.mu.mains = some m →
    (bandLimits m).1 ≤ iv → s.lpd.half = 99 → s.lpd.shed ≤ 65535 →
    let R := ratingW s.config
    let waits : Prop := ∃ pre r, s.ssu.raise = .waiting pre r
    let raised : Nat := match s.ssu.raise with
      | .waiting _ r => r
      | _ => s.ssu.claim
    ∃ t, exec (.zeroCrossing iv) s = .next t ∧ t.lpd.half = 0 ∧ t.ssu.claim = min raised (allowance s) ∧
      (s.od.restartPending = false → s.ssu.listenIn = none →
        let offered : Prop :=
          (waits ∧ t.ssu.claim < s.ssu.announced) ∨ ((waits ∨ s.ssu.raise = .none) ∧ t.ssu.claim + 20 ≤ raised)
        (offered → t.ssu.raise = .none → t.ssu.announced = if s.od.power = .standby then 0 else t.ssu.claim) ∧
        (offered → s.link.queue = [] →
          ∃ f ∈ t.link.queue, f.body =
            .notice
              { cls := s.config.cls, raise := false, leave := false, asleep := decide (s.od.power = .standby),
                claim := if s.od.power = .standby then 0 else t.ssu.claim,
                wanted := if s.od.power = .standby then 0 else ownWanted s,
                floor := if s.od.power = .standby then 0 else floorInEffect s }) ∧
        (¬ offered → t.ssu.raise = .none → t.ssu.announced = s.ssu.announced)) ∧
      (s.ssu.raise ≠ .none → ¬ waits → t.ssu.raise = s.ssu.raise ∧ t.ssu.announced = s.ssu.announced) ∧
      (s.od.restartPending = true → t.link = s.link ∧ t.ssu.announced = s.ssu.announced) ∧
      t.lpd.pool = (if s.od.power = .standby ∨ doorOpen s = true then 0 else (t.ssu.claim - s.config.aux) * 10) ∧
      (let l (i : LoadId) : Load := t.lpd.loads.get i
       let before (i : LoadId) : List LoadId :=
         (inOrder (s.cr.request.map Request.mode)).take (l i).position
       let x (i : LoadId) : Nat := (l i).grant * 100 + (s.lpd.loads.get i).carry
       let givenUp (i : LoadId) : Nat := if interlocked s i then 0 else (x i - (l i).count * R i) - (R i - 1)
       let shed : Nat :=
         (givenUp .steamHeater + 99) / 100 + (givenUp .top + 99) / 100 + (givenUp .bottom + 99) / 100 +
           (givenUp .ring + 99) / 100
       (l .steamHeater).count * R .steamHeater + (l .top).count * R .top + (l .bottom).count * R .bottom +
           (l .ring).count * R .ring ≤ t.lpd.pool * 100 ∧
       (∀ i,
         (inOrder (s.cr.request.map Request.mode))[(l i).position]? = some i ∧
         (l i).demand = (s.lpd.loads.get i).demand ∧
         (l i).grant =
           min ((l i).demand * R i / 1000) (t.lpd.pool - ((before i).map fun j => (l j).grant).sum) ∧
         ((l i).limited = true ↔ (l i).grant < (l i).demand * R i / 1000) ∧
         (interlocked s i = true → (l i).count = 0 ∧ (l i).carry = (s.lpd.loads.get i).carry ∧ t.lpd.gates.get i = false) ∧
         (interlocked s i = false →
           (l i).count =
             min (x i / R i) ((t.lpd.pool * 100 - ((before i).map fun j => (l j).count * R j).sum) / R i) ∧
           (l i).carry = min (x i - (l i).count * R i) (R i - 1) ∧
           t.lpd.gates.get i = decide ((-25 * ((l i).position : Int)) % 100 < (l i).count))) ∧
       t.lpd.shed = if shed = 0 then s.lpd.shed else min (s.lpd.shed + shed) 65535) ∧
      t = { s with link := t.link, ssu := t.ssu, lpd := t.lpd, re.holds.power := t.re.holds.power }

/-- A gate comes on at a zero crossing only, and only for a load that no interlock holds off (R78, R79). -/
def Obligations.OnlyCrossingsDriveGates : Prop :=
  ∀ (c : Instr) (s t : State) (i : LoadId), exec c s = .next t → t.lpd.gates.get i = true →
    t.lpd.gates.get i = s.lpd.gates.get i ∨
      ((∃ iv, c = .zeroCrossing iv) ∧ t.lpd.drive = .running ∧ t.od.power ≠ .standby ∧
        t.mu.door.published = some false ∧ t.pu.trips.lock = false ∧
        (i = .steamHeater →
          t.mu.levelLow.published = some true ∧ t.sgc.state ∈ [.fill, .heat, .steam, .refill] ∧
            t.pu.trips.boilerDry = false) ∧
        (i ≠ .steamHeater → t.pu.trips.cavityOvertemp = false ∧ t.pu.trips.sensor = false))

/-! ### Measurement -/

/-- The values at the codes 0, 64, … 1024 of the cavity channels' platinum sensors, in 0.1 °C (R87). -/
def cavityValues : List Int :=
  [-400, -190, 20, 232, 445, 660, 876, 1093, 1312, 1532, 1754, 1977, 2202, 2428, 2656, 2885, 3115]

/-- Those of the PROBE (R87). -/
def probeValues : List Int := [0, 0, 50, 140, 225, 305, 380, 450, 520, 590, 660, 735, 815, 905, 1010, 1140, 1200]

/-- Those of the BOILER (R87). -/
def boilerValues : List Int :=
  [-400, -50, 150, 290, 400, 495, 580, 660, 740, 820, 905, 995, 1095, 1215, 1375, 1625, 2100]

/-- Those of HUM, in 0.1 % (R87). -/
def humidityValues : List Int := [0, 0, 40, 108, 176, 244, 312, 380, 448, 516, 584, 652, 720, 788, 856, 924, 992]

/-- An analog channel at a round (R84, R85, R86, R87, R88). -/
def channelMoves (table : List Int) (isProbe : Bool) (before after : Channel) (code : Nat) : Prop :=
  (code ≤ 7 → after.status = .short ∧ after.ring = []) ∧
    (1016 ≤ code → after.status = .open ∧ after.ring = []) ∧
    (8 ≤ code → code ≤ 1015 →
      after.ring = (if before.ring.length < 8 then before.ring else before.ring.drop 1) ++ [code] ∧
        after.status = if after.ring.length < 8 then before.status else .valid) ∧
    (after.status = .valid →
      let c := after.ring.sum / 8
      let v0 := table.getD (c / 64) 0
      let v1 := table.getD (c / 64 + 1) 0
      after.value = .value (v0 + ((v1 - v0) * ((c % 64 : Nat) : Int)).tdiv 64)) ∧
    (after.status ≠ .valid → after.value = if isProbe ∧ after.status ≠ .short then .absent else .invalid)

/-- A switch at a round (R92). -/
def switchMoves (before after : Switch) (level : Bool) : Prop :=
  let n := if before.runLevel = level ∧ 0 < before.runLength then min (before.runLength + 1) 3 else 1
  after = { published := if n = 3 then some level else before.published, runLevel := level, runLength := n }

/-- A sampling round classifies, averages and linearises each analog channel, debounces each switch, and forms the two cavity values, the
disagreement count and the tank state from them (R83, R84, R85, R86, R87, R88, R89, R90, R91, R92, R93). -/
def Obligations.SamplingRoundPublishes : Prop :=
  ∀ (x : Samples) (s : State), s.run = .running →
    ∃ t, exec (.samplingRound x) s = .next t ∧
      channelMoves cavityValues false s.mu.cavA t.mu.cavA x.cavA.toNat ∧
      channelMoves cavityValues false s.mu.cavB t.mu.cavB x.cavB.toNat ∧
      channelMoves probeValues true s.mu.probe t.mu.probe x.probe.toNat ∧
      channelMoves boilerValues false s.mu.boiler t.mu.boiler x.boiler.toNat ∧
      channelMoves humidityValues false s.mu.hum t.mu.hum x.hum.toNat ∧
      switchMoves s.mu.levelLow t.mu.levelLow x.levelLow ∧ switchMoves s.mu.levelHigh t.mu.levelHigh x.levelHigh ∧
      switchMoves s.mu.tankPresent t.mu.tankPresent x.tankPresent ∧ switchMoves s.mu.tankLow t.mu.tankLow x.tankLow ∧
      switchMoves s.mu.door t.mu.door x.door ∧ switchMoves s.mu.lockFb t.mu.lockFb x.lockFb ∧
      (∀ a b, t.mu.cavA.value = .value a → t.mu.cavB.value = .value b →
        t.mu.regulated = some ((a + b).tdiv 2) ∧ t.mu.tripCavity = some (max a b) ∧
          t.mu.disagreeCount = if a + 250 < b ∨ b + 250 < a then min (s.mu.disagreeCount + 1) 300 else 0) ∧
      (∀ a, t.mu.cavA.value = .value a → t.mu.cavB.value = .invalid →
        t.mu.regulated = some a ∧ t.mu.tripCavity = some a ∧ t.mu.disagreeCount = 0) ∧
      (∀ b, t.mu.cavA.value = .invalid → t.mu.cavB.value = .value b →
        t.mu.regulated = some b ∧ t.mu.tripCavity = some b ∧ t.mu.disagreeCount = 0) ∧
      (t.mu.cavA.value = .invalid → t.mu.cavB.value = .invalid →
        t.mu.regulated = none ∧ t.mu.tripCavity = none ∧ t.mu.disagreeCount = 0) ∧
      (t.mu.disagreement = true ↔ t.mu.disagreeCount = 300) ∧
      (t.mu.tank = .present ↔ t.mu.tankPresent.published = some true ∧ t.mu.tankLow.published = some false) ∧
      (t.mu.tank = .absent ↔ t.mu.tankPresent.published ≠ some true) ∧
      t.mu.mains = s.mu.mains ∧ t.config = s.config ∧ t.store = s.store ∧ t.ssu.peers = s.ssu.peers ∧
      t.lpd.gates = s.lpd.gates ∧ t.lpd.drive = s.lpd.drive ∧ t.re.slotA = s.re.slotA ∧ t.re.slotB = s.re.slotB

/-- A publication adds the trips whose causes it shows, each with TRIP raised: a hot cavity, a hot boiler (which goes to DRY_FAULT), a
faulty or disagreeing cavity sensor, and a lock or door that contradicts the lock state; a cavity trip ends a MANUAL climate and takes the
mode of a recipe's (R113, R131, R198, R199, R200, R201, R207). That DISAGREEMENT_CONDITION sets the count to 300 whatever it was where the
channels differ, and does nothing elsewhere, is the model's choice (notes/assumptions/23), and so is the order in which the causes are
judged (notes/assumptions/22) and that a travel in progress ends at LOCK_FB's first publication after a reset (notes/assumptions/48). -/
def Obligations.PublicationAddsTrips : Prop :=
  ∀ (s t : State), s.run = .running →
    (∀ x, exec (.samplingRound x) s = .next t →
      let p := s.pu.trips
      let q := t.pu.trips
      let doorIsOpen : Prop := t.mu.door.published ≠ some false
      let fb := t.mu.lockFb.published
      let l : LockState :=
        if s.mu.lockFb.published = none ∧ fb ≠ none ∧ p.lock = false then if fb = some true then .locked else .unlocked
        else if s.pu.lock = .locking ∧ fb = some true then .locked
        else if s.pu.lock = .unlocking ∧ fb = some false then .unlocked
        else s.pu.lock
      (q.cavityOvertemp = true ↔ p.cavityOvertemp = true ∨ ∃ v, t.mu.tripCavity = some v ∧ 3000 < v) ∧
      (q.boilerDry = true ↔ p.boilerDry = true ∨ ∃ v, t.mu.boiler.value = .value v ∧ 1600 < v) ∧
      (q.sensor = true ↔
        p.sensor = true ∨ t.mu.cavA.status = .short ∨ t.mu.cavA.status = .open ∨ t.mu.cavB.status = .short ∨
          t.mu.cavB.status = .open ∨ t.mu.disagreement = true) ∧
      (q.lock = true ↔
        p.lock = true ∨ (l = .locked ∧ (doorIsOpen ∨ fb = some false)) ∨ (l = .locking ∧ doorIsOpen) ∨
          (l = .unlocked ∧ fb = some true)) ∧
      (q ≠ p → t.od.events.has .trip = true) ∧
      (∀ v, t.mu.boiler.value = .value v → 1600 < v → t.sgc.state = .dryFault) ∧
      ((p.cavityOvertemp = false ∧ q.cavityOvertemp = true ∨ p.sensor = false ∧ q.sensor = true) →
        (s.cr.owner = .manual → t.cr.owner = .none ∧ t.cr.request = none) ∧
          (s.cr.owner = .recipe → t.cr.owner = .recipe ∧ t.cr.request = none))) ∧
    (∀ a b, s.mu.cavA.value = .value a → s.mu.cavB.value = .value b → (a + 250 < b ∨ b + 250 < a) →
      ∃ u, exec .disagreementCondition s = .next u ∧
        u.mu = { s.mu with disagreeCount := 300, disagreement := true } ∧
        u.pu = { s.pu with trips.sensor := true } ∧ (s.pu.trips.sensor = false → u.od.events.has .trip = true) ∧
        (s.pu.trips.sensor = false → s.cr.owner = .manual → u.cr.owner = .none ∧ u.cr.request = none) ∧
        u.config = s.config ∧ u.ssu.peers = s.ssu.peers ∧ u.lpd.gates = s.lpd.gates ∧ u.sdu.account = s.sdu.account) ∧
    ((∀ a b, s.mu.cavA.value = .value a → s.mu.cavB.value = .value b → a ≤ b + 250 ∧ b ≤ a + 250) →
      exec .disagreementCondition s = .next s)

/-- A trip in force is latched: only CLEAR_TRIP, arriving alone or in its frame, and the supply's going and coming take one out of the set; and
each kind added raises TRIP (R200, R203, R207). -/
def Obligations.TripsAreLatched : Prop :=
  ∀ (c : Instr) (s t : State) (k : Trip), exec c s = .next t →
    (s.pu.trips.has k = true → t.pu.trips.has k = true ∨ (∃ a p, c = .clearTrip a p) ∨
      (∃ chars data, c = .frameReceived chars ∧ (receive chars = .complete (.clean data) ∨
          ∃ y, receive chars = .complete (.corrected data y)) ∧ (takenOf data).kind = 2 ∧
        ∃ p, (takenOf data).payload = 19 :: p) ∨
      (∃ f r, c = .powerOn f r) ∨ ∃ m, c = .powerFailure m) ∧
    (s.pu.trips.has k = false → t.pu.trips.has k = true → t.od.events.has .trip = true)

/-! ### Cavity climate -/

/-- Temperature Kp and Ki of a mode, in 1/256 (R98). -/
def gains : Mode → Int × Int
  | .convection => (1280, 16)
  | .topBottom => (1536, 12)
  | .grill => (1024, 8)
  | .steam => (2560, 32)
  | .combi => (1280, 16)
  | .keepWarm => (1024, 8)

/-- The loads of a mode's temperature regulator (R98, R99). -/
def ownLoads : Mode → List LoadId
  | .convection => [.ring]
  | .topBottom => [.top, .bottom]
  | .grill => [.top]
  | .steam => [.steamHeater]
  | .combi => [.ring]
  | .keepWarm => [.bottom]

/-- The shares, in percent, that TOP, BOTTOM and RING take of a mode's temperature output (R98). -/
def shares : Mode → Nat × Nat × Nat
  | .convection => (0, 0, 100)
  | .topBottom => (55, 45, 0)
  | .grill => (100, 0, 0)
  | .steam => (0, 0, 0)
  | .combi => (0, 0, 100)
  | .keepWarm => (0, 100, 0)

/-- One step of one regulator (R102, R103, R104, R105, R106). -/
def regulatorMoves (setpoint : Int) (measured : Option Int) (kp ki : Int) (limited door starved noSteam : Prop)
    (c c' : RegContext) : Prop :=
  (measured = none → c' = { c with error := 0, output := 0 }) ∧
    (∀ m, measured = some m →
      let e := max (-500) (min 500 (setpoint - m))
      let p := (kp * e) / 256
      let out (i : Nat) : Int := max 0 (min 1000 (p + (i : Int) / 256))
      let held : Prop :=
        (c.output = 1000 ∧ 0 < e) ∨ (c.output = 0 ∧ e < 0) ∨ (0 < e ∧ limited) ∨ door ∨ (0 < e ∧ starved) ∨
          (noSteam ∧ 0 < e)
      let raw := (c.integrator : Int) + ki * e
      c'.error = e ∧ (c'.output : Int) = out c'.integrator ∧
        (held → c'.integrator = c.integrator ∧ c'.holds = min (c.holds + 1) 65535) ∧
        (¬ held → (c'.integrator : Int) = max 0 (min 256000 raw) ∧
          c'.holds = if raw < 0 ∨ 256000 < raw then min (c.holds + 1) 65535 else c.holds))

/-- The regulator step: each running regulator steps on its error, its integrator held where its output can do no more, and its output goes
to its loads and to the steam demand, with which the boiler's heater demand is written; without a mode no regulator steps; the tick's
allowance computation follows (R46, R101, R102, R103, R104, R105, R106, R107, R108, R110, R121, R125). That a humidity step judges the vent
with the door open too is the model's reading of R110 beside R114 (notes/assumptions/38). -/
def Obligations.RegulatorStepFollowsRules : Prop :=
  ∀ s : State, s.run = .running →
    ∃ t, exec .regulatorStep s = .next t ∧ t.ssu.lastA = allowance t ∧ t.ssu.claim = s.ssu.claim ∧ t.ssu.peers = s.ssu.peers ∧
      t = { s with
        link := t.link, ssu := t.ssu, lpd.loads := t.lpd.loads, cr.temperature := t.cr.temperature,
        cr.humidity := t.cr.humidity, cr.ventOpen := t.cr.ventOpen, sgc.steamDemand := t.sgc.steamDemand,
        re.holds.power := t.re.holds.power } ∧
      (s.cr.request = none → t.cr = s.cr ∧ t.lpd = s.lpd ∧ t.sgc = s.sgc) ∧
      (∀ r, s.cr.request = some r →
        regulatorMoves r.cavity s.mu.regulated (gains r.mode).1 (gains r.mode).2
            (∃ i ∈ ownLoads r.mode, (s.lpd.loads.get i).limited = true) (doorOpen s = true) (s.ssu.starved = true)
            (r.mode = .steam ∧ s.sgc.state ≠ .steam) s.cr.temperature t.cr.temperature ∧
          (r.mode = .combi →
            regulatorMoves ((r.humidity.getD 0 : Nat) : Int) s.mu.hum.value.toOption 768 24
              (s.lpd.loads.steamHeater.limited = true) (doorOpen s = true) (s.ssu.starved = true)
              (s.sgc.state ≠ .steam) s.cr.humidity t.cr.humidity) ∧
          (r.mode ≠ .combi → t.cr.humidity = s.cr.humidity ∧ t.cr.ventOpen = s.cr.ventOpen) ∧
          t.lpd.loads.top.demand = t.cr.temperature.output * (shares r.mode).1 / 100 ∧
          t.lpd.loads.bottom.demand = t.cr.temperature.output * (shares r.mode).2.1 / 100 ∧
          t.lpd.loads.ring.demand = t.cr.temperature.output * (shares r.mode).2.2 / 100 ∧
          t.sgc.steamDemand =
            (match r.mode with
             | .steam => if s.pu.trips.boilerDry then 0 else t.cr.temperature.output
             | .combi => if s.pu.trips.boilerDry then 0 else t.cr.humidity.output
             | _ => s.sgc.steamDemand) ∧
          (r.mode = .combi → ∀ v, s.mu.hum.value = .value v →
            (t.cr.ventOpen = true ↔ ((r.humidity.getD 0 : Nat) : Int) + 100 < v)) ∧
          (r.mode = .combi → (∀ v, s.mu.hum.value ≠ .value v) → t.cr.ventOpen = true) ∧
          (let hands : Prop := (r.mode = .steam ∨ r.mode = .combi) ∧ s.sgc.user = .climate
           (hands → t.lpd.loads.steamHeater.demand = heaterOf t) ∧
             (¬ hands → t.lpd.loads.steamHeater = s.lpd.loads.steamHeater)))

/-! ### Steam generator and water -/

/-- The lines of a running C40 but the gates: the fan relay is on for the first level × 200 ms of its cycle and off for the rest, level 5
throughout; the lamp is lit in ACTIVE with a request held or the door open; the vent line follows the vent's position; the drain pump runs
in DRAIN while the tank is seated; and the lock motor while the lock travels. A fill pulse is counted, metered under the user CLIMATE and
drives the pump until its end, and the 300th sends the boiler to WAIT_WATER (R109, R110, R118, R123, R127, R130, R134, R197). FAN_CYCLE as
the next switching point of the cycle is the model's choice (notes/assumptions/23), and so is that FILL_PULSE acts at any count of its
timer and FILL_PULSE_END at 100 ms of drive only (notes/assumptions/8). That a pulse which has begun drives the pump to its end also in
COOL, DRY_FAULT and DRAIN is the model's reading of R118 beside R128, R131 and R133 (notes/assumptions/41). -/
def Obligations.OutputLinesAndPulses : Prop :=
  ∀ s : State, s.run = .running →
    (∀ n r, s.cr.fanCycle = some n → s.cr.request = some r →
      (outputs s).fanRelay = decide (n % 1000 < r.fan * 200) ∧
      (n < r.fan * 200 → r.fan < 5 → exec .fanCycle s = .next { s with cr.fanCycle := some (r.fan * 200) }) ∧
      (r.fan * 200 ≤ n ∨ 5 ≤ r.fan → exec .fanCycle s = .next { s with cr.fanCycle := some 0 })) ∧
    (s.cr.fanCycle = none → exec .fanCycle s = .next s ∧ (outputs s).fanRelay = false) ∧
    (s.sgc.pumpDrive = some 100 → exec .fillPulseEnd s = .next { s with sgc.pumpDrive := none }) ∧
    (s.sgc.pumpDrive ≠ some 100 → exec .fillPulseEnd s = .next s) ∧
    ((outputs s).fillPump = true ↔ s.sgc.pumpDrive ≠ none) ∧
    ((outputs s).lamp = true ↔ s.od.power = .active ∧ (s.cr.owner ≠ .none ∨ s.mu.door.published ≠ some false)) ∧
    (outputs s).ventOpen = some s.cr.ventOpen ∧
    ((outputs s).drainPump = true ↔ s.sgc.state = .drain ∧ (s.mu.tank = .low ∨ s.mu.tank = .present)) ∧
    ((outputs s).lockEngage = true ↔ s.pu.lock = .locking) ∧ ((outputs s).lockRelease = true ↔ s.pu.lock = .unlocking) ∧
    (let may : Prop :=
       s.sgc.pulseTimer ≠ none ∧ (s.sgc.state = .fill ∨ s.sgc.state = .refill) ∧ s.mu.tank = .present ∧
         ¬ (s.mu.levelLow.published = some true ∧ s.mu.levelHigh.published = some true)
     let metered : Nat := if s.sgc.user = .climate then 2 * s.sdu.hardness else 0
     (¬ may → exec .fillPulse s = .next s) ∧
     (may → eventsServed s → s.sgc.pulses < 299 →
       exec .fillPulse s =
         .next { s with
           sgc := { s.sgc with pulses := s.sgc.pulses + 1, pulseTimer := some 0, pumpDrive := some 0 },
           sdu.meteringSum := s.sdu.meteringSum + metered }) ∧
     (may → 299 ≤ s.sgc.pulses →
       ∃ t, exec .fillPulse s = .next t ∧ t.sgc.state = .waitWater ∧ t.sgc.limitMark = true ∧ t.sgc.wait = none ∧
         t.sgc.pulses = s.sgc.pulses + 1 ∧ t.sdu.meteringSum = s.sdu.meteringSum + metered ∧
         (s.sgc.user = .climate →
           t.od.events = s.od.events ||| Event.tankEmpty.mask ∧ t.lpd.loads.steamHeater.demand = 0) ∧
         t = { s with
           link := t.link, od := t.od, lpd.loads.steamHeater := t.lpd.loads.steamHeater, sgc := t.sgc,
           sdu.meteringSum := t.sdu.meteringSum, re.holds.water := t.re.holds.water }))

/-- The boiler's waits: a ready tank's 2000 ms lead from WAIT_WATER to FILL under either user, in a descale on to its heating, or to HEAT
or STEAM, where the boiler is full; the COOL time's end drains under the user CLIMATE outside STANDBY; 40 s of draining end in OFF, from
which steam already wanted fills again and with which wind-down may end; a descale's drain leads on, from the first rinse cycle to the
second and from the second to UNLOCKING (R21, R122, R123, R124, R127, R129, R130, R132, R146, R149, R151, R152). That a drain ended under
a LOCK trip changes phase and mark only when the freeze ends is the model's choice (notes/assumptions/46). So are that COOL_TIME_EXPIRED
acts at any count and sets the COOL time to 1,800,000 (23), that WAIT_WATER_EXPIRED and DRAIN_COMPLETE act at any count of theirs (8), and
that a rinse's heating is judged against 90.0 °C at publications only (45). -/
def Obligations.BoilerWaitsEnd : Prop :=
  ∀ s : State, s.run = .running →
    let frozen : Bool := s.pu.trips.lock
    let boils : Prop := ∃ v, s.mu.boiler.value = .value v ∧ 980 ≤ v
    let fullDemand : Nat := match s.mu.boiler.value with
      | .value _ => if s.sgc.derate then 600 else 1000
      | .invalid | .absent => 0
    let turnsToDrain : Prop :=
      frozen = false ∧
        (s.sdu.phase ∉ [.idle, .soakFill, .soakHeat, .soak, .rinse] ∨ (s.sdu.phase = .soak ∧ 1200 ≤ s.sdu.soakCount) ∨
          (s.sdu.phase = .rinse ∧ s.sdu.rinseStep = .drain))
    (s.sgc.state ≠ .waitWater ∨ s.sgc.wait = none → exec .waitWaterExpired s = .next s) ∧
    (s.sgc.state = .waitWater → s.sgc.wait ≠ none → eventsServed s →
      (s.mu.tank = .present → boilerFull s = false → ¬ turnsToDrain →
        ∃ t, exec .waitWaterExpired s = .next t ∧
          t.sgc = { s.sgc with
            state := .fill, pulses := 1, pulseTimer := some 0, pumpDrive := some 0, wait := none, limitMark := false,
            coolTime := 0, drainCount := 0 } ∧
          t.sdu.meteringSum = s.sdu.meteringSum + (if s.sgc.user = .climate then 2 * s.sdu.hardness else 0) ∧
          (s.sgc.user = .climate → t.lpd.loads.steamHeater.demand = heaterOf t) ∧
          (s.sgc.user = .descale → t.lpd = s.lpd) ∧
          t = { s with
            lpd.loads.steamHeater := t.lpd.loads.steamHeater, sgc := t.sgc, sdu.meteringSum := t.sdu.meteringSum }) ∧
      (boilerFull s = true → ¬ turnsToDrain →
        let filled (b : BoilerState) : Boiler :=
          { s.sgc with
            state := b, pulses := 0, pulseTimer := none, wait := none, limitMark := false, coolTime := 0, drainCount := 0 }
        (s.sgc.user = .climate → s.sdu.phase = .idle →
          ∃ t, exec .waitWaterExpired s = .next t ∧ t.lpd.loads.steamHeater.demand = heaterOf t ∧
            (boils → t = { s with
              lpd.loads.steamHeater := t.lpd.loads.steamHeater, sgc := filled .steam, re.holds.water := false }) ∧
            (¬ boils → t = { s with lpd.loads.steamHeater := t.lpd.loads.steamHeater, sgc := filled .heat })) ∧
        (s.sgc.user = .descale →
          (frozen = false → s.sdu.phase = .soakFill →
            ∃ t, exec .waitWaterExpired s = .next t ∧ t.lpd.loads.steamHeater.demand = fullDemand ∧
              t = { s with
                lpd.loads.steamHeater := t.lpd.loads.steamHeater, sgc := filled .heat, sdu.phase := .soakHeat }) ∧
          (frozen = false → s.sdu.phase = .rinse → s.sdu.rinseStep = .fill →
            ∃ t, exec .waitWaterExpired s = .next t ∧ t.lpd.loads.steamHeater.demand = fullDemand ∧
              t = { s with
                lpd.loads.steamHeater := t.lpd.loads.steamHeater, sgc := filled .heat, sdu.rinseStep := .heat,
                sdu.heatingTime := 0 }) ∧
          (frozen = true ∨ (s.sdu.phase ≠ .soakFill ∧ ¬ (s.sdu.phase = .rinse ∧ s.sdu.rinseStep = .fill)) →
            exec .waitWaterExpired s = .next { s with sgc := filled .heat })))) ∧
    (s.sgc.state ≠ .cool → exec .coolTimeExpired s = .next s) ∧
    (s.sgc.state = .cool → s.sgc.user = .climate → s.od.power ≠ .standby →
      ∃ t, exec .coolTimeExpired s = .next t ∧ t.sgc.state = .drain ∧ t.sgc.drainCount = 0 ∧
        t.lpd.loads.steamHeater.demand = 0 ∧
        t = { s with lpd.loads.steamHeater := t.lpd.loads.steamHeater, sgc := t.sgc }) ∧
    (s.sgc.state = .cool → s.sgc.user = .descale ∨ s.od.power = .standby →
      exec .coolTimeExpired s = .next { s with sgc.coolTime := 1800000 }) ∧
    (s.sgc.state ≠ .drain ∨ s.mu.tank = .absent → exec .drainComplete s = .next s) ∧
    (s.sgc.state = .drain → s.mu.tank ≠ .absent → s.sgc.user = .climate → s.sgc.steamWanted = false → s.sdu.phase = .idle →
      ∃ t, exec .drainComplete s = .next t ∧ t.sgc = { s.sgc with state := .off, drainCount := 0 } ∧
        t.od.power =
          (if s.od.power = .windDown ∧ s.pu.lock ≠ .locking ∧ s.pu.lock ≠ .unlocking then .standby else s.od.power) ∧
        t.ssu.claim = (if t.od.power = s.od.power then s.ssu.claim else 0) ∧ t.lpd.loads.steamHeater.demand = 0 ∧
        t.mu = s.mu ∧ t.sdu = s.sdu ∧ t.pu = s.pu ∧ t.config = s.config ∧ t.cr.request = s.cr.request) ∧
    (s.sgc.state = .drain → s.mu.tank ≠ .absent → s.sgc.user = .descale → frozen = true → s.od.power ≠ .windDown →
      eventsServed s →
      exec .drainComplete s = .next { s with sgc.state := .off, sgc.drainCount := 0, sdu.drained := true }) ∧
    (s.sgc.state = .drain → s.mu.tank ≠ .absent → s.sgc.user = .descale → frozen = false →
      (s.sdu.phase = .prepDrain →
        ∃ t, exec .drainComplete s = .next t ∧ t.sgc.state = .off ∧ t.sdu.phase = .awaitAgent ∧ t.sdu.mark = s.sdu.mark ∧
          t.od.events.has .descaleWaitUser = true) ∧
      (s.sdu.phase = .drainAgent →
        ∃ t, exec .drainComplete s = .next t ∧ t.sgc.state = .off ∧ t.sdu.phase = .awaitRinse ∧
          t.sdu.mark = .rinseNeeded ∧ t.sdu.account = s.sdu.account ∧ t.od.events.has .descaleWaitUser = true) ∧
      (s.sdu.phase = .rinse → s.sdu.rinseStep = .drain → s.sdu.rinseCycle = 1 →
        ∃ t, exec .drainComplete s = .next t ∧ t.sdu.phase = .rinse ∧ t.sdu.rinseCycle = 2 ∧ t.sdu.mark = s.sdu.mark ∧
          t.sdu.account = s.sdu.account ∧
          (boilerFull s = true →
            t.sdu.rinseStep = .heat ∧ t.sdu.heatingTime = 0 ∧ t.sgc.state = .heat ∧
              t.lpd.loads.steamHeater.demand = fullDemand) ∧
          (boilerFull s = false →
            t.sdu.rinseStep = .fill ∧ t.lpd.loads.steamHeater.demand = 0 ∧
              (s.mu.tank = .present → t.sgc.state = .fill ∧ t.sgc.pulses = 1) ∧
              (s.mu.tank = .low → t.sgc.state = .waitWater ∧ t.od.events.has .tankEmpty = true))) ∧
      (s.sdu.phase = .rinse → s.sdu.rinseStep = .drain → s.sdu.rinseCycle = 2 → s.pu.lock = .locked →
        ∃ t, exec .drainComplete s = .next t ∧ t.sgc.state = .off ∧ t.sdu.phase = .unlocking ∧ t.pu.command = .release ∧
          t.pu.lock = .unlocking ∧ t.pu.travel = 0 ∧ t.sdu.mark = s.sdu.mark ∧ t.sdu.account = s.sdu.account ∧
          t.lpd.loads.steamHeater.demand = 0)) ∧
    (s.sgc.state = .drain → s.mu.tank ≠ .absent → s.sgc.user = .climate → s.sgc.steamWanted = true → s.sdu.phase = .idle →
      ∃ t, exec .drainComplete s = .next t ∧ t.od.power = s.od.power ∧ t.mu = s.mu ∧ t.pu = s.pu ∧ t.cr = s.cr ∧
        t.sdu.account = s.sdu.account ∧
        (boilerFull s = false → s.mu.tank = .present → t.sgc.state = .fill ∧ t.sgc.pulses = 1) ∧
        (boilerFull s = false → s.mu.tank = .low →
          t.sgc.state = .waitWater ∧ t.sgc.wait = none ∧ t.od.events.has .tankEmpty = true) ∧
        (boilerFull s = true → (boils → t.sgc.state = .steam) ∧ (¬ boils → t.sgc.state = .heat)))

/-- The boiler at a publication under the user CLIMATE that adds no trip, at 160.0 °C or below. Its state moves by the level, the tank and the
temperature: OFF to COOL with a first wet low electrode; FILL and REFILL, once full, to HEAT and STEAM, and with the tank not ready to
WAIT_WATER; HEAT at 98.0 °C to STEAM; STEAM with the low electrode dry to REFILL and with an INVALID value to HEAT; COOL below 70.0 °C or after
1,800,000 ms to DRAIN, but in STANDBY. The WAIT_WATER wait and mark, the heater demand, TANK_EMPTY and the recipe's WATER hold follow (R117,
R118, R121, R123, R124, R125, R126, R127, R129, R134, R136, R187). Where two rows of a table are met at one publication the order is the
model's choice (notes/assumptions/40). -/
def Obligations.BoilerFollowsPublication : Prop :=
  ∀ (x : Samples) (s t : State), s.run = .running → exec (.samplingRound x) s = .next t → s.sgc.user = .climate →
    s.sdu.phase = .idle → t.pu.trips = s.pu.trips → (∀ v, t.mu.boiler.value = .value v → v ≤ 1600) →
    let wet : Prop := t.mu.levelLow.published = some true
    let full : Prop := wet ∧ t.mu.levelHigh.published = some true
    let ready : Prop := t.mu.tank = .present
    let valid : Prop := ∃ v, t.mu.boiler.value = .value v
    let boils : Prop := ∃ v, t.mu.boiler.value = .value v ∧ 980 ≤ v
    let is (b : BoilerState) : Prop := t.sgc.state = b
    let pulsed (n : Nat) : Prop :=
      t.sgc.pulses = n ∧ t.sgc.pulseTimer = some 0 ∧ t.sgc.pumpDrive = some 0 ∧
        t.sdu.meteringSum = s.sdu.meteringSum + 2 * s.sdu.hardness
    let waits (marked : Bool) : Prop := is .waitWater ∧ t.sgc.limitMark = marked ∧ t.sgc.wait = none
    let fills (b : BoilerState) : Prop := (ready → is b ∧ pulsed 1) ∧ (¬ ready → waits false ∧ t.sgc.pulses = 0)
    let fillsOn (b : BoilerState) : Prop :=
      (¬ ready → waits false ∧ t.sgc.pulses = s.sgc.pulses) ∧
        (ready → s.sgc.pulseTimer ≠ none →
          is b ∧ t.sgc.pulses = s.sgc.pulses ∧ t.sdu.meteringSum = s.sdu.meteringSum) ∧
        (ready → s.sgc.pulseTimer = none → s.sgc.pulses < 299 → is b ∧ pulsed (s.sgc.pulses + 1)) ∧
        (ready → s.sgc.pulseTimer = none → 299 ≤ s.sgc.pulses → waits true ∧ t.sgc.pulses = s.sgc.pulses + 1)
    let base : Nat := match t.sgc.state with
      | .fill => if t.mu.levelLow.published = some true then 1000 else 0
      | .heat => 1000
      | .steam => s.sgc.steamDemand
      | .refill => if t.mu.levelLow.published = some true then s.sgc.steamDemand else 0
      | _ => 0
    (s.sgc.state = .off →
      (s.mu.levelLow.published = none → wet → is .cool ∧ t.sgc.coolTime = 0 ∧ t.sdu.writing ≠ none) ∧
      (s.mu.levelLow.published ≠ none ∨ ¬ wet → t.sgc = s.sgc)) ∧
    (s.sgc.state = .fill →
      (full → boils → is .steam) ∧ (full → ¬ boils → is .heat ∧ t.sgc.pulses = s.sgc.pulses) ∧ (¬ full → fillsOn .fill)) ∧
    (s.sgc.state = .heat → (wet → boils → is .steam) ∧ (wet → ¬ boils → is .heat) ∧ (¬ wet → fills .fill)) ∧
    (s.sgc.state = .steam → (wet → valid → is .steam) ∧ (wet → ¬ valid → is .heat) ∧ (¬ wet → fills .refill)) ∧
    (s.sgc.state = .refill → (full → is .steam ∧ t.sgc.pulses = s.sgc.pulses) ∧ (¬ full → fillsOn .refill)) ∧
    (s.sgc.state = .waitWater →
      is .waitWater ∧ (¬ ready → t.sgc.limitMark = false ∧ t.sgc.wait = none) ∧
        (ready → t.sgc.limitMark = s.sgc.limitMark ∧
          (s.sgc.limitMark = true ∨ s.sgc.wait ≠ none → t.sgc.wait = s.sgc.wait) ∧
          (s.sgc.limitMark = false → s.sgc.wait = none → t.sgc.wait = some 0))) ∧
    (s.sgc.state = .cool →
      let leaves : Prop :=
        s.od.power ≠ .standby ∧ ((∃ v, t.mu.boiler.value = .value v ∧ v < 700) ∨ 1800000 ≤ s.sgc.coolTime)
      (leaves → is .drain ∧ t.sgc.drainCount = 0) ∧ (¬ leaves → t.sgc = s.sgc)) ∧
    (s.sgc.state = .drain ∨ s.sgc.state = .dryFault → t.sgc = s.sgc) ∧
    (s.sgc.state ≠ .off →
      t.lpd.loads.steamHeater.demand =
        match t.mu.boiler.value with
        | .value _ => if s.sgc.derate then min base 600 else base
        | _ => 0) ∧
    (t.od.events.has .tankEmpty = true ↔
      s.od.events.has .tankEmpty = true ∨ (s.sgc.state ≠ .waitWater ∧ is .waitWater)) ∧
    (∀ g, currentStage s = some g → t.re.holds.water =
      if t.sgc.state = s.sgc.state then s.re.holds.water
      else if t.sgc.state = .steam then false
      else if t.sgc.state = .waitWater ∧ g.steams = true then true else s.re.holds.water) ∧
    t.sgc.user = .climate ∧ t.sgc.steamWanted = s.sgc.steamWanted ∧ t.sgc.steamDemand = s.sgc.steamDemand ∧
    t.sdu.account = s.sdu.account ∧ t.sdu.phase = .idle ∧ t.cr.request = s.cr.request ∧ t.cr.owner = s.cr.owner

/-! ### Scale and descaling -/

/-- The metering tick adds the sum metered to the account, at most 400,000, and empties it; the derate signal follows from 200,000 up, the
advice level of 150,000 raises DESCALE_ADVICE once, and a new multiple of 2,000 requests a write; the soak and the rinse's heating count
their seconds, and the tick that brings them to 1200 and 600 ends them in a drain (R133, R137, R138, R139, R142, R150, R151). That
METERING_TICK is also the tick that counts the soak and the heating is the model's reading (notes/assumptions/24), that a rinse's heating
is judged against 90.0 °C at publications only its choice (45), and its reading too that a soak complete with the boiler in DRY_FAULT
waits in its phase (43). -/
def Obligations.MeteringTickAdds : Prop :=
  ∀ s : State, s.run = .running →
    let a : Nat := min (s.sdu.account + s.sdu.meteringSum) 400000
    let soaks : Prop := s.sdu.phase = .soak ∧ s.pu.trips.lock = false ∧ ∃ v, s.mu.boiler.value = .value v ∧ 600 ≤ v ∧ v ≤ 750
    let heats : Prop :=
      s.sdu.phase = .rinse ∧ s.sdu.rinseStep = .heat ∧ s.sgc.state = .heat ∧ s.pu.trips.lock = false
    (s.sdu.phase ≠ .soak → ¬ (s.sdu.phase = .rinse ∧ s.sdu.rinseStep = .heat) →
      ∃ t, exec .meteringTick s = .next t ∧ t.sdu.account = a ∧ t.sdu.meteringSum = 0 ∧
        (t.sgc.derate = true ↔ 200000 ≤ a) ∧
        t.od.events = (if s.sdu.account < 150000 ∧ 150000 ≤ a then s.od.events ||| Event.descaleAdvice.mask else s.od.events) ∧
        (scaleInRange s → 200000 ≤ a → t.lpd.loads.steamHeater.demand ≤ 600) ∧
        (s.sdu.account / 2000 = a / 2000 → t.sdu = { s.sdu with account := a, meteringSum := 0 }) ∧
        (s.sdu.account / 2000 ≠ a / 2000 → s.sdu.writing = none →
          t.sdu = { s.sdu with
            account := a, meteringSum := 0, rewritePending := false, writeTimer := 0,
            writing := some { account := a, hardness := s.sdu.hardness, mark := s.sdu.mark.code, sumOk := true } }) ∧
        (s.sdu.account / 2000 ≠ a / 2000 → s.sdu.writing ≠ none →
          t.sdu = { s.sdu with account := a, meteringSum := 0, rewritePending := true }) ∧
        t = { s with
          link := t.link, od := t.od, lpd.loads.steamHeater := t.lpd.loads.steamHeater, sgc.derate := t.sgc.derate,
          sdu := t.sdu }) ∧
    (s.sdu.phase = .soak → (soaks → s.sdu.soakCount < 1199) →
      ∃ t, exec .meteringTick s = .next t ∧ t.sdu.phase = .soak ∧ t.sdu.account = a ∧ t.sdu.meteringSum = 0 ∧
        (soaks → t.sdu.soakCount = s.sdu.soakCount + 1) ∧ (¬ soaks → t.sdu.soakCount = s.sdu.soakCount)) ∧
    (soaks → s.sdu.soakCount = 1199 → s.sgc.user = .descale →
      ∃ t, exec .meteringTick s = .next t ∧ t.sdu.soakCount = 1200 ∧ t.sdu.account = a ∧ t.sdu.meteringSum = 0 ∧
        t.sdu.mark = s.sdu.mark ∧ t.pu = s.pu ∧ t.mu = s.mu ∧ t.cr = s.cr ∧ t.re = s.re ∧ t.ssu = s.ssu ∧
        t.od.power = s.od.power ∧
        (s.sgc.state = .dryFault → t.sdu.phase = .soak ∧ t.sgc.state = .dryFault) ∧
        (s.sgc.state ≠ .dryFault →
          t.sdu.phase = .drainAgent ∧ t.lpd.loads.steamHeater.demand = 0 ∧
            (s.sgc.state ∈ [.off, .fill, .heat, .waitWater, .cool] → t.sgc.state = .drain ∧ t.sgc.drainCount = 0))) ∧
    (s.sdu.phase = .rinse → s.sdu.rinseStep = .heat → (heats → s.sdu.heatingTime < 599) →
      ∃ t, exec .meteringTick s = .next t ∧ t.sdu.phase = .rinse ∧ t.sdu.rinseStep = .heat ∧ t.sdu.account = a ∧
        t.sdu.meteringSum = 0 ∧ (heats → t.sdu.heatingTime = s.sdu.heatingTime + 1) ∧
        (¬ heats → t.sdu.heatingTime = s.sdu.heatingTime)) ∧
    (heats → s.sdu.heatingTime = 599 → s.sgc.user = .descale →
      ∃ t, exec .meteringTick s = .next t ∧ t.sdu.phase = .rinse ∧ t.sdu.rinseStep = .drain ∧
        t.sdu.rinseCycle = s.sdu.rinseCycle ∧ t.sdu.heatingTime = 600 ∧ t.sdu.account = a ∧ t.sdu.meteringSum = 0 ∧
        t.sdu.mark = s.sdu.mark ∧ t.sgc.state = .drain ∧ t.sgc.drainCount = 0 ∧ t.lpd.loads.steamHeater.demand = 0 ∧
        t.pu = s.pu ∧ t.mu = s.mu ∧ t.cr = s.cr ∧ t.re = s.re ∧ t.ssu = s.ssu ∧ t.od.power = s.od.power)

/-- A retained write's end, by the table of R143: an agreement clears the retry, a first failure writes again at once, a second leaves the store; a
pending rewrite begins a new write with the values as they then stand. That a completion or a timeout with no write in progress changes
nothing, and that a timeout acts at any count, is the model's choice (notes/assumptions/8). -/
def Obligations.RetainedWriteEnds : Prop :=
  ∀ (s : State) (r : StoredRecord), s.run = .running →
    let write (u : Scale) : Scale :=
      { u with
        writing := some { account := u.account, hardness := u.hardness, mark := u.mark.code, sumOk := true },
        writeTimer := 0, rewritePending := false }
    let next (u : Scale) : Scale := if u.rewritePending then write u else { u with writing := none }
    let fails : State :=
      let u : Scale := { s.sdu with failures := min (s.sdu.failures + 1) 65535, retry := !s.sdu.retry }
      { s with store := r, sdu := if s.sdu.retry then next u else write u }
    (s.sdu.writing = none → exec (.retainedWriteComplete r) s = .next s ∧ exec (.retainedWriteTimeout r) s = .next s) ∧
    (s.sdu.writing = some r →
      exec (.retainedWriteComplete r) s = .next { s with store := r, sdu := next { s.sdu with retry := false } }) ∧
    (∀ w, s.sdu.writing = some w → r ≠ w → exec (.retainedWriteComplete r) s = .next fails) ∧
    (∀ w, s.sdu.writing = some w → exec (.retainedWriteTimeout r) s = .next fails)

/-- A soak's 1200 s and a rinse's 600 s of heating end in a drain, with the heater off; a lock travel of 3000 ms without its feedback is a
lock fault: the motor stops and LOCK is added (R133, R150, R151, R197, R198, R199, R200). That SOAK_COMPLETE and RINSE_HEAT_LIMIT set
their count to its limit whatever it was is the model's choice (notes/assumptions/23), that LOCK_TRAVEL_TIMEOUT acts on a travel of 3000
ms only (8), and that a soak which is complete with the boiler in DRY_FAULT waits in its phase is its reading of R153 (43). -/
def Obligations.SoakRinseAndTravelEnd : Prop :=
  ∀ s : State, s.run = .running →
    (s.sdu.phase ≠ .soak ∨ s.pu.trips.lock = true → exec .soakComplete s = .next s) ∧
    (s.sdu.phase = .soak → s.pu.trips.lock = false → s.sgc.state = .dryFault → eventsServed s →
      exec .soakComplete s = .next { s with sdu.soakCount := 1200 }) ∧
    (s.sdu.phase = .soak → s.pu.trips.lock = false → s.sgc.user = .descale → s.sgc.state ≠ .dryFault →
      ∃ t, exec .soakComplete s = .next t ∧ t.sdu.phase = .drainAgent ∧ t.sdu.soakCount = 1200 ∧
        t.lpd.loads.steamHeater.demand = 0 ∧
        (s.sgc.state ∈ [.off, .fill, .heat, .waitWater, .cool] → t.sgc.state = .drain ∧ t.sgc.drainCount = 0) ∧
        t.sdu.mark = s.sdu.mark ∧ t.sdu.account = s.sdu.account ∧ t.pu = s.pu ∧ t.mu = s.mu ∧ t.cr = s.cr ∧ t.re = s.re ∧
        t.ssu = s.ssu ∧ t.od.power = s.od.power) ∧
    (s.sdu.phase ≠ .rinse ∨ s.sdu.rinseStep ≠ .heat ∨ s.sgc.state ≠ .heat ∨ s.pu.trips.lock = true →
      exec .rinseHeatLimit s = .next s) ∧
    (s.sdu.phase = .rinse → s.sdu.rinseStep = .heat → s.sgc.state = .heat → s.pu.trips.lock = false →
      s.sgc.user = .descale →
      ∃ t, exec .rinseHeatLimit s = .next t ∧ t.sdu.phase = .rinse ∧ t.sdu.rinseStep = .drain ∧
        t.sdu.rinseCycle = s.sdu.rinseCycle ∧ t.sgc.state = .drain ∧ t.sgc.drainCount = 0 ∧
        t.lpd.loads.steamHeater.demand = 0 ∧ t.sdu.mark = s.sdu.mark ∧ t.sdu.account = s.sdu.account ∧ t.pu = s.pu ∧
        t.mu = s.mu ∧ t.cr = s.cr ∧ t.re = s.re ∧ t.ssu = s.ssu ∧ t.od.power = s.od.power) ∧
    ((s.pu.lock ≠ .locking ∧ s.pu.lock ≠ .unlocking) ∨ s.pu.travel ≠ 3000 → exec .lockTravelTimeout s = .next s) ∧
    (s.pu.lock = .locking ∨ s.pu.lock = .unlocking → s.pu.travel = 3000 →
      ∃ t, exec .lockTravelTimeout s = .next t ∧ t.pu = { s.pu with lock := .fault, trips.lock := true } ∧
        (outputs t).lockEngage = false ∧ (outputs t).lockRelease = false ∧
        (s.pu.trips.lock = false → t.od.events.has .trip = true ∧
          (s.sgc.user = .descale → t.lpd.loads.steamHeater.demand = 0)) ∧
        t.sdu = s.sdu ∧ t.mu = s.mu ∧ t.config = s.config ∧ t.cr.request = s.cr.request ∧ t.cr.owner = s.cr.owner)

/-- The descale at a publication that adds no trip, not frozen, at 160.0 °C or below: a travel ends at its feedback; LOCKING ended leads
to the soak's fill, the agent's drain or AWAIT_RINSE; the soak's fill ends in HEAT, its heating at 70.0 °C, the soak's heater runs on two
thresholds; a rinse's fill ends in HEAT and its heating at 90.0 °C with a drain; UNLOCKING ended is DONE, with the account 0, the mark
NONE and the boiler returned; a recovery begins as the door is closed in ACTIVE; and a boiler in DRY_FAULT moves no phase by its
temperature, which is the model's reading (notes/assumptions/43), as is that the blocks act in their order on one publication, so that a
fill that ends at 70.0 °C or above goes on to the soak at once (notes/assumptions/14 and 17), and a rinse's at 90.0 °C or above to its
drain (45); that a boiler which becomes full as the tank stops being ready is taken as full is its choice (40) (R119, R139, R148, R149,
R150, R151, R152, R153, R156, R198). -/
def Obligations.DescaleFollowsPublication : Prop :=
  ∀ (x : Samples) (s t : State), s.run = .running → exec (.samplingRound x) s = .next t → s.sgc.user = .descale →
    t.pu.trips = s.pu.trips → s.pu.trips.lock = false → s.mu.lockFb.published ≠ none →
    (∀ v, t.mu.boiler.value = .value v → v ≤ 1600) →
    let fb := t.mu.lockFb.published
    let wet : Prop := t.mu.levelLow.published = some true
    let full : Prop := wet ∧ t.mu.levelHigh.published = some true
    let ready : Prop := t.mu.tank = .present
    let reaches (v : Int) : Prop := ∃ y, t.mu.boiler.value = .value y ∧ v ≤ y
    let demand : Nat := t.lpd.loads.steamHeater.demand
    let heat (d : Nat) : Nat := match t.mu.boiler.value with
      | .value _ => if s.sgc.derate then min d 600 else d
      | _ => 0
    let drains : Prop := t.sgc.state = .drain ∧ t.sgc.drainCount = 0 ∧ demand = 0
    let inPhase (p : Phase) : Prop := t.sdu.phase = p ∧ t.sdu.account = s.sdu.account ∧ t.sgc.user = .descale
    (s.sdu.phase ∈ [.idle, .locking, .unlocking] →
      t.pu.lock = (match s.pu.lock, fb with
        | .locking, some true => .locked
        | .unlocking, some false => .unlocked
        | l, _ => l) ∧
      t.pu = { s.pu with lock := t.pu.lock }) ∧
    (s.sdu.phase = .locking →
      (t.pu.lock ≠ .locked → inPhase .locking ∧ t.sdu.mark = s.sdu.mark) ∧
      (t.pu.lock = .locked →
        (s.sdu.lockingFrom = .awaitAgent →
          t.sdu.mark = .agentIn ∧ t.sdu.phase ∈ [.soakFill, .soakHeat, .soak] ∧
            (s.sdu.mark ≠ .agentIn → t.sdu.writing ≠ none) ∧
            (s.sgc.state = .off → ready → ¬ full →
              inPhase .soakFill ∧ t.sgc.state = .fill ∧ t.sgc.pulses = 1 ∧
                t.sdu.meteringSum = s.sdu.meteringSum ∧ demand = 0)) ∧
        (s.sdu.lockingFrom = .recoverDrain →
          inPhase .drainAgent ∧ t.sdu.mark = s.sdu.mark ∧ demand = 0 ∧ (s.sgc.state ∈ [.off, .cool] → drains)) ∧
        (s.sdu.lockingFrom = .recoverRinse →
          inPhase .awaitRinse ∧ t.sdu.mark = s.sdu.mark ∧ demand = 0 ∧ t.od.events.has .descaleWaitUser = true))) ∧
    (s.sdu.phase = .soakFill → s.sgc.state = .fill →
      (full → ¬ reaches 700 → inPhase .soakHeat ∧ t.sgc.state = .heat ∧ demand = heat 1000) ∧
      (full → reaches 700 → inPhase .soak ∧ t.sgc.state = .heat ∧ demand = 0) ∧
      (¬ full → ready → s.sgc.pulseTimer ≠ none → inPhase .soakFill ∧ t.sgc = s.sgc ∧ t.sdu = s.sdu) ∧
      (¬ full → ¬ ready →
        inPhase .soakFill ∧ t.sgc.state = .waitWater ∧ t.od.events.has .descaleWaitUser = true)) ∧
    (s.sdu.phase = .soakHeat →
      (s.sgc.state = .heat → wet → reaches 700 →
        inPhase .soak ∧ t.sdu.soakCount = 0 ∧ demand = 0 ∧ t.sgc.state = .heat) ∧
      (¬ reaches 700 → inPhase .soakHeat ∧ demand = heat 1000) ∧
      (s.sgc.state = .heat → ¬ wet → ready → t.sgc.state = .fill) ∧
      (s.sgc.state = .dryFault → inPhase .soakHeat ∧ t.sgc.state = .dryFault)) ∧
    (s.sdu.phase = .soak → s.sdu.soakCount < 1200 →
      inPhase .soak ∧ t.sdu.soakCount = s.sdu.soakCount ∧
        (¬ reaches 650 → demand = heat 1000) ∧ (reaches 700 → demand = 0) ∧
        (reaches 650 → ¬ reaches 700 → demand = heat s.lpd.loads.steamHeater.demand)) ∧
    (s.sdu.phase = .rinse → s.sdu.rinseStep = .fill → s.sgc.state = .fill →
      t.sdu.rinseCycle = s.sdu.rinseCycle ∧
      (full → ¬ reaches 900 →
        inPhase .rinse ∧ t.sdu.rinseStep = .heat ∧ t.sdu.heatingTime = 0 ∧ t.sgc.state = .heat ∧ demand = heat 1000) ∧
      (full → reaches 900 → inPhase .rinse ∧ t.sdu.rinseStep = .drain ∧ drains) ∧
      (¬ full → ¬ ready →
        inPhase .rinse ∧ t.sdu.rinseStep = .fill ∧ t.sgc.state = .waitWater ∧
          t.od.events.has .tankEmpty = true)) ∧
    (s.sdu.phase = .rinse → s.sdu.rinseStep = .heat →
      t.sdu.rinseCycle = s.sdu.rinseCycle ∧
      (s.sgc.state = .heat → wet → reaches 900 → inPhase .rinse ∧ t.sdu.rinseStep = .drain ∧ drains) ∧
      (¬ reaches 900 ∨ s.sgc.state = .dryFault →
        inPhase .rinse ∧ t.sdu.rinseStep = .heat ∧ t.sdu.heatingTime = s.sdu.heatingTime ∧ demand = heat 1000)) ∧
    (s.sdu.phase = .unlocking →
      (t.pu.lock ≠ .unlocked → inPhase .unlocking ∧ t.sdu.mark = s.sdu.mark) ∧
      (t.pu.lock = .unlocked →
        t.sdu.phase = .idle ∧ t.sdu.account = 0 ∧ t.sdu.mark = .none ∧ t.sgc.derate = false ∧ t.sgc.user = .climate ∧
          t.sdu.writing ≠ none ∧ t.od.events.has .descaleDone = true ∧
          (s.sgc.state = .off → s.mu.levelLow.published ≠ none → t.sgc.state = .off ∧ demand = 0))) ∧
    (s.sdu.phase = .recoverDrain ∨ s.sdu.phase = .recoverRinse →
      (s.od.power ≠ .active ∨ t.mu.door.published ≠ some false → inPhase s.sdu.phase) ∧
      (s.od.power = .active → t.mu.door.published = some false →
        t.sdu.account = s.sdu.account ∧ t.sdu.mark = s.sdu.mark ∧ t.pu.command = .engage ∧
        (s.pu.lock = .unlocked → inPhase .locking ∧ t.pu.lock = .locking ∧ t.pu.travel = 0) ∧
        (s.pu.lock = .locked →
          inPhase (if s.sdu.phase = .recoverDrain then .drainAgent else .awaitRinse) ∧ t.pu.lock = .locked)))

/-! ### Invariants -/

/-- Every step keeps the claims in order (R49). -/
def Obligations.ClaimsStayOrdered : Prop :=
  ∀ s t : State, claimsOrdered s → step s = .next t → claimsOrdered t

/-- Every step keeps the transmit queue in order and the pending events served (R8, R9, R36). A REPORT stands ahead of a NOTICE only where it is
on the line, is awaited, or has collided, which is the model's reading of R8 and R9 (notes/assumptions/10). -/
def Obligations.LinkInvariantsKept : Prop :=
  ∀ s t : State, queueInOrder s → eventsServed s → step s = .next t → queueInOrder t ∧ eventsServed t

/-- Every step keeps agent and food apart, the slots and their states in agreement, LOCK_FAULT with its trip, and the climate's owner RECIPE
exactly while a slot runs (R97, R155, R178, R191, R199). -/
def Obligations.CookingInvariantsKept : Prop :=
  (∀ s t : State, agentApart s → slotsAgree s → lockFaultTripped s → step s = .next t →
    agentApart t ∧ slotsAgree t ∧ lockFaultTripped t) ∧
  ∀ s t : State, slotsAgree s → recipeOwnsClimate s → step s = .next t → recipeOwnsClimate t

/-- Every step keeps the hold reasons of the stage in progress in agreement with their causes: POWER stands exactly while the oven is starved,
PROBE exactly while a CORE stage lacks its probe's temperature, TRIP exactly while the trip set holds a trip that affects the stage; WATER
stands for a STEAM or COMBI stage only, from the boiler's WAIT_WATER on and no longer once it is in STEAM (R175, R187, R188, R189). -/
def Obligations.HoldsFollowCauses : Prop :=
  ∀ s t : State, slotsAgree s → holdsFit s → step s = .next t → holdsFit t

/-- Every step keeps the regulators, the load list, the shed counter, the account and the hardness within their ranges, and the STEAM_HEATER
demand at most 600 from an account of 200,000 up (R64, R76, R100, R105, R137, R139). -/
def Obligations.RangesKept : Prop :=
  ∀ s t : State, controlInRange s → scaleInRange s → step s = .next t → controlInRange t ∧ scaleInRange t

/-- The invariants hold at State.reset, which is the model's state without supply and not the state a power-on leaves
(notes/assumptions/1): its account and hardness of 0, its mark NONE and its IDLE phase are the model's choice. The blocks' reset tables
give the rest (R19, R63, R195, R207). -/
def Obligations.InvariantsHoldAtReset : Prop :=
  claimsOrdered .reset ∧ queueInOrder .reset ∧ eventsServed .reset ∧ agentApart .reset ∧ slotsAgree .reset ∧
    recipeOwnsClimate .reset ∧ lockFaultTripped .reset ∧ holdsFit .reset ∧ controlInRange .reset ∧ scaleInRange .reset
end

