-- ==== Sys2Proof/Laws/OpsLaws.lean ====
section
/-! SUPPORT. What the shared operations of Machine/Ops.lean leave as it is: for each operation, every field of State it cannot change. -/

namespace Sys2Proof.Machine

@[simp] theorem countClean_keeps (s : State) :
    (countClean s).pending = s.pending ∧ (countClean s).run = s.run ∧ (countClean s).config = s.config ∧
    (countClean s).store = s.store ∧ (countClean s).second = s.second ∧ (countClean s).freeUses = s.freeUses ∧
    (countClean s).link.rx = s.link.rx ∧ (countClean s).link.tx = s.link.tx ∧
    (countClean s).link.queue = s.link.queue ∧ (countClean s).link.confirmation = s.link.confirmation ∧
    (countClean s).link.latch = s.link.latch ∧ (countClean s).link.lost = s.link.lost ∧
    (countClean s).link.lfsr = s.link.lfsr ∧ (countClean s).link.silence = s.link.silence ∧
    (countClean s).link.restartOwed = s.link.restartOwed ∧ (countClean s).od = s.od ∧ (countClean s).ssu = s.ssu ∧
    (countClean s).lpd = s.lpd ∧ (countClean s).mu = s.mu ∧ (countClean s).cr = s.cr ∧ (countClean s).sgc = s.sgc ∧
    (countClean s).sdu = s.sdu ∧ (countClean s).re = s.re ∧ (countClean s).pu = s.pu := by
  unfold countClean; (repeat' split) <;> simp

@[simp] theorem countCorrected_keeps (s : State) :
    (countCorrected s).pending = s.pending ∧ (countCorrected s).run = s.run ∧ (countCorrected s).config = s.config ∧
    (countCorrected s).store = s.store ∧ (countCorrected s).second = s.second ∧
    (countCorrected s).freeUses = s.freeUses ∧ (countCorrected s).link.rx = s.link.rx ∧
    (countCorrected s).link.tx = s.link.tx ∧ (countCorrected s).link.queue = s.link.queue ∧
    (countCorrected s).link.confirmation = s.link.confirmation ∧ (countCorrected s).link.latch = s.link.latch ∧
    (countCorrected s).link.lost = s.link.lost ∧ (countCorrected s).link.lfsr = s.link.lfsr ∧
    (countCorrected s).link.silence = s.link.silence ∧ (countCorrected s).link.restartOwed = s.link.restartOwed ∧
    (countCorrected s).od = s.od ∧ (countCorrected s).ssu = s.ssu ∧ (countCorrected s).lpd = s.lpd ∧
    (countCorrected s).mu = s.mu ∧ (countCorrected s).cr = s.cr ∧ (countCorrected s).sgc = s.sgc ∧
    (countCorrected s).sdu = s.sdu ∧ (countCorrected s).re = s.re ∧ (countCorrected s).pu = s.pu := by
  unfold countCorrected; (repeat' split) <;> simp

@[simp] theorem countBad_keeps (s : State) :
    (countBad s).pending = s.pending ∧ (countBad s).run = s.run ∧ (countBad s).config = s.config ∧
    (countBad s).store = s.store ∧ (countBad s).second = s.second ∧ (countBad s).freeUses = s.freeUses ∧
    (countBad s).link.rx = s.link.rx ∧ (countBad s).link.tx = s.link.tx ∧ (countBad s).link.queue = s.link.queue ∧
    (countBad s).link.confirmation = s.link.confirmation ∧ (countBad s).link.latch = s.link.latch ∧
    (countBad s).link.lost = s.link.lost ∧ (countBad s).link.lfsr = s.link.lfsr ∧
    (countBad s).link.silence = s.link.silence ∧ (countBad s).link.restartOwed = s.link.restartOwed ∧
    (countBad s).od = s.od ∧ (countBad s).ssu = s.ssu ∧ (countBad s).lpd = s.lpd ∧ (countBad s).mu = s.mu ∧
    (countBad s).cr = s.cr ∧ (countBad s).sgc = s.sgc ∧ (countBad s).sdu = s.sdu ∧ (countBad s).re = s.re ∧
    (countBad s).pu = s.pu := by
  unfold countBad; (repeat' split) <;> simp

@[simp] theorem countForeign_keeps (s : State) :
    (countForeign s).pending = s.pending ∧ (countForeign s).run = s.run ∧ (countForeign s).config = s.config ∧
    (countForeign s).store = s.store ∧ (countForeign s).second = s.second ∧ (countForeign s).freeUses = s.freeUses ∧
    (countForeign s).link.rx = s.link.rx ∧ (countForeign s).link.tx = s.link.tx ∧
    (countForeign s).link.queue = s.link.queue ∧ (countForeign s).link.confirmation = s.link.confirmation ∧
    (countForeign s).link.latch = s.link.latch ∧ (countForeign s).link.lost = s.link.lost ∧
    (countForeign s).link.lfsr = s.link.lfsr ∧ (countForeign s).link.silence = s.link.silence ∧
    (countForeign s).link.restartOwed = s.link.restartOwed ∧ (countForeign s).od = s.od ∧
    (countForeign s).ssu = s.ssu ∧ (countForeign s).lpd = s.lpd ∧ (countForeign s).mu = s.mu ∧
    (countForeign s).cr = s.cr ∧ (countForeign s).sgc = s.sgc ∧ (countForeign s).sdu = s.sdu ∧
    (countForeign s).re = s.re ∧ (countForeign s).pu = s.pu := by
  unfold countForeign; (repeat' split) <;> simp

@[simp] theorem countCollision_keeps (s : State) :
    (countCollision s).pending = s.pending ∧ (countCollision s).run = s.run ∧ (countCollision s).config = s.config ∧
    (countCollision s).store = s.store ∧ (countCollision s).second = s.second ∧
    (countCollision s).freeUses = s.freeUses ∧ (countCollision s).link.rx = s.link.rx ∧
    (countCollision s).link.tx = s.link.tx ∧ (countCollision s).link.queue = s.link.queue ∧
    (countCollision s).link.confirmation = s.link.confirmation ∧ (countCollision s).link.latch = s.link.latch ∧
    (countCollision s).link.lost = s.link.lost ∧ (countCollision s).link.lfsr = s.link.lfsr ∧
    (countCollision s).link.silence = s.link.silence ∧ (countCollision s).link.restartOwed = s.link.restartOwed ∧
    (countCollision s).od = s.od ∧ (countCollision s).ssu = s.ssu ∧ (countCollision s).lpd = s.lpd ∧
    (countCollision s).mu = s.mu ∧ (countCollision s).cr = s.cr ∧ (countCollision s).sgc = s.sgc ∧
    (countCollision s).sdu = s.sdu ∧ (countCollision s).re = s.re ∧ (countCollision s).pu = s.pu := by
  unfold countCollision; (repeat' split) <;> simp

@[simp] theorem countDropped_keeps (s : State) :
    (countDropped s).pending = s.pending ∧ (countDropped s).run = s.run ∧ (countDropped s).config = s.config ∧
    (countDropped s).store = s.store ∧ (countDropped s).second = s.second ∧ (countDropped s).freeUses = s.freeUses ∧
    (countDropped s).link.rx = s.link.rx ∧ (countDropped s).link.tx = s.link.tx ∧
    (countDropped s).link.queue = s.link.queue ∧ (countDropped s).link.confirmation = s.link.confirmation ∧
    (countDropped s).link.latch = s.link.latch ∧ (countDropped s).link.lost = s.link.lost ∧
    (countDropped s).link.lfsr = s.link.lfsr ∧ (countDropped s).link.silence = s.link.silence ∧
    (countDropped s).link.restartOwed = s.link.restartOwed ∧ (countDropped s).od = s.od ∧
    (countDropped s).ssu = s.ssu ∧ (countDropped s).lpd = s.lpd ∧ (countDropped s).mu = s.mu ∧
    (countDropped s).cr = s.cr ∧ (countDropped s).sgc = s.sgc ∧ (countDropped s).sdu = s.sdu ∧
    (countDropped s).re = s.re ∧ (countDropped s).pu = s.pu := by
  unfold countDropped; (repeat' split) <;> simp

@[simp] theorem offer_keeps (b : Body) (s : State) :
    (offer b s).pending = s.pending ∧ (offer b s).run = s.run ∧ (offer b s).config = s.config ∧
    (offer b s).store = s.store ∧ (offer b s).second = s.second ∧ (offer b s).freeUses = s.freeUses ∧
    (offer b s).link.rx = s.link.rx ∧ (offer b s).link.tx = s.link.tx ∧
    (offer b s).link.confirmation = s.link.confirmation ∧ (offer b s).link.latch = s.link.latch ∧
    (offer b s).link.lost = s.link.lost ∧ (offer b s).link.lfsr = s.link.lfsr ∧
    (offer b s).link.silence = s.link.silence ∧ (offer b s).link.restartOwed = s.link.restartOwed ∧
    (offer b s).od = s.od ∧ (offer b s).ssu = s.ssu ∧ (offer b s).lpd = s.lpd ∧ (offer b s).mu = s.mu ∧
    (offer b s).cr = s.cr ∧ (offer b s).sgc = s.sgc ∧ (offer b s).sdu = s.sdu ∧ (offer b s).re = s.re ∧
    (offer b s).pu = s.pu := by
  unfold offer; dsimp only; (repeat' split) <;> simp

@[simp] theorem raise_keeps (e : Event) (s : State) :
    (raise e s).pending = s.pending ∧ (raise e s).run = s.run ∧ (raise e s).config = s.config ∧
    (raise e s).store = s.store ∧ (raise e s).second = s.second ∧ (raise e s).freeUses = s.freeUses ∧
    (raise e s).link = s.link ∧ (raise e s).od.power = s.od.power ∧
    (raise e s).od.restartPending = s.od.restartPending ∧ (raise e s).od.cycle = s.od.cycle ∧
    (raise e s).od.cycleTimer = s.od.cycleTimer ∧ (raise e s).od.eventsTimer = s.od.eventsTimer ∧
    (raise e s).od.diagTimer = s.od.diagTimer ∧ (raise e s).ssu = s.ssu ∧ (raise e s).lpd = s.lpd ∧
    (raise e s).mu = s.mu ∧ (raise e s).cr = s.cr ∧ (raise e s).sgc = s.sgc ∧ (raise e s).sdu = s.sdu ∧
    (raise e s).re = s.re ∧ (raise e s).pu = s.pu := by
  unfold raise; (repeat' split) <;> simp

@[simp] theorem serviceEvents_keeps (s : State) :
    (serviceEvents s).pending = s.pending ∧ (serviceEvents s).run = s.run ∧ (serviceEvents s).config = s.config ∧
    (serviceEvents s).store = s.store ∧ (serviceEvents s).second = s.second ∧
    (serviceEvents s).freeUses = s.freeUses ∧ (serviceEvents s).link.rx = s.link.rx ∧
    (serviceEvents s).link.tx = s.link.tx ∧ (serviceEvents s).link.confirmation = s.link.confirmation ∧
    (serviceEvents s).link.latch = s.link.latch ∧ (serviceEvents s).link.lost = s.link.lost ∧
    (serviceEvents s).link.lfsr = s.link.lfsr ∧ (serviceEvents s).link.silence = s.link.silence ∧
    (serviceEvents s).link.restartOwed = s.link.restartOwed ∧ (serviceEvents s).od.power = s.od.power ∧
    (serviceEvents s).od.restartPending = s.od.restartPending ∧ (serviceEvents s).od.events = s.od.events ∧
    (serviceEvents s).od.cycle = s.od.cycle ∧ (serviceEvents s).od.cycleTimer = s.od.cycleTimer ∧
    (serviceEvents s).od.diagTimer = s.od.diagTimer ∧ (serviceEvents s).ssu = s.ssu ∧
    (serviceEvents s).lpd = s.lpd ∧ (serviceEvents s).mu = s.mu ∧ (serviceEvents s).cr = s.cr ∧
    (serviceEvents s).sgc = s.sgc ∧ (serviceEvents s).sdu = s.sdu ∧ (serviceEvents s).re = s.re ∧
    (serviceEvents s).pu = s.pu := by
  unfold serviceEvents; (repeat' split) <;> simp

@[simp] theorem writeDemand_keeps (i : LoadId) (d : Nat) (s : State) :
    (writeDemand i d s).pending = s.pending ∧ (writeDemand i d s).run = s.run ∧
    (writeDemand i d s).config = s.config ∧ (writeDemand i d s).store = s.store ∧
    (writeDemand i d s).second = s.second ∧ (writeDemand i d s).freeUses = s.freeUses ∧
    (writeDemand i d s).link = s.link ∧ (writeDemand i d s).od = s.od ∧ (writeDemand i d s).ssu = s.ssu ∧
    (writeDemand i d s).lpd.drive = s.lpd.drive ∧ (writeDemand i d s).lpd.half = s.lpd.half ∧
    (writeDemand i d s).lpd.pool = s.lpd.pool ∧ (writeDemand i d s).lpd.shed = s.lpd.shed ∧
    (writeDemand i d s).lpd.gates = s.lpd.gates ∧ (writeDemand i d s).lpd.sinceCrossing = s.lpd.sinceCrossing ∧
    (writeDemand i d s).mu = s.mu ∧ (writeDemand i d s).cr = s.cr ∧ (writeDemand i d s).sgc = s.sgc ∧
    (writeDemand i d s).sdu = s.sdu ∧ (writeDemand i d s).re = s.re ∧ (writeDemand i d s).pu = s.pu := by
  unfold writeDemand; (repeat' split) <;> simp

@[simp] theorem writeElements_keeps (top bottom ring : Nat) (s : State) :
    (writeElements top bottom ring s).pending = s.pending ∧ (writeElements top bottom ring s).run = s.run ∧
    (writeElements top bottom ring s).config = s.config ∧ (writeElements top bottom ring s).store = s.store ∧
    (writeElements top bottom ring s).second = s.second ∧ (writeElements top bottom ring s).freeUses = s.freeUses ∧
    (writeElements top bottom ring s).link = s.link ∧ (writeElements top bottom ring s).od = s.od ∧
    (writeElements top bottom ring s).ssu = s.ssu ∧ (writeElements top bottom ring s).lpd.drive = s.lpd.drive ∧
    (writeElements top bottom ring s).lpd.half = s.lpd.half ∧
    (writeElements top bottom ring s).lpd.loads.steamHeater = s.lpd.loads.steamHeater ∧
    (writeElements top bottom ring s).lpd.pool = s.lpd.pool ∧
    (writeElements top bottom ring s).lpd.shed = s.lpd.shed ∧
    (writeElements top bottom ring s).lpd.gates = s.lpd.gates ∧
    (writeElements top bottom ring s).lpd.sinceCrossing = s.lpd.sinceCrossing ∧
    (writeElements top bottom ring s).mu = s.mu ∧ (writeElements top bottom ring s).cr = s.cr ∧
    (writeElements top bottom ring s).sgc = s.sgc ∧ (writeElements top bottom ring s).sdu = s.sdu ∧
    (writeElements top bottom ring s).re = s.re ∧ (writeElements top bottom ring s).pu = s.pu := by
  simp [writeElements, writeDemand, Loads.set]

@[simp] theorem beginWrite_keeps (s : State) :
    (beginWrite s).pending = s.pending ∧ (beginWrite s).run = s.run ∧ (beginWrite s).config = s.config ∧
    (beginWrite s).store = s.store ∧ (beginWrite s).second = s.second ∧ (beginWrite s).freeUses = s.freeUses ∧
    (beginWrite s).link = s.link ∧ (beginWrite s).od = s.od ∧ (beginWrite s).ssu = s.ssu ∧
    (beginWrite s).lpd = s.lpd ∧ (beginWrite s).mu = s.mu ∧ (beginWrite s).cr = s.cr ∧ (beginWrite s).sgc = s.sgc ∧
    (beginWrite s).sdu.account = s.sdu.account ∧ (beginWrite s).sdu.hardness = s.sdu.hardness ∧
    (beginWrite s).sdu.mark = s.sdu.mark ∧ (beginWrite s).sdu.meteringSum = s.sdu.meteringSum ∧
    (beginWrite s).sdu.phase = s.sdu.phase ∧ (beginWrite s).sdu.lockingFrom = s.sdu.lockingFrom ∧
    (beginWrite s).sdu.soakCount = s.sdu.soakCount ∧ (beginWrite s).sdu.rinseCycle = s.sdu.rinseCycle ∧
    (beginWrite s).sdu.rinseStep = s.sdu.rinseStep ∧ (beginWrite s).sdu.heatingTime = s.sdu.heatingTime ∧
    (beginWrite s).sdu.drained = s.sdu.drained ∧ (beginWrite s).sdu.retry = s.sdu.retry ∧
    (beginWrite s).sdu.failures = s.sdu.failures ∧ (beginWrite s).re = s.re ∧ (beginWrite s).pu = s.pu := by
  unfold beginWrite; (repeat' split) <;> simp

@[simp] theorem requestWrite_keeps (s : State) :
    (requestWrite s).pending = s.pending ∧ (requestWrite s).run = s.run ∧ (requestWrite s).config = s.config ∧
    (requestWrite s).store = s.store ∧ (requestWrite s).second = s.second ∧ (requestWrite s).freeUses = s.freeUses ∧
    (requestWrite s).link = s.link ∧ (requestWrite s).od = s.od ∧ (requestWrite s).ssu = s.ssu ∧
    (requestWrite s).lpd = s.lpd ∧ (requestWrite s).mu = s.mu ∧ (requestWrite s).cr = s.cr ∧
    (requestWrite s).sgc = s.sgc ∧ (requestWrite s).sdu.account = s.sdu.account ∧
    (requestWrite s).sdu.hardness = s.sdu.hardness ∧ (requestWrite s).sdu.mark = s.sdu.mark ∧
    (requestWrite s).sdu.meteringSum = s.sdu.meteringSum ∧ (requestWrite s).sdu.phase = s.sdu.phase ∧
    (requestWrite s).sdu.lockingFrom = s.sdu.lockingFrom ∧ (requestWrite s).sdu.soakCount = s.sdu.soakCount ∧
    (requestWrite s).sdu.rinseCycle = s.sdu.rinseCycle ∧ (requestWrite s).sdu.rinseStep = s.sdu.rinseStep ∧
    (requestWrite s).sdu.heatingTime = s.sdu.heatingTime ∧ (requestWrite s).sdu.drained = s.sdu.drained ∧
    (requestWrite s).sdu.retry = s.sdu.retry ∧ (requestWrite s).sdu.failures = s.sdu.failures ∧
    (requestWrite s).re = s.re ∧ (requestWrite s).pu = s.pu := by
  unfold requestWrite; (repeat' split) <;> simp

@[simp] theorem setMark_keeps (m : Mark) (s : State) :
    (setMark m s).pending = s.pending ∧ (setMark m s).run = s.run ∧ (setMark m s).config = s.config ∧
    (setMark m s).store = s.store ∧ (setMark m s).second = s.second ∧ (setMark m s).freeUses = s.freeUses ∧
    (setMark m s).link = s.link ∧ (setMark m s).od = s.od ∧ (setMark m s).ssu = s.ssu ∧ (setMark m s).lpd = s.lpd ∧
    (setMark m s).mu = s.mu ∧ (setMark m s).cr = s.cr ∧ (setMark m s).sgc = s.sgc ∧
    (setMark m s).sdu.account = s.sdu.account ∧ (setMark m s).sdu.hardness = s.sdu.hardness ∧
    (setMark m s).sdu.meteringSum = s.sdu.meteringSum ∧ (setMark m s).sdu.phase = s.sdu.phase ∧
    (setMark m s).sdu.lockingFrom = s.sdu.lockingFrom ∧ (setMark m s).sdu.soakCount = s.sdu.soakCount ∧
    (setMark m s).sdu.rinseCycle = s.sdu.rinseCycle ∧ (setMark m s).sdu.rinseStep = s.sdu.rinseStep ∧
    (setMark m s).sdu.heatingTime = s.sdu.heatingTime ∧ (setMark m s).sdu.drained = s.sdu.drained ∧
    (setMark m s).sdu.retry = s.sdu.retry ∧ (setMark m s).sdu.failures = s.sdu.failures ∧ (setMark m s).re = s.re ∧
    (setMark m s).pu = s.pu := by
  unfold setMark; (repeat' split) <;> simp

@[simp] theorem holdPower_keeps (b : Bool) (s : State) :
    (holdPower b s).pending = s.pending ∧ (holdPower b s).run = s.run ∧ (holdPower b s).config = s.config ∧
    (holdPower b s).store = s.store ∧ (holdPower b s).second = s.second ∧ (holdPower b s).freeUses = s.freeUses ∧
    (holdPower b s).link = s.link ∧ (holdPower b s).od = s.od ∧ (holdPower b s).ssu = s.ssu ∧
    (holdPower b s).lpd = s.lpd ∧ (holdPower b s).mu = s.mu ∧ (holdPower b s).cr = s.cr ∧
    (holdPower b s).sgc = s.sgc ∧ (holdPower b s).sdu = s.sdu ∧ (holdPower b s).re.slotA = s.re.slotA ∧
    (holdPower b s).re.slotB = s.re.slotB ∧ (holdPower b s).re.running = s.re.running ∧
    (holdPower b s).re.queued = s.re.queued ∧ (holdPower b s).re.context = s.re.context ∧
    (holdPower b s).re.repeats = s.re.repeats ∧ (holdPower b s).pu = s.pu := by
  unfold holdPower; (repeat' split) <;> simp

@[simp] theorem holdWater_keeps (st : BoilerState) (s : State) :
    (holdWater st s).pending = s.pending ∧ (holdWater st s).run = s.run ∧ (holdWater st s).config = s.config ∧
    (holdWater st s).store = s.store ∧ (holdWater st s).second = s.second ∧ (holdWater st s).freeUses = s.freeUses ∧
    (holdWater st s).link = s.link ∧ (holdWater st s).od = s.od ∧ (holdWater st s).ssu = s.ssu ∧
    (holdWater st s).lpd = s.lpd ∧ (holdWater st s).mu = s.mu ∧ (holdWater st s).cr = s.cr ∧
    (holdWater st s).sgc = s.sgc ∧ (holdWater st s).sdu = s.sdu ∧ (holdWater st s).re.slotA = s.re.slotA ∧
    (holdWater st s).re.slotB = s.re.slotB ∧ (holdWater st s).re.running = s.re.running ∧
    (holdWater st s).re.queued = s.re.queued ∧ (holdWater st s).re.context = s.re.context ∧
    (holdWater st s).re.repeats = s.re.repeats ∧ (holdWater st s).pu = s.pu := by
  unfold holdWater; (repeat' split) <;> simp

@[simp] theorem holdTrip_keeps (k : Trip) (s : State) :
    (holdTrip k s).pending = s.pending ∧ (holdTrip k s).run = s.run ∧ (holdTrip k s).config = s.config ∧
    (holdTrip k s).store = s.store ∧ (holdTrip k s).second = s.second ∧ (holdTrip k s).freeUses = s.freeUses ∧
    (holdTrip k s).link = s.link ∧ (holdTrip k s).od = s.od ∧ (holdTrip k s).ssu = s.ssu ∧
    (holdTrip k s).lpd = s.lpd ∧ (holdTrip k s).mu = s.mu ∧ (holdTrip k s).cr = s.cr ∧ (holdTrip k s).sgc = s.sgc ∧
    (holdTrip k s).sdu = s.sdu ∧ (holdTrip k s).re.slotA = s.re.slotA ∧ (holdTrip k s).re.slotB = s.re.slotB ∧
    (holdTrip k s).re.running = s.re.running ∧ (holdTrip k s).re.queued = s.re.queued ∧
    (holdTrip k s).re.context = s.re.context ∧ (holdTrip k s).re.repeats = s.re.repeats ∧ (holdTrip k s).pu = s.pu := by
  unfold holdTrip; (repeat' split) <;> simp

end Sys2Proof.Machine
end

