-- ==== Sys2Proof/Laws/BoilerLaws.lean ====
section
/-! SUPPORT. What the steam generator controller leave as it is: for each operation, every field of State it cannot change. -/

namespace Sys2Proof.Machine

@[simp] theorem writeHeater_keeps (s : State) :
    (writeHeater s).pending = s.pending ∧ (writeHeater s).run = s.run ∧ (writeHeater s).config = s.config ∧
    (writeHeater s).store = s.store ∧ (writeHeater s).second = s.second ∧ (writeHeater s).freeUses = s.freeUses ∧
    (writeHeater s).link = s.link ∧ (writeHeater s).od = s.od ∧ (writeHeater s).ssu = s.ssu ∧
    (writeHeater s).lpd.drive = s.lpd.drive ∧ (writeHeater s).lpd.half = s.lpd.half ∧
    (writeHeater s).lpd.loads.top = s.lpd.loads.top ∧ (writeHeater s).lpd.loads.bottom = s.lpd.loads.bottom ∧
    (writeHeater s).lpd.loads.ring = s.lpd.loads.ring ∧ (writeHeater s).lpd.pool = s.lpd.pool ∧
    (writeHeater s).lpd.shed = s.lpd.shed ∧ (writeHeater s).lpd.gates = s.lpd.gates ∧
    (writeHeater s).lpd.sinceCrossing = s.lpd.sinceCrossing ∧ (writeHeater s).mu = s.mu ∧
    (writeHeater s).cr = s.cr ∧ (writeHeater s).sgc = s.sgc ∧ (writeHeater s).sdu = s.sdu ∧
    (writeHeater s).re = s.re ∧ (writeHeater s).pu = s.pu := by
  unfold writeHeater; split <;> simp [writeDemand, Loads.set]

@[simp] theorem waitWaterEvent_keeps (s : State) :
    (waitWaterEvent s).pending = s.pending ∧ (waitWaterEvent s).run = s.run ∧ (waitWaterEvent s).config = s.config ∧
    (waitWaterEvent s).store = s.store ∧ (waitWaterEvent s).second = s.second ∧
    (waitWaterEvent s).freeUses = s.freeUses ∧ (waitWaterEvent s).link = s.link ∧
    (waitWaterEvent s).od.power = s.od.power ∧ (waitWaterEvent s).od.restartPending = s.od.restartPending ∧
    (waitWaterEvent s).od.cycle = s.od.cycle ∧ (waitWaterEvent s).od.cycleTimer = s.od.cycleTimer ∧
    (waitWaterEvent s).od.eventsTimer = s.od.eventsTimer ∧ (waitWaterEvent s).od.diagTimer = s.od.diagTimer ∧
    (waitWaterEvent s).ssu = s.ssu ∧ (waitWaterEvent s).lpd = s.lpd ∧ (waitWaterEvent s).mu = s.mu ∧
    (waitWaterEvent s).cr = s.cr ∧ (waitWaterEvent s).sgc = s.sgc ∧ (waitWaterEvent s).sdu = s.sdu ∧
    (waitWaterEvent s).re = s.re ∧ (waitWaterEvent s).pu = s.pu := by
  unfold waitWaterEvent; (repeat' split) <;> simp

@[simp] theorem becomeBoiler_keeps (st : BoilerState) (s : State) :
    (becomeBoiler st s).pending = s.pending ∧ (becomeBoiler st s).run = s.run ∧
    (becomeBoiler st s).config = s.config ∧ (becomeBoiler st s).store = s.store ∧
    (becomeBoiler st s).second = s.second ∧ (becomeBoiler st s).freeUses = s.freeUses ∧
    (becomeBoiler st s).link = s.link ∧ (becomeBoiler st s).od.power = s.od.power ∧
    (becomeBoiler st s).od.restartPending = s.od.restartPending ∧ (becomeBoiler st s).od.cycle = s.od.cycle ∧
    (becomeBoiler st s).od.cycleTimer = s.od.cycleTimer ∧ (becomeBoiler st s).od.eventsTimer = s.od.eventsTimer ∧
    (becomeBoiler st s).od.diagTimer = s.od.diagTimer ∧ (becomeBoiler st s).ssu = s.ssu ∧
    (becomeBoiler st s).lpd.drive = s.lpd.drive ∧ (becomeBoiler st s).lpd.half = s.lpd.half ∧
    (becomeBoiler st s).lpd.loads.top = s.lpd.loads.top ∧
    (becomeBoiler st s).lpd.loads.bottom = s.lpd.loads.bottom ∧
    (becomeBoiler st s).lpd.loads.ring = s.lpd.loads.ring ∧ (becomeBoiler st s).lpd.pool = s.lpd.pool ∧
    (becomeBoiler st s).lpd.shed = s.lpd.shed ∧ (becomeBoiler st s).lpd.gates = s.lpd.gates ∧
    (becomeBoiler st s).lpd.sinceCrossing = s.lpd.sinceCrossing ∧ (becomeBoiler st s).mu = s.mu ∧
    (becomeBoiler st s).cr = s.cr ∧ (becomeBoiler st s).sgc.user = s.sgc.user ∧
    (becomeBoiler st s).sgc.steamWanted = s.sgc.steamWanted ∧
    (becomeBoiler st s).sgc.steamDemand = s.sgc.steamDemand ∧ (becomeBoiler st s).sgc.derate = s.sgc.derate ∧
    (becomeBoiler st s).sgc.pulses = s.sgc.pulses ∧ (becomeBoiler st s).sgc.pulseTimer = s.sgc.pulseTimer ∧
    (becomeBoiler st s).sgc.pumpDrive = s.sgc.pumpDrive ∧ (becomeBoiler st s).sgc.wait = s.sgc.wait ∧
    (becomeBoiler st s).sgc.limitMark = s.sgc.limitMark ∧ (becomeBoiler st s).sgc.coolTime = s.sgc.coolTime ∧
    (becomeBoiler st s).sgc.drainCount = s.sgc.drainCount ∧ (becomeBoiler st s).sdu = s.sdu ∧
    (becomeBoiler st s).re.slotA = s.re.slotA ∧ (becomeBoiler st s).re.slotB = s.re.slotB ∧
    (becomeBoiler st s).re.running = s.re.running ∧ (becomeBoiler st s).re.queued = s.re.queued ∧
    (becomeBoiler st s).re.context = s.re.context ∧ (becomeBoiler st s).re.repeats = s.re.repeats ∧
    (becomeBoiler st s).pu = s.pu := by
  unfold becomeBoiler; (repeat' split) <;> simp

@[simp] theorem enterWaitWater_keeps (marked : Bool) (s : State) :
    (enterWaitWater marked s).pending = s.pending ∧ (enterWaitWater marked s).run = s.run ∧
    (enterWaitWater marked s).config = s.config ∧ (enterWaitWater marked s).store = s.store ∧
    (enterWaitWater marked s).second = s.second ∧ (enterWaitWater marked s).freeUses = s.freeUses ∧
    (enterWaitWater marked s).link = s.link ∧ (enterWaitWater marked s).od.power = s.od.power ∧
    (enterWaitWater marked s).od.restartPending = s.od.restartPending ∧
    (enterWaitWater marked s).od.cycle = s.od.cycle ∧ (enterWaitWater marked s).od.cycleTimer = s.od.cycleTimer ∧
    (enterWaitWater marked s).od.eventsTimer = s.od.eventsTimer ∧
    (enterWaitWater marked s).od.diagTimer = s.od.diagTimer ∧ (enterWaitWater marked s).ssu = s.ssu ∧
    (enterWaitWater marked s).lpd.drive = s.lpd.drive ∧ (enterWaitWater marked s).lpd.half = s.lpd.half ∧
    (enterWaitWater marked s).lpd.loads.top = s.lpd.loads.top ∧
    (enterWaitWater marked s).lpd.loads.bottom = s.lpd.loads.bottom ∧
    (enterWaitWater marked s).lpd.loads.ring = s.lpd.loads.ring ∧ (enterWaitWater marked s).lpd.pool = s.lpd.pool ∧
    (enterWaitWater marked s).lpd.shed = s.lpd.shed ∧ (enterWaitWater marked s).lpd.gates = s.lpd.gates ∧
    (enterWaitWater marked s).lpd.sinceCrossing = s.lpd.sinceCrossing ∧ (enterWaitWater marked s).mu = s.mu ∧
    (enterWaitWater marked s).cr = s.cr ∧ (enterWaitWater marked s).sgc.user = s.sgc.user ∧
    (enterWaitWater marked s).sgc.steamWanted = s.sgc.steamWanted ∧
    (enterWaitWater marked s).sgc.steamDemand = s.sgc.steamDemand ∧
    (enterWaitWater marked s).sgc.derate = s.sgc.derate ∧ (enterWaitWater marked s).sgc.pulses = s.sgc.pulses ∧
    (enterWaitWater marked s).sgc.pumpDrive = s.sgc.pumpDrive ∧
    (enterWaitWater marked s).sgc.coolTime = s.sgc.coolTime ∧
    (enterWaitWater marked s).sgc.drainCount = s.sgc.drainCount ∧ (enterWaitWater marked s).sdu = s.sdu ∧
    (enterWaitWater marked s).re.slotA = s.re.slotA ∧ (enterWaitWater marked s).re.slotB = s.re.slotB ∧
    (enterWaitWater marked s).re.running = s.re.running ∧ (enterWaitWater marked s).re.queued = s.re.queued ∧
    (enterWaitWater marked s).re.context = s.re.context ∧ (enterWaitWater marked s).re.repeats = s.re.repeats ∧
    (enterWaitWater marked s).pu = s.pu := by
  unfold enterWaitWater; (repeat' split) <;> simp

@[simp] theorem givePulse_keeps (s : State) :
    (givePulse s).pending = s.pending ∧ (givePulse s).run = s.run ∧ (givePulse s).config = s.config ∧
    (givePulse s).store = s.store ∧ (givePulse s).second = s.second ∧ (givePulse s).freeUses = s.freeUses ∧
    (givePulse s).link = s.link ∧ (givePulse s).od.power = s.od.power ∧
    (givePulse s).od.restartPending = s.od.restartPending ∧ (givePulse s).od.cycle = s.od.cycle ∧
    (givePulse s).od.cycleTimer = s.od.cycleTimer ∧ (givePulse s).od.eventsTimer = s.od.eventsTimer ∧
    (givePulse s).od.diagTimer = s.od.diagTimer ∧ (givePulse s).ssu = s.ssu ∧
    (givePulse s).lpd.drive = s.lpd.drive ∧ (givePulse s).lpd.half = s.lpd.half ∧
    (givePulse s).lpd.loads.top = s.lpd.loads.top ∧ (givePulse s).lpd.loads.bottom = s.lpd.loads.bottom ∧
    (givePulse s).lpd.loads.ring = s.lpd.loads.ring ∧ (givePulse s).lpd.pool = s.lpd.pool ∧
    (givePulse s).lpd.shed = s.lpd.shed ∧ (givePulse s).lpd.gates = s.lpd.gates ∧
    (givePulse s).lpd.sinceCrossing = s.lpd.sinceCrossing ∧ (givePulse s).mu = s.mu ∧ (givePulse s).cr = s.cr ∧
    (givePulse s).sgc.user = s.sgc.user ∧ (givePulse s).sgc.steamWanted = s.sgc.steamWanted ∧
    (givePulse s).sgc.steamDemand = s.sgc.steamDemand ∧ (givePulse s).sgc.derate = s.sgc.derate ∧
    (givePulse s).sgc.coolTime = s.sgc.coolTime ∧ (givePulse s).sgc.drainCount = s.sgc.drainCount ∧
    (givePulse s).sdu.account = s.sdu.account ∧ (givePulse s).sdu.hardness = s.sdu.hardness ∧
    (givePulse s).sdu.mark = s.sdu.mark ∧ (givePulse s).sdu.phase = s.sdu.phase ∧
    (givePulse s).sdu.lockingFrom = s.sdu.lockingFrom ∧ (givePulse s).sdu.soakCount = s.sdu.soakCount ∧
    (givePulse s).sdu.rinseCycle = s.sdu.rinseCycle ∧ (givePulse s).sdu.rinseStep = s.sdu.rinseStep ∧
    (givePulse s).sdu.heatingTime = s.sdu.heatingTime ∧ (givePulse s).sdu.drained = s.sdu.drained ∧
    (givePulse s).sdu.writing = s.sdu.writing ∧ (givePulse s).sdu.writeTimer = s.sdu.writeTimer ∧
    (givePulse s).sdu.rewritePending = s.sdu.rewritePending ∧ (givePulse s).sdu.retry = s.sdu.retry ∧
    (givePulse s).sdu.failures = s.sdu.failures ∧ (givePulse s).re.slotA = s.re.slotA ∧
    (givePulse s).re.slotB = s.re.slotB ∧ (givePulse s).re.running = s.re.running ∧
    (givePulse s).re.queued = s.re.queued ∧ (givePulse s).re.context = s.re.context ∧
    (givePulse s).re.repeats = s.re.repeats ∧ (givePulse s).pu = s.pu := by
  unfold givePulse; dsimp only; (repeat' split) <;> simp

@[simp] theorem judgePump_keeps (s : State) :
    (judgePump s).pending = s.pending ∧ (judgePump s).run = s.run ∧ (judgePump s).config = s.config ∧
    (judgePump s).store = s.store ∧ (judgePump s).second = s.second ∧ (judgePump s).freeUses = s.freeUses ∧
    (judgePump s).link = s.link ∧ (judgePump s).od.power = s.od.power ∧
    (judgePump s).od.restartPending = s.od.restartPending ∧ (judgePump s).od.cycle = s.od.cycle ∧
    (judgePump s).od.cycleTimer = s.od.cycleTimer ∧ (judgePump s).od.eventsTimer = s.od.eventsTimer ∧
    (judgePump s).od.diagTimer = s.od.diagTimer ∧ (judgePump s).ssu = s.ssu ∧
    (judgePump s).lpd.drive = s.lpd.drive ∧ (judgePump s).lpd.half = s.lpd.half ∧
    (judgePump s).lpd.loads.top = s.lpd.loads.top ∧ (judgePump s).lpd.loads.bottom = s.lpd.loads.bottom ∧
    (judgePump s).lpd.loads.ring = s.lpd.loads.ring ∧ (judgePump s).lpd.pool = s.lpd.pool ∧
    (judgePump s).lpd.shed = s.lpd.shed ∧ (judgePump s).lpd.gates = s.lpd.gates ∧
    (judgePump s).lpd.sinceCrossing = s.lpd.sinceCrossing ∧ (judgePump s).mu = s.mu ∧ (judgePump s).cr = s.cr ∧
    (judgePump s).sgc.user = s.sgc.user ∧ (judgePump s).sgc.steamWanted = s.sgc.steamWanted ∧
    (judgePump s).sgc.steamDemand = s.sgc.steamDemand ∧ (judgePump s).sgc.derate = s.sgc.derate ∧
    (judgePump s).sgc.coolTime = s.sgc.coolTime ∧ (judgePump s).sgc.drainCount = s.sgc.drainCount ∧
    (judgePump s).sdu.account = s.sdu.account ∧ (judgePump s).sdu.hardness = s.sdu.hardness ∧
    (judgePump s).sdu.mark = s.sdu.mark ∧ (judgePump s).sdu.phase = s.sdu.phase ∧
    (judgePump s).sdu.lockingFrom = s.sdu.lockingFrom ∧ (judgePump s).sdu.soakCount = s.sdu.soakCount ∧
    (judgePump s).sdu.rinseCycle = s.sdu.rinseCycle ∧ (judgePump s).sdu.rinseStep = s.sdu.rinseStep ∧
    (judgePump s).sdu.heatingTime = s.sdu.heatingTime ∧ (judgePump s).sdu.drained = s.sdu.drained ∧
    (judgePump s).sdu.writing = s.sdu.writing ∧ (judgePump s).sdu.writeTimer = s.sdu.writeTimer ∧
    (judgePump s).sdu.rewritePending = s.sdu.rewritePending ∧ (judgePump s).sdu.retry = s.sdu.retry ∧
    (judgePump s).sdu.failures = s.sdu.failures ∧ (judgePump s).re.slotA = s.re.slotA ∧
    (judgePump s).re.slotB = s.re.slotB ∧ (judgePump s).re.running = s.re.running ∧
    (judgePump s).re.queued = s.re.queued ∧ (judgePump s).re.context = s.re.context ∧
    (judgePump s).re.repeats = s.re.repeats ∧ (judgePump s).pu = s.pu := by
  unfold judgePump; (repeat' split) <;> simp

@[simp] theorem startFill_keeps (st : BoilerState) (s : State) :
    (startFill st s).pending = s.pending ∧ (startFill st s).run = s.run ∧ (startFill st s).config = s.config ∧
    (startFill st s).store = s.store ∧ (startFill st s).second = s.second ∧ (startFill st s).freeUses = s.freeUses ∧
    (startFill st s).link = s.link ∧ (startFill st s).od.power = s.od.power ∧
    (startFill st s).od.restartPending = s.od.restartPending ∧ (startFill st s).od.cycle = s.od.cycle ∧
    (startFill st s).od.cycleTimer = s.od.cycleTimer ∧ (startFill st s).od.eventsTimer = s.od.eventsTimer ∧
    (startFill st s).od.diagTimer = s.od.diagTimer ∧ (startFill st s).ssu = s.ssu ∧
    (startFill st s).lpd.drive = s.lpd.drive ∧ (startFill st s).lpd.half = s.lpd.half ∧
    (startFill st s).lpd.loads.top = s.lpd.loads.top ∧ (startFill st s).lpd.loads.bottom = s.lpd.loads.bottom ∧
    (startFill st s).lpd.loads.ring = s.lpd.loads.ring ∧ (startFill st s).lpd.pool = s.lpd.pool ∧
    (startFill st s).lpd.shed = s.lpd.shed ∧ (startFill st s).lpd.gates = s.lpd.gates ∧
    (startFill st s).lpd.sinceCrossing = s.lpd.sinceCrossing ∧ (startFill st s).mu = s.mu ∧
    (startFill st s).cr = s.cr ∧ (startFill st s).sgc.user = s.sgc.user ∧
    (startFill st s).sgc.steamWanted = s.sgc.steamWanted ∧ (startFill st s).sgc.steamDemand = s.sgc.steamDemand ∧
    (startFill st s).sgc.derate = s.sgc.derate ∧ (startFill st s).sgc.coolTime = s.sgc.coolTime ∧
    (startFill st s).sgc.drainCount = s.sgc.drainCount ∧ (startFill st s).sdu.account = s.sdu.account ∧
    (startFill st s).sdu.hardness = s.sdu.hardness ∧ (startFill st s).sdu.mark = s.sdu.mark ∧
    (startFill st s).sdu.phase = s.sdu.phase ∧ (startFill st s).sdu.lockingFrom = s.sdu.lockingFrom ∧
    (startFill st s).sdu.soakCount = s.sdu.soakCount ∧ (startFill st s).sdu.rinseCycle = s.sdu.rinseCycle ∧
    (startFill st s).sdu.rinseStep = s.sdu.rinseStep ∧ (startFill st s).sdu.heatingTime = s.sdu.heatingTime ∧
    (startFill st s).sdu.drained = s.sdu.drained ∧ (startFill st s).sdu.writing = s.sdu.writing ∧
    (startFill st s).sdu.writeTimer = s.sdu.writeTimer ∧
    (startFill st s).sdu.rewritePending = s.sdu.rewritePending ∧ (startFill st s).sdu.retry = s.sdu.retry ∧
    (startFill st s).sdu.failures = s.sdu.failures ∧ (startFill st s).re.slotA = s.re.slotA ∧
    (startFill st s).re.slotB = s.re.slotB ∧ (startFill st s).re.running = s.re.running ∧
    (startFill st s).re.queued = s.re.queued ∧ (startFill st s).re.context = s.re.context ∧
    (startFill st s).re.repeats = s.re.repeats ∧ (startFill st s).pu = s.pu := by
  unfold startFill; (repeat' split) <;> simp

@[simp] theorem enterSteam_keeps (s : State) :
    (enterSteam s).pending = s.pending ∧ (enterSteam s).run = s.run ∧ (enterSteam s).config = s.config ∧
    (enterSteam s).store = s.store ∧ (enterSteam s).second = s.second ∧ (enterSteam s).freeUses = s.freeUses ∧
    (enterSteam s).link = s.link ∧ (enterSteam s).od.power = s.od.power ∧
    (enterSteam s).od.restartPending = s.od.restartPending ∧ (enterSteam s).od.cycle = s.od.cycle ∧
    (enterSteam s).od.cycleTimer = s.od.cycleTimer ∧ (enterSteam s).od.eventsTimer = s.od.eventsTimer ∧
    (enterSteam s).od.diagTimer = s.od.diagTimer ∧ (enterSteam s).ssu = s.ssu ∧
    (enterSteam s).lpd.drive = s.lpd.drive ∧ (enterSteam s).lpd.half = s.lpd.half ∧
    (enterSteam s).lpd.loads.top = s.lpd.loads.top ∧ (enterSteam s).lpd.loads.bottom = s.lpd.loads.bottom ∧
    (enterSteam s).lpd.loads.ring = s.lpd.loads.ring ∧ (enterSteam s).lpd.pool = s.lpd.pool ∧
    (enterSteam s).lpd.shed = s.lpd.shed ∧ (enterSteam s).lpd.gates = s.lpd.gates ∧
    (enterSteam s).lpd.sinceCrossing = s.lpd.sinceCrossing ∧ (enterSteam s).mu = s.mu ∧ (enterSteam s).cr = s.cr ∧
    (enterSteam s).sgc.user = s.sgc.user ∧ (enterSteam s).sgc.steamWanted = s.sgc.steamWanted ∧
    (enterSteam s).sgc.steamDemand = s.sgc.steamDemand ∧ (enterSteam s).sgc.derate = s.sgc.derate ∧
    (enterSteam s).sgc.pulses = s.sgc.pulses ∧ (enterSteam s).sgc.pumpDrive = s.sgc.pumpDrive ∧
    (enterSteam s).sgc.wait = s.sgc.wait ∧ (enterSteam s).sgc.limitMark = s.sgc.limitMark ∧
    (enterSteam s).sgc.coolTime = s.sgc.coolTime ∧ (enterSteam s).sgc.drainCount = s.sgc.drainCount ∧
    (enterSteam s).sdu = s.sdu ∧ (enterSteam s).re.slotA = s.re.slotA ∧ (enterSteam s).re.slotB = s.re.slotB ∧
    (enterSteam s).re.running = s.re.running ∧ (enterSteam s).re.queued = s.re.queued ∧
    (enterSteam s).re.context = s.re.context ∧ (enterSteam s).re.repeats = s.re.repeats ∧ (enterSteam s).pu = s.pu := by
  unfold enterSteam; (repeat' split) <;> simp

@[simp] theorem enterHeat_keeps (s : State) :
    (enterHeat s).pending = s.pending ∧ (enterHeat s).run = s.run ∧ (enterHeat s).config = s.config ∧
    (enterHeat s).store = s.store ∧ (enterHeat s).second = s.second ∧ (enterHeat s).freeUses = s.freeUses ∧
    (enterHeat s).link = s.link ∧ (enterHeat s).od.power = s.od.power ∧
    (enterHeat s).od.restartPending = s.od.restartPending ∧ (enterHeat s).od.cycle = s.od.cycle ∧
    (enterHeat s).od.cycleTimer = s.od.cycleTimer ∧ (enterHeat s).od.eventsTimer = s.od.eventsTimer ∧
    (enterHeat s).od.diagTimer = s.od.diagTimer ∧ (enterHeat s).ssu = s.ssu ∧
    (enterHeat s).lpd.drive = s.lpd.drive ∧ (enterHeat s).lpd.half = s.lpd.half ∧
    (enterHeat s).lpd.loads.top = s.lpd.loads.top ∧ (enterHeat s).lpd.loads.bottom = s.lpd.loads.bottom ∧
    (enterHeat s).lpd.loads.ring = s.lpd.loads.ring ∧ (enterHeat s).lpd.pool = s.lpd.pool ∧
    (enterHeat s).lpd.shed = s.lpd.shed ∧ (enterHeat s).lpd.gates = s.lpd.gates ∧
    (enterHeat s).lpd.sinceCrossing = s.lpd.sinceCrossing ∧ (enterHeat s).mu = s.mu ∧ (enterHeat s).cr = s.cr ∧
    (enterHeat s).sgc.user = s.sgc.user ∧ (enterHeat s).sgc.steamWanted = s.sgc.steamWanted ∧
    (enterHeat s).sgc.steamDemand = s.sgc.steamDemand ∧ (enterHeat s).sgc.derate = s.sgc.derate ∧
    (enterHeat s).sgc.coolTime = s.sgc.coolTime ∧ (enterHeat s).sgc.drainCount = s.sgc.drainCount ∧
    (enterHeat s).sdu.account = s.sdu.account ∧ (enterHeat s).sdu.hardness = s.sdu.hardness ∧
    (enterHeat s).sdu.mark = s.sdu.mark ∧ (enterHeat s).sdu.phase = s.sdu.phase ∧
    (enterHeat s).sdu.lockingFrom = s.sdu.lockingFrom ∧ (enterHeat s).sdu.soakCount = s.sdu.soakCount ∧
    (enterHeat s).sdu.rinseCycle = s.sdu.rinseCycle ∧ (enterHeat s).sdu.rinseStep = s.sdu.rinseStep ∧
    (enterHeat s).sdu.heatingTime = s.sdu.heatingTime ∧ (enterHeat s).sdu.drained = s.sdu.drained ∧
    (enterHeat s).sdu.writing = s.sdu.writing ∧ (enterHeat s).sdu.writeTimer = s.sdu.writeTimer ∧
    (enterHeat s).sdu.rewritePending = s.sdu.rewritePending ∧ (enterHeat s).sdu.retry = s.sdu.retry ∧
    (enterHeat s).sdu.failures = s.sdu.failures ∧ (enterHeat s).re.slotA = s.re.slotA ∧
    (enterHeat s).re.slotB = s.re.slotB ∧ (enterHeat s).re.running = s.re.running ∧
    (enterHeat s).re.queued = s.re.queued ∧ (enterHeat s).re.context = s.re.context ∧
    (enterHeat s).re.repeats = s.re.repeats ∧ (enterHeat s).pu = s.pu := by
  unfold enterHeat; (repeat' split) <;> simp

@[simp] theorem enterFill_keeps (s : State) :
    (enterFill s).pending = s.pending ∧ (enterFill s).run = s.run ∧ (enterFill s).config = s.config ∧
    (enterFill s).store = s.store ∧ (enterFill s).second = s.second ∧ (enterFill s).freeUses = s.freeUses ∧
    (enterFill s).link = s.link ∧ (enterFill s).od.power = s.od.power ∧
    (enterFill s).od.restartPending = s.od.restartPending ∧ (enterFill s).od.cycle = s.od.cycle ∧
    (enterFill s).od.cycleTimer = s.od.cycleTimer ∧ (enterFill s).od.eventsTimer = s.od.eventsTimer ∧
    (enterFill s).od.diagTimer = s.od.diagTimer ∧ (enterFill s).ssu = s.ssu ∧
    (enterFill s).lpd.drive = s.lpd.drive ∧ (enterFill s).lpd.half = s.lpd.half ∧
    (enterFill s).lpd.loads.top = s.lpd.loads.top ∧ (enterFill s).lpd.loads.bottom = s.lpd.loads.bottom ∧
    (enterFill s).lpd.loads.ring = s.lpd.loads.ring ∧ (enterFill s).lpd.pool = s.lpd.pool ∧
    (enterFill s).lpd.shed = s.lpd.shed ∧ (enterFill s).lpd.gates = s.lpd.gates ∧
    (enterFill s).lpd.sinceCrossing = s.lpd.sinceCrossing ∧ (enterFill s).mu = s.mu ∧ (enterFill s).cr = s.cr ∧
    (enterFill s).sgc.user = s.sgc.user ∧ (enterFill s).sgc.steamWanted = s.sgc.steamWanted ∧
    (enterFill s).sgc.steamDemand = s.sgc.steamDemand ∧ (enterFill s).sgc.derate = s.sgc.derate ∧
    (enterFill s).sdu.account = s.sdu.account ∧ (enterFill s).sdu.hardness = s.sdu.hardness ∧
    (enterFill s).sdu.mark = s.sdu.mark ∧ (enterFill s).sdu.phase = s.sdu.phase ∧
    (enterFill s).sdu.lockingFrom = s.sdu.lockingFrom ∧ (enterFill s).sdu.soakCount = s.sdu.soakCount ∧
    (enterFill s).sdu.rinseCycle = s.sdu.rinseCycle ∧ (enterFill s).sdu.rinseStep = s.sdu.rinseStep ∧
    (enterFill s).sdu.heatingTime = s.sdu.heatingTime ∧ (enterFill s).sdu.drained = s.sdu.drained ∧
    (enterFill s).sdu.writing = s.sdu.writing ∧ (enterFill s).sdu.writeTimer = s.sdu.writeTimer ∧
    (enterFill s).sdu.rewritePending = s.sdu.rewritePending ∧ (enterFill s).sdu.retry = s.sdu.retry ∧
    (enterFill s).sdu.failures = s.sdu.failures ∧ (enterFill s).re.slotA = s.re.slotA ∧
    (enterFill s).re.slotB = s.re.slotB ∧ (enterFill s).re.running = s.re.running ∧
    (enterFill s).re.queued = s.re.queued ∧ (enterFill s).re.context = s.re.context ∧
    (enterFill s).re.repeats = s.re.repeats ∧ (enterFill s).pu = s.pu := by
  unfold enterFill; (repeat' split) <;> simp

@[simp] theorem stopFill_keeps (s : State) :
    (stopFill s).pending = s.pending ∧ (stopFill s).run = s.run ∧ (stopFill s).config = s.config ∧
    (stopFill s).store = s.store ∧ (stopFill s).second = s.second ∧ (stopFill s).freeUses = s.freeUses ∧
    (stopFill s).link = s.link ∧ (stopFill s).od = s.od ∧ (stopFill s).ssu = s.ssu ∧
    (stopFill s).lpd = s.lpd ∧ (stopFill s).mu = s.mu ∧ (stopFill s).cr = s.cr ∧
    (stopFill s).sgc.state = s.sgc.state ∧ (stopFill s).sgc.user = s.sgc.user ∧
    (stopFill s).sgc.steamWanted = s.sgc.steamWanted ∧ (stopFill s).sgc.steamDemand = s.sgc.steamDemand ∧
    (stopFill s).sgc.derate = s.sgc.derate ∧ (stopFill s).sgc.pumpDrive = s.sgc.pumpDrive ∧
    (stopFill s).sgc.pulses = s.sgc.pulses ∧ (stopFill s).sgc.coolTime = s.sgc.coolTime ∧ (stopFill s).sgc.drainCount = s.sgc.drainCount ∧
    (stopFill s).sdu = s.sdu ∧ (stopFill s).re = s.re ∧ (stopFill s).pu = s.pu := by
  simp [stopFill]

@[simp] theorem discardFill_keeps (s : State) :
    (discardFill s).pending = s.pending ∧ (discardFill s).run = s.run ∧ (discardFill s).config = s.config ∧
    (discardFill s).store = s.store ∧ (discardFill s).second = s.second ∧ (discardFill s).freeUses = s.freeUses ∧
    (discardFill s).link = s.link ∧ (discardFill s).od = s.od ∧ (discardFill s).ssu = s.ssu ∧
    (discardFill s).lpd = s.lpd ∧ (discardFill s).mu = s.mu ∧ (discardFill s).cr = s.cr ∧
    (discardFill s).sgc.state = s.sgc.state ∧ (discardFill s).sgc.user = s.sgc.user ∧
    (discardFill s).sgc.steamWanted = s.sgc.steamWanted ∧ (discardFill s).sgc.steamDemand = s.sgc.steamDemand ∧
    (discardFill s).sgc.derate = s.sgc.derate ∧ (discardFill s).sgc.pumpDrive = s.sgc.pumpDrive ∧
    (discardFill s).sgc.coolTime = s.sgc.coolTime ∧ (discardFill s).sgc.drainCount = s.sgc.drainCount ∧
    (discardFill s).sdu = s.sdu ∧ (discardFill s).re = s.re ∧ (discardFill s).pu = s.pu := by
  simp [discardFill]

@[simp] theorem enterCool_keeps (s : State) :
    (enterCool s).pending = s.pending ∧ (enterCool s).run = s.run ∧ (enterCool s).config = s.config ∧
    (enterCool s).store = s.store ∧ (enterCool s).second = s.second ∧ (enterCool s).freeUses = s.freeUses ∧
    (enterCool s).link = s.link ∧ (enterCool s).od.power = s.od.power ∧
    (enterCool s).od.restartPending = s.od.restartPending ∧ (enterCool s).od.cycle = s.od.cycle ∧
    (enterCool s).od.cycleTimer = s.od.cycleTimer ∧ (enterCool s).od.eventsTimer = s.od.eventsTimer ∧
    (enterCool s).od.diagTimer = s.od.diagTimer ∧ (enterCool s).ssu = s.ssu ∧
    (enterCool s).lpd.drive = s.lpd.drive ∧ (enterCool s).lpd.half = s.lpd.half ∧
    (enterCool s).lpd.loads.top = s.lpd.loads.top ∧ (enterCool s).lpd.loads.bottom = s.lpd.loads.bottom ∧
    (enterCool s).lpd.loads.ring = s.lpd.loads.ring ∧ (enterCool s).lpd.pool = s.lpd.pool ∧
    (enterCool s).lpd.shed = s.lpd.shed ∧ (enterCool s).lpd.gates = s.lpd.gates ∧
    (enterCool s).lpd.sinceCrossing = s.lpd.sinceCrossing ∧ (enterCool s).mu = s.mu ∧ (enterCool s).cr = s.cr ∧
    (enterCool s).sgc.user = s.sgc.user ∧ (enterCool s).sgc.steamWanted = s.sgc.steamWanted ∧
    (enterCool s).sgc.steamDemand = s.sgc.steamDemand ∧ (enterCool s).sgc.derate = s.sgc.derate ∧
    (enterCool s).sgc.pumpDrive = s.sgc.pumpDrive ∧ (enterCool s).sgc.drainCount = s.sgc.drainCount ∧
    (enterCool s).sdu.account = s.sdu.account ∧ (enterCool s).sdu.hardness = s.sdu.hardness ∧
    (enterCool s).sdu.mark = s.sdu.mark ∧ (enterCool s).sdu.meteringSum = s.sdu.meteringSum ∧
    (enterCool s).sdu.phase = s.sdu.phase ∧ (enterCool s).sdu.lockingFrom = s.sdu.lockingFrom ∧
    (enterCool s).sdu.soakCount = s.sdu.soakCount ∧ (enterCool s).sdu.rinseCycle = s.sdu.rinseCycle ∧
    (enterCool s).sdu.rinseStep = s.sdu.rinseStep ∧ (enterCool s).sdu.heatingTime = s.sdu.heatingTime ∧
    (enterCool s).sdu.drained = s.sdu.drained ∧ (enterCool s).sdu.retry = s.sdu.retry ∧
    (enterCool s).sdu.failures = s.sdu.failures ∧ (enterCool s).re.slotA = s.re.slotA ∧
    (enterCool s).re.slotB = s.re.slotB ∧ (enterCool s).re.running = s.re.running ∧
    (enterCool s).re.queued = s.re.queued ∧ (enterCool s).re.context = s.re.context ∧
    (enterCool s).re.repeats = s.re.repeats ∧ (enterCool s).pu = s.pu := by
  unfold enterCool; (repeat' split) <;> simp

@[simp] theorem enterDrain_keeps (s : State) :
    (enterDrain s).pending = s.pending ∧ (enterDrain s).run = s.run ∧ (enterDrain s).config = s.config ∧
    (enterDrain s).store = s.store ∧ (enterDrain s).second = s.second ∧ (enterDrain s).freeUses = s.freeUses ∧
    (enterDrain s).link = s.link ∧ (enterDrain s).od.power = s.od.power ∧
    (enterDrain s).od.restartPending = s.od.restartPending ∧ (enterDrain s).od.cycle = s.od.cycle ∧
    (enterDrain s).od.cycleTimer = s.od.cycleTimer ∧ (enterDrain s).od.eventsTimer = s.od.eventsTimer ∧
    (enterDrain s).od.diagTimer = s.od.diagTimer ∧ (enterDrain s).ssu = s.ssu ∧
    (enterDrain s).lpd.drive = s.lpd.drive ∧ (enterDrain s).lpd.half = s.lpd.half ∧
    (enterDrain s).lpd.loads.top = s.lpd.loads.top ∧ (enterDrain s).lpd.loads.bottom = s.lpd.loads.bottom ∧
    (enterDrain s).lpd.loads.ring = s.lpd.loads.ring ∧ (enterDrain s).lpd.pool = s.lpd.pool ∧
    (enterDrain s).lpd.shed = s.lpd.shed ∧ (enterDrain s).lpd.gates = s.lpd.gates ∧
    (enterDrain s).lpd.sinceCrossing = s.lpd.sinceCrossing ∧ (enterDrain s).mu = s.mu ∧ (enterDrain s).cr = s.cr ∧
    (enterDrain s).sgc.user = s.sgc.user ∧ (enterDrain s).sgc.steamWanted = s.sgc.steamWanted ∧
    (enterDrain s).sgc.steamDemand = s.sgc.steamDemand ∧ (enterDrain s).sgc.derate = s.sgc.derate ∧
    (enterDrain s).sgc.pulses = s.sgc.pulses ∧ (enterDrain s).sgc.pumpDrive = s.sgc.pumpDrive ∧ (enterDrain s).sdu = s.sdu ∧
    (enterDrain s).re.slotA = s.re.slotA ∧ (enterDrain s).re.slotB = s.re.slotB ∧
    (enterDrain s).re.running = s.re.running ∧ (enterDrain s).re.queued = s.re.queued ∧
    (enterDrain s).re.context = s.re.context ∧ (enterDrain s).re.repeats = s.re.repeats ∧ (enterDrain s).pu = s.pu := by
  unfold enterDrain; (repeat' split) <;> simp

@[simp] theorem enterOff_keeps (s : State) :
    (enterOff s).pending = s.pending ∧ (enterOff s).run = s.run ∧ (enterOff s).config = s.config ∧
    (enterOff s).store = s.store ∧ (enterOff s).second = s.second ∧ (enterOff s).freeUses = s.freeUses ∧
    (enterOff s).link = s.link ∧ (enterOff s).od.power = s.od.power ∧
    (enterOff s).od.restartPending = s.od.restartPending ∧ (enterOff s).od.cycle = s.od.cycle ∧
    (enterOff s).od.cycleTimer = s.od.cycleTimer ∧ (enterOff s).od.eventsTimer = s.od.eventsTimer ∧
    (enterOff s).od.diagTimer = s.od.diagTimer ∧ (enterOff s).ssu = s.ssu ∧ (enterOff s).lpd.drive = s.lpd.drive ∧
    (enterOff s).lpd.half = s.lpd.half ∧ (enterOff s).lpd.loads.top = s.lpd.loads.top ∧
    (enterOff s).lpd.loads.bottom = s.lpd.loads.bottom ∧ (enterOff s).lpd.loads.ring = s.lpd.loads.ring ∧
    (enterOff s).lpd.pool = s.lpd.pool ∧ (enterOff s).lpd.shed = s.lpd.shed ∧ (enterOff s).lpd.gates = s.lpd.gates ∧
    (enterOff s).lpd.sinceCrossing = s.lpd.sinceCrossing ∧ (enterOff s).mu = s.mu ∧ (enterOff s).cr = s.cr ∧
    (enterOff s).sgc.user = s.sgc.user ∧ (enterOff s).sgc.steamWanted = s.sgc.steamWanted ∧
    (enterOff s).sgc.steamDemand = s.sgc.steamDemand ∧ (enterOff s).sgc.derate = s.sgc.derate ∧
    (enterOff s).sdu.account = s.sdu.account ∧ (enterOff s).sdu.hardness = s.sdu.hardness ∧
    (enterOff s).sdu.mark = s.sdu.mark ∧ (enterOff s).sdu.phase = s.sdu.phase ∧
    (enterOff s).sdu.lockingFrom = s.sdu.lockingFrom ∧ (enterOff s).sdu.soakCount = s.sdu.soakCount ∧
    (enterOff s).sdu.rinseCycle = s.sdu.rinseCycle ∧ (enterOff s).sdu.rinseStep = s.sdu.rinseStep ∧
    (enterOff s).sdu.heatingTime = s.sdu.heatingTime ∧ (enterOff s).sdu.drained = s.sdu.drained ∧
    (enterOff s).sdu.writing = s.sdu.writing ∧ (enterOff s).sdu.writeTimer = s.sdu.writeTimer ∧
    (enterOff s).sdu.rewritePending = s.sdu.rewritePending ∧ (enterOff s).sdu.retry = s.sdu.retry ∧
    (enterOff s).sdu.failures = s.sdu.failures ∧ (enterOff s).re.slotA = s.re.slotA ∧
    (enterOff s).re.slotB = s.re.slotB ∧ (enterOff s).re.running = s.re.running ∧
    (enterOff s).re.queued = s.re.queued ∧ (enterOff s).re.context = s.re.context ∧
    (enterOff s).re.repeats = s.re.repeats ∧ (enterOff s).pu = s.pu := by
  unfold enterOff; (repeat' split) <;> simp

@[simp] theorem enterDryFault_keeps (s : State) :
    (enterDryFault s).pending = s.pending ∧ (enterDryFault s).run = s.run ∧ (enterDryFault s).config = s.config ∧
    (enterDryFault s).store = s.store ∧ (enterDryFault s).second = s.second ∧
    (enterDryFault s).freeUses = s.freeUses ∧ (enterDryFault s).link = s.link ∧
    (enterDryFault s).od.power = s.od.power ∧ (enterDryFault s).od.restartPending = s.od.restartPending ∧
    (enterDryFault s).od.cycle = s.od.cycle ∧ (enterDryFault s).od.cycleTimer = s.od.cycleTimer ∧
    (enterDryFault s).od.eventsTimer = s.od.eventsTimer ∧ (enterDryFault s).od.diagTimer = s.od.diagTimer ∧
    (enterDryFault s).ssu = s.ssu ∧ (enterDryFault s).lpd.drive = s.lpd.drive ∧
    (enterDryFault s).lpd.half = s.lpd.half ∧ (enterDryFault s).lpd.loads.top = s.lpd.loads.top ∧
    (enterDryFault s).lpd.loads.bottom = s.lpd.loads.bottom ∧ (enterDryFault s).lpd.loads.ring = s.lpd.loads.ring ∧
    (enterDryFault s).lpd.pool = s.lpd.pool ∧ (enterDryFault s).lpd.shed = s.lpd.shed ∧
    (enterDryFault s).lpd.gates = s.lpd.gates ∧ (enterDryFault s).lpd.sinceCrossing = s.lpd.sinceCrossing ∧
    (enterDryFault s).mu = s.mu ∧ (enterDryFault s).cr = s.cr ∧ (enterDryFault s).sgc.user = s.sgc.user ∧
    (enterDryFault s).sgc.steamWanted = s.sgc.steamWanted ∧ (enterDryFault s).sgc.steamDemand = s.sgc.steamDemand ∧
    (enterDryFault s).sgc.derate = s.sgc.derate ∧ (enterDryFault s).sgc.pumpDrive = s.sgc.pumpDrive ∧
    (enterDryFault s).sdu = s.sdu ∧ (enterDryFault s).re.slotA = s.re.slotA ∧
    (enterDryFault s).re.slotB = s.re.slotB ∧ (enterDryFault s).re.running = s.re.running ∧
    (enterDryFault s).re.queued = s.re.queued ∧ (enterDryFault s).re.context = s.re.context ∧
    (enterDryFault s).re.repeats = s.re.repeats ∧ (enterDryFault s).pu = s.pu := by
  unfold enterDryFault; (repeat' split) <;> simp

@[simp] theorem handSteamDemand_keeps (d : Nat) (s : State) :
    (handSteamDemand d s).pending = s.pending ∧ (handSteamDemand d s).run = s.run ∧
    (handSteamDemand d s).config = s.config ∧ (handSteamDemand d s).store = s.store ∧
    (handSteamDemand d s).second = s.second ∧ (handSteamDemand d s).freeUses = s.freeUses ∧
    (handSteamDemand d s).link = s.link ∧ (handSteamDemand d s).od = s.od ∧ (handSteamDemand d s).ssu = s.ssu ∧
    (handSteamDemand d s).lpd.drive = s.lpd.drive ∧ (handSteamDemand d s).lpd.half = s.lpd.half ∧
    (handSteamDemand d s).lpd.loads.top = s.lpd.loads.top ∧
    (handSteamDemand d s).lpd.loads.bottom = s.lpd.loads.bottom ∧
    (handSteamDemand d s).lpd.loads.ring = s.lpd.loads.ring ∧ (handSteamDemand d s).lpd.pool = s.lpd.pool ∧
    (handSteamDemand d s).lpd.shed = s.lpd.shed ∧ (handSteamDemand d s).lpd.gates = s.lpd.gates ∧
    (handSteamDemand d s).lpd.sinceCrossing = s.lpd.sinceCrossing ∧ (handSteamDemand d s).mu = s.mu ∧
    (handSteamDemand d s).cr = s.cr ∧ (handSteamDemand d s).sgc.state = s.sgc.state ∧
    (handSteamDemand d s).sgc.user = s.sgc.user ∧ (handSteamDemand d s).sgc.steamWanted = s.sgc.steamWanted ∧
    (handSteamDemand d s).sgc.derate = s.sgc.derate ∧ (handSteamDemand d s).sgc.pulses = s.sgc.pulses ∧
    (handSteamDemand d s).sgc.pulseTimer = s.sgc.pulseTimer ∧
    (handSteamDemand d s).sgc.pumpDrive = s.sgc.pumpDrive ∧ (handSteamDemand d s).sgc.wait = s.sgc.wait ∧
    (handSteamDemand d s).sgc.limitMark = s.sgc.limitMark ∧ (handSteamDemand d s).sgc.coolTime = s.sgc.coolTime ∧
    (handSteamDemand d s).sgc.drainCount = s.sgc.drainCount ∧ (handSteamDemand d s).sdu = s.sdu ∧
    (handSteamDemand d s).re = s.re ∧ (handSteamDemand d s).pu = s.pu := by
  unfold handSteamDemand; (repeat' split) <;> simp

@[simp] theorem startSteam_keeps (s : State) :
    (startSteam s).pending = s.pending ∧ (startSteam s).run = s.run ∧ (startSteam s).config = s.config ∧
    (startSteam s).store = s.store ∧ (startSteam s).second = s.second ∧ (startSteam s).freeUses = s.freeUses ∧
    (startSteam s).link = s.link ∧ (startSteam s).od.power = s.od.power ∧
    (startSteam s).od.restartPending = s.od.restartPending ∧ (startSteam s).od.cycle = s.od.cycle ∧
    (startSteam s).od.cycleTimer = s.od.cycleTimer ∧ (startSteam s).od.eventsTimer = s.od.eventsTimer ∧
    (startSteam s).od.diagTimer = s.od.diagTimer ∧ (startSteam s).ssu = s.ssu ∧
    (startSteam s).lpd.drive = s.lpd.drive ∧ (startSteam s).lpd.half = s.lpd.half ∧
    (startSteam s).lpd.loads.top = s.lpd.loads.top ∧ (startSteam s).lpd.loads.bottom = s.lpd.loads.bottom ∧
    (startSteam s).lpd.loads.ring = s.lpd.loads.ring ∧ (startSteam s).lpd.pool = s.lpd.pool ∧
    (startSteam s).lpd.shed = s.lpd.shed ∧ (startSteam s).lpd.gates = s.lpd.gates ∧
    (startSteam s).lpd.sinceCrossing = s.lpd.sinceCrossing ∧ (startSteam s).mu = s.mu ∧ (startSteam s).cr = s.cr ∧
    (startSteam s).sgc.user = s.sgc.user ∧ (startSteam s).sgc.steamWanted = s.sgc.steamWanted ∧
    (startSteam s).sgc.steamDemand = s.sgc.steamDemand ∧ (startSteam s).sgc.derate = s.sgc.derate ∧
    (startSteam s).sdu.account = s.sdu.account ∧ (startSteam s).sdu.hardness = s.sdu.hardness ∧
    (startSteam s).sdu.mark = s.sdu.mark ∧ (startSteam s).sdu.phase = s.sdu.phase ∧
    (startSteam s).sdu.lockingFrom = s.sdu.lockingFrom ∧ (startSteam s).sdu.soakCount = s.sdu.soakCount ∧
    (startSteam s).sdu.rinseCycle = s.sdu.rinseCycle ∧ (startSteam s).sdu.rinseStep = s.sdu.rinseStep ∧
    (startSteam s).sdu.heatingTime = s.sdu.heatingTime ∧ (startSteam s).sdu.drained = s.sdu.drained ∧
    (startSteam s).sdu.writing = s.sdu.writing ∧ (startSteam s).sdu.writeTimer = s.sdu.writeTimer ∧
    (startSteam s).sdu.rewritePending = s.sdu.rewritePending ∧ (startSteam s).sdu.retry = s.sdu.retry ∧
    (startSteam s).sdu.failures = s.sdu.failures ∧ (startSteam s).re.slotA = s.re.slotA ∧
    (startSteam s).re.slotB = s.re.slotB ∧ (startSteam s).re.running = s.re.running ∧
    (startSteam s).re.queued = s.re.queued ∧ (startSteam s).re.context = s.re.context ∧
    (startSteam s).re.repeats = s.re.repeats ∧ (startSteam s).pu = s.pu := by
  unfold startSteam; (repeat' split) <;> simp

@[simp] theorem stopSteam_keeps (s : State) :
    (stopSteam s).pending = s.pending ∧ (stopSteam s).run = s.run ∧ (stopSteam s).config = s.config ∧
    (stopSteam s).store = s.store ∧ (stopSteam s).second = s.second ∧ (stopSteam s).freeUses = s.freeUses ∧
    (stopSteam s).link = s.link ∧ (stopSteam s).od.power = s.od.power ∧
    (stopSteam s).od.restartPending = s.od.restartPending ∧ (stopSteam s).od.cycle = s.od.cycle ∧
    (stopSteam s).od.cycleTimer = s.od.cycleTimer ∧ (stopSteam s).od.eventsTimer = s.od.eventsTimer ∧
    (stopSteam s).od.diagTimer = s.od.diagTimer ∧ (stopSteam s).ssu = s.ssu ∧
    (stopSteam s).lpd.drive = s.lpd.drive ∧ (stopSteam s).lpd.half = s.lpd.half ∧
    (stopSteam s).lpd.loads.top = s.lpd.loads.top ∧ (stopSteam s).lpd.loads.bottom = s.lpd.loads.bottom ∧
    (stopSteam s).lpd.loads.ring = s.lpd.loads.ring ∧ (stopSteam s).lpd.pool = s.lpd.pool ∧
    (stopSteam s).lpd.shed = s.lpd.shed ∧ (stopSteam s).lpd.gates = s.lpd.gates ∧
    (stopSteam s).lpd.sinceCrossing = s.lpd.sinceCrossing ∧ (stopSteam s).mu = s.mu ∧ (stopSteam s).cr = s.cr ∧
    (stopSteam s).sgc.user = s.sgc.user ∧ (stopSteam s).sgc.steamWanted = s.sgc.steamWanted ∧
    (stopSteam s).sgc.steamDemand = s.sgc.steamDemand ∧ (stopSteam s).sgc.derate = s.sgc.derate ∧
    (stopSteam s).sgc.pumpDrive = s.sgc.pumpDrive ∧ (stopSteam s).sgc.drainCount = s.sgc.drainCount ∧
    (stopSteam s).sdu.account = s.sdu.account ∧ (stopSteam s).sdu.hardness = s.sdu.hardness ∧
    (stopSteam s).sdu.mark = s.sdu.mark ∧ (stopSteam s).sdu.meteringSum = s.sdu.meteringSum ∧
    (stopSteam s).sdu.phase = s.sdu.phase ∧ (stopSteam s).sdu.lockingFrom = s.sdu.lockingFrom ∧
    (stopSteam s).sdu.soakCount = s.sdu.soakCount ∧ (stopSteam s).sdu.rinseCycle = s.sdu.rinseCycle ∧
    (stopSteam s).sdu.rinseStep = s.sdu.rinseStep ∧ (stopSteam s).sdu.heatingTime = s.sdu.heatingTime ∧
    (stopSteam s).sdu.drained = s.sdu.drained ∧ (stopSteam s).sdu.retry = s.sdu.retry ∧
    (stopSteam s).sdu.failures = s.sdu.failures ∧ (stopSteam s).re.slotA = s.re.slotA ∧
    (stopSteam s).re.slotB = s.re.slotB ∧ (stopSteam s).re.running = s.re.running ∧
    (stopSteam s).re.queued = s.re.queued ∧ (stopSteam s).re.context = s.re.context ∧
    (stopSteam s).re.repeats = s.re.repeats ∧ (stopSteam s).pu = s.pu := by
  unfold stopSteam; (repeat' split) <;> simp

@[simp] theorem setSteamWanted_keeps (w : Bool) (s : State) :
    (setSteamWanted w s).pending = s.pending ∧ (setSteamWanted w s).run = s.run ∧
    (setSteamWanted w s).config = s.config ∧ (setSteamWanted w s).store = s.store ∧
    (setSteamWanted w s).second = s.second ∧ (setSteamWanted w s).freeUses = s.freeUses ∧
    (setSteamWanted w s).link = s.link ∧ (setSteamWanted w s).od.power = s.od.power ∧
    (setSteamWanted w s).od.restartPending = s.od.restartPending ∧ (setSteamWanted w s).od.cycle = s.od.cycle ∧
    (setSteamWanted w s).od.cycleTimer = s.od.cycleTimer ∧ (setSteamWanted w s).od.eventsTimer = s.od.eventsTimer ∧
    (setSteamWanted w s).od.diagTimer = s.od.diagTimer ∧ (setSteamWanted w s).ssu = s.ssu ∧
    (setSteamWanted w s).lpd.drive = s.lpd.drive ∧ (setSteamWanted w s).lpd.half = s.lpd.half ∧
    (setSteamWanted w s).lpd.loads.top = s.lpd.loads.top ∧
    (setSteamWanted w s).lpd.loads.bottom = s.lpd.loads.bottom ∧
    (setSteamWanted w s).lpd.loads.ring = s.lpd.loads.ring ∧ (setSteamWanted w s).lpd.pool = s.lpd.pool ∧
    (setSteamWanted w s).lpd.shed = s.lpd.shed ∧ (setSteamWanted w s).lpd.gates = s.lpd.gates ∧
    (setSteamWanted w s).lpd.sinceCrossing = s.lpd.sinceCrossing ∧ (setSteamWanted w s).mu = s.mu ∧
    (setSteamWanted w s).cr = s.cr ∧ (setSteamWanted w s).sgc.user = s.sgc.user ∧
    (setSteamWanted w s).sgc.steamDemand = s.sgc.steamDemand ∧ (setSteamWanted w s).sgc.derate = s.sgc.derate ∧
    (setSteamWanted w s).sdu.account = s.sdu.account ∧ (setSteamWanted w s).sdu.hardness = s.sdu.hardness ∧
    (setSteamWanted w s).sdu.mark = s.sdu.mark ∧ (setSteamWanted w s).sdu.phase = s.sdu.phase ∧
    (setSteamWanted w s).sdu.lockingFrom = s.sdu.lockingFrom ∧
    (setSteamWanted w s).sdu.soakCount = s.sdu.soakCount ∧ (setSteamWanted w s).sdu.rinseCycle = s.sdu.rinseCycle ∧
    (setSteamWanted w s).sdu.rinseStep = s.sdu.rinseStep ∧
    (setSteamWanted w s).sdu.heatingTime = s.sdu.heatingTime ∧ (setSteamWanted w s).sdu.drained = s.sdu.drained ∧
    (setSteamWanted w s).sdu.retry = s.sdu.retry ∧ (setSteamWanted w s).sdu.failures = s.sdu.failures ∧
    (setSteamWanted w s).re.slotA = s.re.slotA ∧ (setSteamWanted w s).re.slotB = s.re.slotB ∧
    (setSteamWanted w s).re.running = s.re.running ∧ (setSteamWanted w s).re.queued = s.re.queued ∧
    (setSteamWanted w s).re.context = s.re.context ∧ (setSteamWanted w s).re.repeats = s.re.repeats ∧
    (setSteamWanted w s).pu = s.pu := by
  unfold setSteamWanted; (repeat' split) <;> simp

@[simp] theorem judgeSteam_keeps (s : State) :
    (judgeSteam s).pending = s.pending ∧ (judgeSteam s).run = s.run ∧ (judgeSteam s).config = s.config ∧
    (judgeSteam s).store = s.store ∧ (judgeSteam s).second = s.second ∧ (judgeSteam s).freeUses = s.freeUses ∧
    (judgeSteam s).link = s.link ∧ (judgeSteam s).od.power = s.od.power ∧
    (judgeSteam s).od.restartPending = s.od.restartPending ∧ (judgeSteam s).od.cycle = s.od.cycle ∧
    (judgeSteam s).od.cycleTimer = s.od.cycleTimer ∧ (judgeSteam s).od.eventsTimer = s.od.eventsTimer ∧
    (judgeSteam s).od.diagTimer = s.od.diagTimer ∧ (judgeSteam s).ssu = s.ssu ∧
    (judgeSteam s).lpd.drive = s.lpd.drive ∧ (judgeSteam s).lpd.half = s.lpd.half ∧
    (judgeSteam s).lpd.loads.top = s.lpd.loads.top ∧ (judgeSteam s).lpd.loads.bottom = s.lpd.loads.bottom ∧
    (judgeSteam s).lpd.loads.ring = s.lpd.loads.ring ∧ (judgeSteam s).lpd.pool = s.lpd.pool ∧
    (judgeSteam s).lpd.shed = s.lpd.shed ∧ (judgeSteam s).lpd.gates = s.lpd.gates ∧
    (judgeSteam s).lpd.sinceCrossing = s.lpd.sinceCrossing ∧ (judgeSteam s).mu = s.mu ∧ (judgeSteam s).cr = s.cr ∧
    (judgeSteam s).sgc.user = s.sgc.user ∧ (judgeSteam s).sgc.derate = s.sgc.derate ∧
    (judgeSteam s).sdu.account = s.sdu.account ∧ (judgeSteam s).sdu.hardness = s.sdu.hardness ∧
    (judgeSteam s).sdu.mark = s.sdu.mark ∧ (judgeSteam s).sdu.phase = s.sdu.phase ∧
    (judgeSteam s).sdu.lockingFrom = s.sdu.lockingFrom ∧ (judgeSteam s).sdu.soakCount = s.sdu.soakCount ∧
    (judgeSteam s).sdu.rinseCycle = s.sdu.rinseCycle ∧ (judgeSteam s).sdu.rinseStep = s.sdu.rinseStep ∧
    (judgeSteam s).sdu.heatingTime = s.sdu.heatingTime ∧ (judgeSteam s).sdu.drained = s.sdu.drained ∧
    (judgeSteam s).sdu.retry = s.sdu.retry ∧ (judgeSteam s).sdu.failures = s.sdu.failures ∧
    (judgeSteam s).re.slotA = s.re.slotA ∧ (judgeSteam s).re.slotB = s.re.slotB ∧
    (judgeSteam s).re.running = s.re.running ∧ (judgeSteam s).re.queued = s.re.queued ∧
    (judgeSteam s).re.context = s.re.context ∧ (judgeSteam s).re.repeats = s.re.repeats ∧ (judgeSteam s).pu = s.pu := by
  unfold judgeSteam; (repeat' split) <;> simp

@[simp] theorem judgeCool_keeps (s : State) :
    (judgeCool s).pending = s.pending ∧ (judgeCool s).run = s.run ∧ (judgeCool s).config = s.config ∧
    (judgeCool s).store = s.store ∧ (judgeCool s).second = s.second ∧ (judgeCool s).freeUses = s.freeUses ∧
    (judgeCool s).link = s.link ∧ (judgeCool s).od.power = s.od.power ∧
    (judgeCool s).od.restartPending = s.od.restartPending ∧ (judgeCool s).od.cycle = s.od.cycle ∧
    (judgeCool s).od.cycleTimer = s.od.cycleTimer ∧ (judgeCool s).od.eventsTimer = s.od.eventsTimer ∧
    (judgeCool s).od.diagTimer = s.od.diagTimer ∧ (judgeCool s).ssu = s.ssu ∧
    (judgeCool s).lpd.drive = s.lpd.drive ∧ (judgeCool s).lpd.half = s.lpd.half ∧
    (judgeCool s).lpd.loads.top = s.lpd.loads.top ∧ (judgeCool s).lpd.loads.bottom = s.lpd.loads.bottom ∧
    (judgeCool s).lpd.loads.ring = s.lpd.loads.ring ∧ (judgeCool s).lpd.pool = s.lpd.pool ∧
    (judgeCool s).lpd.shed = s.lpd.shed ∧ (judgeCool s).lpd.gates = s.lpd.gates ∧
    (judgeCool s).lpd.sinceCrossing = s.lpd.sinceCrossing ∧ (judgeCool s).mu = s.mu ∧ (judgeCool s).cr = s.cr ∧
    (judgeCool s).sgc.user = s.sgc.user ∧ (judgeCool s).sgc.steamWanted = s.sgc.steamWanted ∧
    (judgeCool s).sgc.steamDemand = s.sgc.steamDemand ∧ (judgeCool s).sgc.derate = s.sgc.derate ∧
    (judgeCool s).sgc.pumpDrive = s.sgc.pumpDrive ∧ (judgeCool s).sdu = s.sdu ∧
    (judgeCool s).re.slotA = s.re.slotA ∧ (judgeCool s).re.slotB = s.re.slotB ∧
    (judgeCool s).re.running = s.re.running ∧ (judgeCool s).re.queued = s.re.queued ∧
    (judgeCool s).re.context = s.re.context ∧ (judgeCool s).re.repeats = s.re.repeats ∧ (judgeCool s).pu = s.pu := by
  unfold judgeCool; (repeat' split) <;> simp

@[simp] theorem judgeWait_keeps (s : State) :
    (judgeWait s).pending = s.pending ∧ (judgeWait s).run = s.run ∧ (judgeWait s).config = s.config ∧
    (judgeWait s).store = s.store ∧ (judgeWait s).second = s.second ∧ (judgeWait s).freeUses = s.freeUses ∧
    (judgeWait s).link = s.link ∧ (judgeWait s).od = s.od ∧ (judgeWait s).ssu = s.ssu ∧ (judgeWait s).lpd = s.lpd ∧
    (judgeWait s).mu = s.mu ∧ (judgeWait s).cr = s.cr ∧ (judgeWait s).sgc.state = s.sgc.state ∧
    (judgeWait s).sgc.user = s.sgc.user ∧ (judgeWait s).sgc.steamWanted = s.sgc.steamWanted ∧
    (judgeWait s).sgc.steamDemand = s.sgc.steamDemand ∧ (judgeWait s).sgc.derate = s.sgc.derate ∧
    (judgeWait s).sgc.pulses = s.sgc.pulses ∧ (judgeWait s).sgc.pulseTimer = s.sgc.pulseTimer ∧
    (judgeWait s).sgc.pumpDrive = s.sgc.pumpDrive ∧ (judgeWait s).sgc.coolTime = s.sgc.coolTime ∧
    (judgeWait s).sgc.drainCount = s.sgc.drainCount ∧ (judgeWait s).sdu = s.sdu ∧ (judgeWait s).re = s.re ∧
    (judgeWait s).pu = s.pu := by
  unfold judgeWait; (repeat' split) <;> simp

@[simp] theorem boilerPublication_keeps (firstLow : Bool) (s : State) :
    (boilerPublication firstLow s).pending = s.pending ∧ (boilerPublication firstLow s).run = s.run ∧
    (boilerPublication firstLow s).config = s.config ∧ (boilerPublication firstLow s).store = s.store ∧
    (boilerPublication firstLow s).second = s.second ∧ (boilerPublication firstLow s).freeUses = s.freeUses ∧
    (boilerPublication firstLow s).link = s.link ∧ (boilerPublication firstLow s).od.power = s.od.power ∧
    (boilerPublication firstLow s).od.restartPending = s.od.restartPending ∧
    (boilerPublication firstLow s).od.cycle = s.od.cycle ∧
    (boilerPublication firstLow s).od.cycleTimer = s.od.cycleTimer ∧
    (boilerPublication firstLow s).od.eventsTimer = s.od.eventsTimer ∧
    (boilerPublication firstLow s).od.diagTimer = s.od.diagTimer ∧ (boilerPublication firstLow s).ssu = s.ssu ∧
    (boilerPublication firstLow s).lpd.drive = s.lpd.drive ∧ (boilerPublication firstLow s).lpd.half = s.lpd.half ∧
    (boilerPublication firstLow s).lpd.loads.top = s.lpd.loads.top ∧
    (boilerPublication firstLow s).lpd.loads.bottom = s.lpd.loads.bottom ∧
    (boilerPublication firstLow s).lpd.loads.ring = s.lpd.loads.ring ∧
    (boilerPublication firstLow s).lpd.pool = s.lpd.pool ∧ (boilerPublication firstLow s).lpd.shed = s.lpd.shed ∧
    (boilerPublication firstLow s).lpd.gates = s.lpd.gates ∧
    (boilerPublication firstLow s).lpd.sinceCrossing = s.lpd.sinceCrossing ∧
    (boilerPublication firstLow s).mu = s.mu ∧ (boilerPublication firstLow s).cr = s.cr ∧
    (boilerPublication firstLow s).sgc.user = s.sgc.user ∧
    (boilerPublication firstLow s).sgc.steamWanted = s.sgc.steamWanted ∧
    (boilerPublication firstLow s).sgc.steamDemand = s.sgc.steamDemand ∧
    (boilerPublication firstLow s).sgc.derate = s.sgc.derate ∧
    (boilerPublication firstLow s).sdu.account = s.sdu.account ∧
    (boilerPublication firstLow s).sdu.hardness = s.sdu.hardness ∧
    (boilerPublication firstLow s).sdu.mark = s.sdu.mark ∧ (boilerPublication firstLow s).sdu.phase = s.sdu.phase ∧
    (boilerPublication firstLow s).sdu.lockingFrom = s.sdu.lockingFrom ∧
    (boilerPublication firstLow s).sdu.soakCount = s.sdu.soakCount ∧
    (boilerPublication firstLow s).sdu.rinseCycle = s.sdu.rinseCycle ∧
    (boilerPublication firstLow s).sdu.rinseStep = s.sdu.rinseStep ∧
    (boilerPublication firstLow s).sdu.heatingTime = s.sdu.heatingTime ∧
    (boilerPublication firstLow s).sdu.drained = s.sdu.drained ∧
    (boilerPublication firstLow s).sdu.retry = s.sdu.retry ∧
    (boilerPublication firstLow s).sdu.failures = s.sdu.failures ∧
    (boilerPublication firstLow s).re.slotA = s.re.slotA ∧ (boilerPublication firstLow s).re.slotB = s.re.slotB ∧
    (boilerPublication firstLow s).re.running = s.re.running ∧
    (boilerPublication firstLow s).re.queued = s.re.queued ∧
    (boilerPublication firstLow s).re.context = s.re.context ∧
    (boilerPublication firstLow s).re.repeats = s.re.repeats ∧ (boilerPublication firstLow s).pu = s.pu := by
  unfold boilerPublication; (repeat' split) <;> simp

@[simp] theorem requestFill_keeps (s : State) :
    (requestFill s).pending = s.pending ∧ (requestFill s).run = s.run ∧ (requestFill s).config = s.config ∧
    (requestFill s).store = s.store ∧ (requestFill s).second = s.second ∧ (requestFill s).freeUses = s.freeUses ∧
    (requestFill s).link = s.link ∧ (requestFill s).od.power = s.od.power ∧
    (requestFill s).od.restartPending = s.od.restartPending ∧ (requestFill s).od.cycle = s.od.cycle ∧
    (requestFill s).od.cycleTimer = s.od.cycleTimer ∧ (requestFill s).od.eventsTimer = s.od.eventsTimer ∧
    (requestFill s).od.diagTimer = s.od.diagTimer ∧ (requestFill s).ssu = s.ssu ∧
    (requestFill s).lpd.drive = s.lpd.drive ∧ (requestFill s).lpd.half = s.lpd.half ∧
    (requestFill s).lpd.loads.top = s.lpd.loads.top ∧ (requestFill s).lpd.loads.bottom = s.lpd.loads.bottom ∧
    (requestFill s).lpd.loads.ring = s.lpd.loads.ring ∧ (requestFill s).lpd.pool = s.lpd.pool ∧
    (requestFill s).lpd.shed = s.lpd.shed ∧ (requestFill s).lpd.gates = s.lpd.gates ∧
    (requestFill s).lpd.sinceCrossing = s.lpd.sinceCrossing ∧ (requestFill s).mu = s.mu ∧
    (requestFill s).cr = s.cr ∧ (requestFill s).sgc.user = s.sgc.user ∧
    (requestFill s).sgc.steamWanted = s.sgc.steamWanted ∧ (requestFill s).sgc.steamDemand = s.sgc.steamDemand ∧
    (requestFill s).sgc.derate = s.sgc.derate ∧ (requestFill s).sdu.account = s.sdu.account ∧
    (requestFill s).sdu.hardness = s.sdu.hardness ∧ (requestFill s).sdu.mark = s.sdu.mark ∧
    (requestFill s).sdu.phase = s.sdu.phase ∧ (requestFill s).sdu.lockingFrom = s.sdu.lockingFrom ∧
    (requestFill s).sdu.soakCount = s.sdu.soakCount ∧ (requestFill s).sdu.rinseCycle = s.sdu.rinseCycle ∧
    (requestFill s).sdu.rinseStep = s.sdu.rinseStep ∧ (requestFill s).sdu.heatingTime = s.sdu.heatingTime ∧
    (requestFill s).sdu.drained = s.sdu.drained ∧ (requestFill s).sdu.writing = s.sdu.writing ∧
    (requestFill s).sdu.writeTimer = s.sdu.writeTimer ∧ (requestFill s).sdu.rewritePending = s.sdu.rewritePending ∧
    (requestFill s).sdu.retry = s.sdu.retry ∧ (requestFill s).sdu.failures = s.sdu.failures ∧
    (requestFill s).re.slotA = s.re.slotA ∧ (requestFill s).re.slotB = s.re.slotB ∧
    (requestFill s).re.running = s.re.running ∧ (requestFill s).re.queued = s.re.queued ∧
    (requestFill s).re.context = s.re.context ∧ (requestFill s).re.repeats = s.re.repeats ∧
    (requestFill s).pu = s.pu := by
  unfold requestFill; (repeat' split) <;> simp

@[simp] theorem requestDrain_keeps (s : State) :
    (requestDrain s).pending = s.pending ∧ (requestDrain s).run = s.run ∧ (requestDrain s).config = s.config ∧
    (requestDrain s).store = s.store ∧ (requestDrain s).second = s.second ∧ (requestDrain s).freeUses = s.freeUses ∧
    (requestDrain s).link = s.link ∧ (requestDrain s).od.power = s.od.power ∧
    (requestDrain s).od.restartPending = s.od.restartPending ∧ (requestDrain s).od.cycle = s.od.cycle ∧
    (requestDrain s).od.cycleTimer = s.od.cycleTimer ∧ (requestDrain s).od.eventsTimer = s.od.eventsTimer ∧
    (requestDrain s).od.diagTimer = s.od.diagTimer ∧ (requestDrain s).ssu = s.ssu ∧
    (requestDrain s).lpd.drive = s.lpd.drive ∧ (requestDrain s).lpd.half = s.lpd.half ∧
    (requestDrain s).lpd.loads.top = s.lpd.loads.top ∧ (requestDrain s).lpd.loads.bottom = s.lpd.loads.bottom ∧
    (requestDrain s).lpd.loads.ring = s.lpd.loads.ring ∧ (requestDrain s).lpd.pool = s.lpd.pool ∧
    (requestDrain s).lpd.shed = s.lpd.shed ∧ (requestDrain s).lpd.gates = s.lpd.gates ∧
    (requestDrain s).lpd.sinceCrossing = s.lpd.sinceCrossing ∧ (requestDrain s).mu = s.mu ∧
    (requestDrain s).cr = s.cr ∧ (requestDrain s).sgc.user = s.sgc.user ∧
    (requestDrain s).sgc.steamWanted = s.sgc.steamWanted ∧ (requestDrain s).sgc.steamDemand = s.sgc.steamDemand ∧
    (requestDrain s).sgc.derate = s.sgc.derate ∧ (requestDrain s).sgc.pumpDrive = s.sgc.pumpDrive ∧
    (requestDrain s).sdu = s.sdu ∧ (requestDrain s).re.slotA = s.re.slotA ∧ (requestDrain s).re.slotB = s.re.slotB ∧
    (requestDrain s).re.running = s.re.running ∧ (requestDrain s).re.queued = s.re.queued ∧
    (requestDrain s).re.context = s.re.context ∧ (requestDrain s).re.repeats = s.re.repeats ∧
    (requestDrain s).pu = s.pu := by
  unfold requestDrain; (repeat' split) <;> simp

@[simp] theorem takeUser_keeps (s : State) :
    (takeUser s).pending = s.pending ∧ (takeUser s).run = s.run ∧ (takeUser s).config = s.config ∧
    (takeUser s).store = s.store ∧ (takeUser s).second = s.second ∧ (takeUser s).freeUses = s.freeUses ∧
    (takeUser s).link = s.link ∧ (takeUser s).od = s.od ∧ (takeUser s).ssu = s.ssu ∧
    (takeUser s).lpd.drive = s.lpd.drive ∧ (takeUser s).lpd.half = s.lpd.half ∧
    (takeUser s).lpd.loads.top = s.lpd.loads.top ∧ (takeUser s).lpd.loads.bottom = s.lpd.loads.bottom ∧
    (takeUser s).lpd.loads.ring = s.lpd.loads.ring ∧ (takeUser s).lpd.pool = s.lpd.pool ∧
    (takeUser s).lpd.shed = s.lpd.shed ∧ (takeUser s).lpd.gates = s.lpd.gates ∧
    (takeUser s).lpd.sinceCrossing = s.lpd.sinceCrossing ∧ (takeUser s).mu = s.mu ∧ (takeUser s).cr = s.cr ∧
    (takeUser s).sgc.state = s.sgc.state ∧ (takeUser s).sgc.steamWanted = s.sgc.steamWanted ∧
    (takeUser s).sgc.steamDemand = s.sgc.steamDemand ∧ (takeUser s).sgc.derate = s.sgc.derate ∧
    (takeUser s).sgc.pulses = s.sgc.pulses ∧ (takeUser s).sgc.pulseTimer = s.sgc.pulseTimer ∧
    (takeUser s).sgc.pumpDrive = s.sgc.pumpDrive ∧ (takeUser s).sgc.wait = s.sgc.wait ∧
    (takeUser s).sgc.limitMark = s.sgc.limitMark ∧ (takeUser s).sgc.coolTime = s.sgc.coolTime ∧
    (takeUser s).sgc.drainCount = s.sgc.drainCount ∧ (takeUser s).sdu = s.sdu ∧ (takeUser s).re = s.re ∧
    (takeUser s).pu = s.pu := by
  simp [takeUser, writeDemand, Loads.set]

@[simp] theorem returnUser_keeps (s : State) :
    (returnUser s).pending = s.pending ∧ (returnUser s).run = s.run ∧ (returnUser s).config = s.config ∧
    (returnUser s).store = s.store ∧ (returnUser s).second = s.second ∧ (returnUser s).freeUses = s.freeUses ∧
    (returnUser s).link = s.link ∧ (returnUser s).od.power = s.od.power ∧
    (returnUser s).od.restartPending = s.od.restartPending ∧ (returnUser s).od.cycle = s.od.cycle ∧
    (returnUser s).od.cycleTimer = s.od.cycleTimer ∧ (returnUser s).od.eventsTimer = s.od.eventsTimer ∧
    (returnUser s).od.diagTimer = s.od.diagTimer ∧ (returnUser s).ssu = s.ssu ∧
    (returnUser s).lpd.drive = s.lpd.drive ∧ (returnUser s).lpd.half = s.lpd.half ∧
    (returnUser s).lpd.loads.top = s.lpd.loads.top ∧ (returnUser s).lpd.loads.bottom = s.lpd.loads.bottom ∧
    (returnUser s).lpd.loads.ring = s.lpd.loads.ring ∧ (returnUser s).lpd.pool = s.lpd.pool ∧
    (returnUser s).lpd.shed = s.lpd.shed ∧ (returnUser s).lpd.gates = s.lpd.gates ∧
    (returnUser s).lpd.sinceCrossing = s.lpd.sinceCrossing ∧ (returnUser s).mu = s.mu ∧ (returnUser s).cr = s.cr ∧
    (returnUser s).sgc.steamWanted = s.sgc.steamWanted ∧ (returnUser s).sgc.steamDemand = s.sgc.steamDemand ∧
    (returnUser s).sgc.derate = s.sgc.derate ∧ (returnUser s).sgc.pumpDrive = s.sgc.pumpDrive ∧
    (returnUser s).sgc.drainCount = s.sgc.drainCount ∧ (returnUser s).sdu.account = s.sdu.account ∧
    (returnUser s).sdu.hardness = s.sdu.hardness ∧ (returnUser s).sdu.mark = s.sdu.mark ∧
    (returnUser s).sdu.meteringSum = s.sdu.meteringSum ∧ (returnUser s).sdu.phase = s.sdu.phase ∧
    (returnUser s).sdu.lockingFrom = s.sdu.lockingFrom ∧ (returnUser s).sdu.soakCount = s.sdu.soakCount ∧
    (returnUser s).sdu.rinseCycle = s.sdu.rinseCycle ∧ (returnUser s).sdu.rinseStep = s.sdu.rinseStep ∧
    (returnUser s).sdu.heatingTime = s.sdu.heatingTime ∧ (returnUser s).sdu.drained = s.sdu.drained ∧
    (returnUser s).sdu.retry = s.sdu.retry ∧ (returnUser s).sdu.failures = s.sdu.failures ∧
    (returnUser s).re.slotA = s.re.slotA ∧ (returnUser s).re.slotB = s.re.slotB ∧
    (returnUser s).re.running = s.re.running ∧ (returnUser s).re.queued = s.re.queued ∧
    (returnUser s).re.context = s.re.context ∧ (returnUser s).re.repeats = s.re.repeats ∧ (returnUser s).pu = s.pu := by
  unfold returnUser; (repeat' split) <;> simp

end Sys2Proof.Machine
end

