-- ==== Sys2Proof/Laws/SupplyLaws.lean ====
section
/-! SUPPORT. What the supply sharing unit leave as it is: for each operation, every field of State it cannot change. -/

namespace Sys2Proof.Machine

@[simp] theorem setPeer_keeps (i : Fin 15) (e : PeerEntry) (s : State) :
    (setPeer i e s).pending = s.pending ∧ (setPeer i e s).run = s.run ∧ (setPeer i e s).config = s.config ∧
    (setPeer i e s).store = s.store ∧ (setPeer i e s).second = s.second ∧ (setPeer i e s).freeUses = s.freeUses ∧
    (setPeer i e s).link = s.link ∧ (setPeer i e s).od = s.od ∧ (setPeer i e s).ssu.claim = s.ssu.claim ∧
    (setPeer i e s).ssu.announced = s.ssu.announced ∧ (setPeer i e s).ssu.raise = s.ssu.raise ∧
    (setPeer i e s).ssu.lastA = s.ssu.lastA ∧ (setPeer i e s).ssu.lastW = s.ssu.lastW ∧
    (setPeer i e s).ssu.lastFo = s.ssu.lastFo ∧ (setPeer i e s).ssu.contention = s.ssu.contention ∧
    (setPeer i e s).ssu.starved = s.ssu.starved ∧ (setPeer i e s).ssu.entryTimer = s.ssu.entryTimer ∧
    (setPeer i e s).ssu.exitTimer = s.ssu.exitTimer ∧ (setPeer i e s).ssu.listenIn = s.ssu.listenIn ∧
    (setPeer i e s).ssu.period = s.ssu.period ∧ (setPeer i e s).lpd = s.lpd ∧ (setPeer i e s).mu = s.mu ∧
    (setPeer i e s).cr = s.cr ∧ (setPeer i e s).sgc = s.sgc ∧ (setPeer i e s).sdu = s.sdu ∧
    (setPeer i e s).re = s.re ∧ (setPeer i e s).pu = s.pu := by
  unfold setPeer; (repeat' split) <;> simp

@[simp] theorem leaveStarved_keeps (s : State) :
    (leaveStarved s).pending = s.pending ∧ (leaveStarved s).run = s.run ∧ (leaveStarved s).config = s.config ∧
    (leaveStarved s).store = s.store ∧ (leaveStarved s).second = s.second ∧ (leaveStarved s).freeUses = s.freeUses ∧
    (leaveStarved s).link = s.link ∧ (leaveStarved s).od = s.od ∧ (leaveStarved s).ssu.peers = s.ssu.peers ∧
    (leaveStarved s).ssu.claim = s.ssu.claim ∧ (leaveStarved s).ssu.announced = s.ssu.announced ∧
    (leaveStarved s).ssu.raise = s.ssu.raise ∧ (leaveStarved s).ssu.lastA = s.ssu.lastA ∧
    (leaveStarved s).ssu.lastW = s.ssu.lastW ∧ (leaveStarved s).ssu.lastFo = s.ssu.lastFo ∧
    (leaveStarved s).ssu.contention = s.ssu.contention ∧ (leaveStarved s).ssu.listenIn = s.ssu.listenIn ∧
    (leaveStarved s).ssu.period = s.ssu.period ∧ (leaveStarved s).lpd = s.lpd ∧ (leaveStarved s).mu = s.mu ∧
    (leaveStarved s).cr = s.cr ∧ (leaveStarved s).sgc = s.sgc ∧ (leaveStarved s).sdu = s.sdu ∧
    (leaveStarved s).re.slotA = s.re.slotA ∧ (leaveStarved s).re.slotB = s.re.slotB ∧
    (leaveStarved s).re.running = s.re.running ∧ (leaveStarved s).re.queued = s.re.queued ∧
    (leaveStarved s).re.context = s.re.context ∧ (leaveStarved s).re.repeats = s.re.repeats ∧
    (leaveStarved s).pu = s.pu := by
  unfold leaveStarved; (repeat' split) <;> simp

@[simp] theorem leaveStarvedWithoutWork_keeps (s : State) :
    (leaveStarvedWithoutWork s).pending = s.pending ∧ (leaveStarvedWithoutWork s).run = s.run ∧
    (leaveStarvedWithoutWork s).config = s.config ∧ (leaveStarvedWithoutWork s).store = s.store ∧
    (leaveStarvedWithoutWork s).second = s.second ∧ (leaveStarvedWithoutWork s).freeUses = s.freeUses ∧
    (leaveStarvedWithoutWork s).link = s.link ∧ (leaveStarvedWithoutWork s).od = s.od ∧
    (leaveStarvedWithoutWork s).ssu.peers = s.ssu.peers ∧ (leaveStarvedWithoutWork s).ssu.claim = s.ssu.claim ∧
    (leaveStarvedWithoutWork s).ssu.announced = s.ssu.announced ∧
    (leaveStarvedWithoutWork s).ssu.raise = s.ssu.raise ∧ (leaveStarvedWithoutWork s).ssu.lastA = s.ssu.lastA ∧
    (leaveStarvedWithoutWork s).ssu.lastW = s.ssu.lastW ∧ (leaveStarvedWithoutWork s).ssu.lastFo = s.ssu.lastFo ∧
    (leaveStarvedWithoutWork s).ssu.contention = s.ssu.contention ∧
    (leaveStarvedWithoutWork s).ssu.listenIn = s.ssu.listenIn ∧
    (leaveStarvedWithoutWork s).ssu.period = s.ssu.period ∧ (leaveStarvedWithoutWork s).lpd = s.lpd ∧
    (leaveStarvedWithoutWork s).mu = s.mu ∧ (leaveStarvedWithoutWork s).cr = s.cr ∧
    (leaveStarvedWithoutWork s).sgc = s.sgc ∧ (leaveStarvedWithoutWork s).sdu = s.sdu ∧
    (leaveStarvedWithoutWork s).re.slotA = s.re.slotA ∧ (leaveStarvedWithoutWork s).re.slotB = s.re.slotB ∧
    (leaveStarvedWithoutWork s).re.running = s.re.running ∧ (leaveStarvedWithoutWork s).re.queued = s.re.queued ∧
    (leaveStarvedWithoutWork s).re.context = s.re.context ∧ (leaveStarvedWithoutWork s).re.repeats = s.re.repeats ∧
    (leaveStarvedWithoutWork s).pu = s.pu := by
  unfold leaveStarvedWithoutWork; (repeat' split) <;> simp

@[simp] theorem evalStarved_keeps (s : State) :
    (evalStarved s).pending = s.pending ∧ (evalStarved s).run = s.run ∧ (evalStarved s).config = s.config ∧
    (evalStarved s).store = s.store ∧ (evalStarved s).second = s.second ∧ (evalStarved s).freeUses = s.freeUses ∧
    (evalStarved s).link = s.link ∧ (evalStarved s).od = s.od ∧ (evalStarved s).ssu.peers = s.ssu.peers ∧
    (evalStarved s).ssu.claim = s.ssu.claim ∧ (evalStarved s).ssu.announced = s.ssu.announced ∧
    (evalStarved s).ssu.raise = s.ssu.raise ∧ (evalStarved s).ssu.lastA = s.ssu.lastA ∧
    (evalStarved s).ssu.lastW = s.ssu.lastW ∧ (evalStarved s).ssu.lastFo = s.ssu.lastFo ∧
    (evalStarved s).ssu.contention = s.ssu.contention ∧ (evalStarved s).ssu.listenIn = s.ssu.listenIn ∧
    (evalStarved s).ssu.period = s.ssu.period ∧ (evalStarved s).lpd = s.lpd ∧ (evalStarved s).mu = s.mu ∧
    (evalStarved s).cr = s.cr ∧ (evalStarved s).sgc = s.sgc ∧ (evalStarved s).sdu = s.sdu ∧
    (evalStarved s).re.slotA = s.re.slotA ∧ (evalStarved s).re.slotB = s.re.slotB ∧
    (evalStarved s).re.running = s.re.running ∧ (evalStarved s).re.queued = s.re.queued ∧
    (evalStarved s).re.context = s.re.context ∧ (evalStarved s).re.repeats = s.re.repeats ∧
    (evalStarved s).pu = s.pu := by
  unfold evalStarved; (repeat' split) <;> simp

@[simp] theorem recordAllowance_keeps (s : State) :
    (recordAllowance s).pending = s.pending ∧ (recordAllowance s).run = s.run ∧
    (recordAllowance s).config = s.config ∧ (recordAllowance s).store = s.store ∧
    (recordAllowance s).second = s.second ∧ (recordAllowance s).freeUses = s.freeUses ∧
    (recordAllowance s).link = s.link ∧ (recordAllowance s).od = s.od ∧
    (recordAllowance s).ssu.peers = s.ssu.peers ∧ (recordAllowance s).ssu.claim = s.ssu.claim ∧
    (recordAllowance s).ssu.announced = s.ssu.announced ∧ (recordAllowance s).ssu.raise = s.ssu.raise ∧
    (recordAllowance s).ssu.listenIn = s.ssu.listenIn ∧ (recordAllowance s).ssu.period = s.ssu.period ∧
    (recordAllowance s).lpd = s.lpd ∧ (recordAllowance s).mu = s.mu ∧ (recordAllowance s).cr = s.cr ∧
    (recordAllowance s).sgc = s.sgc ∧ (recordAllowance s).sdu = s.sdu ∧ (recordAllowance s).re.slotA = s.re.slotA ∧
    (recordAllowance s).re.slotB = s.re.slotB ∧ (recordAllowance s).re.running = s.re.running ∧
    (recordAllowance s).re.queued = s.re.queued ∧ (recordAllowance s).re.context = s.re.context ∧
    (recordAllowance s).re.repeats = s.re.repeats ∧ (recordAllowance s).pu = s.pu := by
  unfold recordAllowance; (repeat' split) <;> simp

@[simp] theorem offerNotice_keeps (c : Nat) (s : State) :
    (offerNotice c s).pending = s.pending ∧ (offerNotice c s).run = s.run ∧ (offerNotice c s).config = s.config ∧
    (offerNotice c s).store = s.store ∧ (offerNotice c s).second = s.second ∧
    (offerNotice c s).freeUses = s.freeUses ∧ (offerNotice c s).link.rx = s.link.rx ∧
    (offerNotice c s).link.tx = s.link.tx ∧ (offerNotice c s).link.confirmation = s.link.confirmation ∧
    (offerNotice c s).link.latch = s.link.latch ∧ (offerNotice c s).link.lost = s.link.lost ∧
    (offerNotice c s).link.lfsr = s.link.lfsr ∧ (offerNotice c s).link.silence = s.link.silence ∧
    (offerNotice c s).link.restartOwed = s.link.restartOwed ∧ (offerNotice c s).od = s.od ∧
    (offerNotice c s).ssu.peers = s.ssu.peers ∧ (offerNotice c s).ssu.claim = s.ssu.claim ∧
    (offerNotice c s).ssu.raise = s.ssu.raise ∧ (offerNotice c s).ssu.lastA = s.ssu.lastA ∧
    (offerNotice c s).ssu.lastW = s.ssu.lastW ∧ (offerNotice c s).ssu.lastFo = s.ssu.lastFo ∧
    (offerNotice c s).ssu.contention = s.ssu.contention ∧ (offerNotice c s).ssu.starved = s.ssu.starved ∧
    (offerNotice c s).ssu.entryTimer = s.ssu.entryTimer ∧ (offerNotice c s).ssu.exitTimer = s.ssu.exitTimer ∧
    (offerNotice c s).ssu.listenIn = s.ssu.listenIn ∧ (offerNotice c s).ssu.period = s.ssu.period ∧
    (offerNotice c s).lpd = s.lpd ∧ (offerNotice c s).mu = s.mu ∧ (offerNotice c s).cr = s.cr ∧
    (offerNotice c s).sgc = s.sgc ∧ (offerNotice c s).sdu = s.sdu ∧ (offerNotice c s).re = s.re ∧
    (offerNotice c s).pu = s.pu := by
  unfold offerNotice; (repeat' split) <;> simp

@[simp] theorem raiseDropped_keeps (s : State) :
    (raiseDropped s).pending = s.pending ∧ (raiseDropped s).run = s.run ∧ (raiseDropped s).config = s.config ∧
    (raiseDropped s).store = s.store ∧ (raiseDropped s).second = s.second ∧ (raiseDropped s).freeUses = s.freeUses ∧
    (raiseDropped s).link = s.link ∧ (raiseDropped s).od = s.od ∧ (raiseDropped s).ssu.peers = s.ssu.peers ∧
    (raiseDropped s).ssu.claim = s.ssu.claim ∧ (raiseDropped s).ssu.lastA = s.ssu.lastA ∧
    (raiseDropped s).ssu.lastW = s.ssu.lastW ∧ (raiseDropped s).ssu.lastFo = s.ssu.lastFo ∧
    (raiseDropped s).ssu.contention = s.ssu.contention ∧ (raiseDropped s).ssu.starved = s.ssu.starved ∧
    (raiseDropped s).ssu.entryTimer = s.ssu.entryTimer ∧ (raiseDropped s).ssu.exitTimer = s.ssu.exitTimer ∧
    (raiseDropped s).ssu.listenIn = s.ssu.listenIn ∧ (raiseDropped s).ssu.period = s.ssu.period ∧
    (raiseDropped s).lpd = s.lpd ∧ (raiseDropped s).mu = s.mu ∧ (raiseDropped s).cr = s.cr ∧
    (raiseDropped s).sgc = s.sgc ∧ (raiseDropped s).sdu = s.sdu ∧ (raiseDropped s).re = s.re ∧
    (raiseDropped s).pu = s.pu := by
  unfold raiseDropped; (repeat' split) <;> simp

@[simp] theorem raiseSent_keeps (s : State) :
    (raiseSent s).pending = s.pending ∧ (raiseSent s).run = s.run ∧ (raiseSent s).config = s.config ∧
    (raiseSent s).store = s.store ∧ (raiseSent s).second = s.second ∧ (raiseSent s).freeUses = s.freeUses ∧
    (raiseSent s).link = s.link ∧ (raiseSent s).od = s.od ∧ (raiseSent s).ssu.peers = s.ssu.peers ∧
    (raiseSent s).ssu.claim = s.ssu.claim ∧ (raiseSent s).ssu.announced = s.ssu.announced ∧
    (raiseSent s).ssu.lastA = s.ssu.lastA ∧ (raiseSent s).ssu.lastW = s.ssu.lastW ∧
    (raiseSent s).ssu.lastFo = s.ssu.lastFo ∧ (raiseSent s).ssu.contention = s.ssu.contention ∧
    (raiseSent s).ssu.starved = s.ssu.starved ∧ (raiseSent s).ssu.entryTimer = s.ssu.entryTimer ∧
    (raiseSent s).ssu.exitTimer = s.ssu.exitTimer ∧ (raiseSent s).ssu.listenIn = s.ssu.listenIn ∧
    (raiseSent s).ssu.period = s.ssu.period ∧ (raiseSent s).lpd = s.lpd ∧ (raiseSent s).mu = s.mu ∧
    (raiseSent s).cr = s.cr ∧ (raiseSent s).sgc = s.sgc ∧ (raiseSent s).sdu = s.sdu ∧ (raiseSent s).re = s.re ∧
    (raiseSent s).pu = s.pu := by
  unfold raiseSent; (repeat' split) <;> simp

@[simp] theorem startRaise_keeps (s : State) :
    (startRaise s).pending = s.pending ∧ (startRaise s).run = s.run ∧ (startRaise s).config = s.config ∧
    (startRaise s).store = s.store ∧ (startRaise s).second = s.second ∧ (startRaise s).freeUses = s.freeUses ∧
    (startRaise s).link.rx = s.link.rx ∧ (startRaise s).link.tx = s.link.tx ∧
    (startRaise s).link.confirmation = s.link.confirmation ∧ (startRaise s).link.latch = s.link.latch ∧
    (startRaise s).link.lost = s.link.lost ∧ (startRaise s).link.lfsr = s.link.lfsr ∧
    (startRaise s).link.silence = s.link.silence ∧ (startRaise s).link.restartOwed = s.link.restartOwed ∧
    (startRaise s).od = s.od ∧ (startRaise s).ssu.peers = s.ssu.peers ∧ (startRaise s).ssu.claim = s.ssu.claim ∧
    (startRaise s).ssu.lastA = s.ssu.lastA ∧ (startRaise s).ssu.lastW = s.ssu.lastW ∧
    (startRaise s).ssu.lastFo = s.ssu.lastFo ∧ (startRaise s).ssu.contention = s.ssu.contention ∧
    (startRaise s).ssu.starved = s.ssu.starved ∧ (startRaise s).ssu.entryTimer = s.ssu.entryTimer ∧
    (startRaise s).ssu.exitTimer = s.ssu.exitTimer ∧ (startRaise s).ssu.listenIn = s.ssu.listenIn ∧
    (startRaise s).ssu.period = s.ssu.period ∧ (startRaise s).lpd = s.lpd ∧ (startRaise s).mu = s.mu ∧
    (startRaise s).cr = s.cr ∧ (startRaise s).sgc = s.sgc ∧ (startRaise s).sdu = s.sdu ∧ (startRaise s).re = s.re ∧
    (startRaise s).pu = s.pu := by
  unfold startRaise; (repeat' split) <;> simp

@[simp] theorem abandonRaise_keeps (s : State) :
    (abandonRaise s).pending = s.pending ∧ (abandonRaise s).run = s.run ∧ (abandonRaise s).config = s.config ∧
    (abandonRaise s).store = s.store ∧ (abandonRaise s).second = s.second ∧ (abandonRaise s).freeUses = s.freeUses ∧
    (abandonRaise s).link.rx = s.link.rx ∧ (abandonRaise s).link.tx = s.link.tx ∧
    (abandonRaise s).link.confirmation = s.link.confirmation ∧ (abandonRaise s).link.counters = s.link.counters ∧
    (abandonRaise s).link.latch = s.link.latch ∧ (abandonRaise s).link.lost = s.link.lost ∧
    (abandonRaise s).link.lfsr = s.link.lfsr ∧ (abandonRaise s).link.silence = s.link.silence ∧
    (abandonRaise s).link.restartOwed = s.link.restartOwed ∧ (abandonRaise s).od = s.od ∧
    (abandonRaise s).ssu.peers = s.ssu.peers ∧ (abandonRaise s).ssu.claim = s.ssu.claim ∧
    (abandonRaise s).ssu.announced = s.ssu.announced ∧ (abandonRaise s).ssu.lastA = s.ssu.lastA ∧
    (abandonRaise s).ssu.lastW = s.ssu.lastW ∧ (abandonRaise s).ssu.lastFo = s.ssu.lastFo ∧
    (abandonRaise s).ssu.contention = s.ssu.contention ∧ (abandonRaise s).ssu.starved = s.ssu.starved ∧
    (abandonRaise s).ssu.entryTimer = s.ssu.entryTimer ∧ (abandonRaise s).ssu.exitTimer = s.ssu.exitTimer ∧
    (abandonRaise s).ssu.listenIn = s.ssu.listenIn ∧ (abandonRaise s).ssu.period = s.ssu.period ∧
    (abandonRaise s).lpd = s.lpd ∧ (abandonRaise s).mu = s.mu ∧ (abandonRaise s).cr = s.cr ∧
    (abandonRaise s).sgc = s.sgc ∧ (abandonRaise s).sdu = s.sdu ∧ (abandonRaise s).re = s.re ∧
    (abandonRaise s).pu = s.pu := by
  unfold abandonRaise; (repeat' split) <;> simp

@[simp] theorem compute_keeps (s : State) :
    (compute s).pending = s.pending ∧ (compute s).run = s.run ∧ (compute s).config = s.config ∧
    (compute s).store = s.store ∧ (compute s).second = s.second ∧ (compute s).freeUses = s.freeUses ∧
    (compute s).link.rx = s.link.rx ∧ (compute s).link.tx = s.link.tx ∧
    (compute s).link.confirmation = s.link.confirmation ∧ (compute s).link.latch = s.link.latch ∧
    (compute s).link.lost = s.link.lost ∧ (compute s).link.lfsr = s.link.lfsr ∧
    (compute s).link.silence = s.link.silence ∧ (compute s).link.restartOwed = s.link.restartOwed ∧
    (compute s).od = s.od ∧ (compute s).ssu.peers = s.ssu.peers ∧ (compute s).ssu.claim = s.ssu.claim ∧
    (compute s).ssu.listenIn = s.ssu.listenIn ∧ (compute s).ssu.period = s.ssu.period ∧ (compute s).lpd = s.lpd ∧
    (compute s).mu = s.mu ∧ (compute s).cr = s.cr ∧ (compute s).sgc = s.sgc ∧ (compute s).sdu = s.sdu ∧
    (compute s).re.slotA = s.re.slotA ∧ (compute s).re.slotB = s.re.slotB ∧ (compute s).re.running = s.re.running ∧
    (compute s).re.queued = s.re.queued ∧ (compute s).re.context = s.re.context ∧
    (compute s).re.repeats = s.re.repeats ∧ (compute s).pu = s.pu := by
  unfold compute; (repeat' split) <;> simp

@[simp] theorem changeClaim_keeps (c : Nat) (s : State) :
    (changeClaim c s).pending = s.pending ∧ (changeClaim c s).run = s.run ∧ (changeClaim c s).config = s.config ∧
    (changeClaim c s).store = s.store ∧ (changeClaim c s).second = s.second ∧ (changeClaim c s).freeUses = s.freeUses ∧
    (changeClaim c s).link = s.link ∧ (changeClaim c s).od = s.od ∧ (changeClaim c s).ssu.peers = s.ssu.peers ∧
    (changeClaim c s).ssu.announced = s.ssu.announced ∧
    (changeClaim c s).ssu.raise = s.ssu.raise ∧ (changeClaim c s).ssu.lastA = s.ssu.lastA ∧
    (changeClaim c s).ssu.lastW = s.ssu.lastW ∧ (changeClaim c s).ssu.lastFo = s.ssu.lastFo ∧
    (changeClaim c s).ssu.contention = s.ssu.contention ∧ (changeClaim c s).ssu.listenIn = s.ssu.listenIn ∧
    (changeClaim c s).ssu.period = s.ssu.period ∧ (changeClaim c s).lpd = s.lpd ∧ (changeClaim c s).mu = s.mu ∧
    (changeClaim c s).cr = s.cr ∧ (changeClaim c s).sgc = s.sgc ∧ (changeClaim c s).sdu = s.sdu ∧
    (changeClaim c s).re.slotA = s.re.slotA ∧ (changeClaim c s).re.slotB = s.re.slotB ∧
    (changeClaim c s).re.running = s.re.running ∧ (changeClaim c s).re.queued = s.re.queued ∧
    (changeClaim c s).re.context = s.re.context ∧ (changeClaim c s).re.repeats = s.re.repeats ∧
    (changeClaim c s).pu = s.pu := by
  simp [changeClaim]

@[simp] theorem takeRaised_keeps (s : State) :
    (takeRaised s).pending = s.pending ∧ (takeRaised s).run = s.run ∧ (takeRaised s).config = s.config ∧
    (takeRaised s).store = s.store ∧ (takeRaised s).second = s.second ∧ (takeRaised s).freeUses = s.freeUses ∧
    (takeRaised s).link = s.link ∧ (takeRaised s).od = s.od ∧ (takeRaised s).ssu.peers = s.ssu.peers ∧
    (takeRaised s).ssu.announced = s.ssu.announced ∧ (takeRaised s).ssu.lastA = s.ssu.lastA ∧
    (takeRaised s).ssu.lastW = s.ssu.lastW ∧ (takeRaised s).ssu.lastFo = s.ssu.lastFo ∧
    (takeRaised s).ssu.contention = s.ssu.contention ∧ (takeRaised s).ssu.listenIn = s.ssu.listenIn ∧
    (takeRaised s).ssu.period = s.ssu.period ∧ (takeRaised s).lpd = s.lpd ∧ (takeRaised s).mu = s.mu ∧
    (takeRaised s).cr = s.cr ∧ (takeRaised s).sgc = s.sgc ∧ (takeRaised s).sdu = s.sdu ∧
    (takeRaised s).re.slotA = s.re.slotA ∧ (takeRaised s).re.slotB = s.re.slotB ∧
    (takeRaised s).re.running = s.re.running ∧ (takeRaised s).re.queued = s.re.queued ∧
    (takeRaised s).re.context = s.re.context ∧ (takeRaised s).re.repeats = s.re.repeats ∧
    (takeRaised s).pu = s.pu := by
  unfold takeRaised; (repeat' split) <;> simp

@[simp] theorem lowerClaim_keeps (s : State) :
    (lowerClaim s).pending = s.pending ∧ (lowerClaim s).run = s.run ∧ (lowerClaim s).config = s.config ∧
    (lowerClaim s).store = s.store ∧ (lowerClaim s).second = s.second ∧ (lowerClaim s).freeUses = s.freeUses ∧
    (lowerClaim s).link = s.link ∧ (lowerClaim s).od = s.od ∧ (lowerClaim s).ssu.peers = s.ssu.peers ∧
    (lowerClaim s).ssu.announced = s.ssu.announced ∧
    (lowerClaim s).ssu.raise = s.ssu.raise ∧ (lowerClaim s).ssu.lastA = s.ssu.lastA ∧
    (lowerClaim s).ssu.lastW = s.ssu.lastW ∧ (lowerClaim s).ssu.lastFo = s.ssu.lastFo ∧
    (lowerClaim s).ssu.contention = s.ssu.contention ∧ (lowerClaim s).ssu.listenIn = s.ssu.listenIn ∧
    (lowerClaim s).ssu.period = s.ssu.period ∧ (lowerClaim s).lpd = s.lpd ∧ (lowerClaim s).mu = s.mu ∧
    (lowerClaim s).cr = s.cr ∧ (lowerClaim s).sgc = s.sgc ∧ (lowerClaim s).sdu = s.sdu ∧
    (lowerClaim s).re.slotA = s.re.slotA ∧ (lowerClaim s).re.slotB = s.re.slotB ∧
    (lowerClaim s).re.running = s.re.running ∧ (lowerClaim s).re.queued = s.re.queued ∧
    (lowerClaim s).re.context = s.re.context ∧ (lowerClaim s).re.repeats = s.re.repeats ∧
    (lowerClaim s).pu = s.pu := by
  unfold lowerClaim; (repeat' split) <;> simp

@[simp] theorem claimNotice_keeps (ended : Bool) (before : Nat) (s : State) :
    (claimNotice ended before s).pending = s.pending ∧ (claimNotice ended before s).run = s.run ∧
    (claimNotice ended before s).config = s.config ∧ (claimNotice ended before s).store = s.store ∧
    (claimNotice ended before s).second = s.second ∧ (claimNotice ended before s).freeUses = s.freeUses ∧
    (claimNotice ended before s).link.rx = s.link.rx ∧ (claimNotice ended before s).link.tx = s.link.tx ∧
    (claimNotice ended before s).link.confirmation = s.link.confirmation ∧
    (claimNotice ended before s).link.latch = s.link.latch ∧ (claimNotice ended before s).link.lost = s.link.lost ∧
    (claimNotice ended before s).link.lfsr = s.link.lfsr ∧
    (claimNotice ended before s).link.silence = s.link.silence ∧
    (claimNotice ended before s).link.restartOwed = s.link.restartOwed ∧ (claimNotice ended before s).od = s.od ∧
    (claimNotice ended before s).ssu.peers = s.ssu.peers ∧ (claimNotice ended before s).ssu.claim = s.ssu.claim ∧
    (claimNotice ended before s).ssu.raise = s.ssu.raise ∧ (claimNotice ended before s).ssu.lastA = s.ssu.lastA ∧
    (claimNotice ended before s).ssu.lastW = s.ssu.lastW ∧ (claimNotice ended before s).ssu.lastFo = s.ssu.lastFo ∧
    (claimNotice ended before s).ssu.contention = s.ssu.contention ∧
    (claimNotice ended before s).ssu.starved = s.ssu.starved ∧
    (claimNotice ended before s).ssu.entryTimer = s.ssu.entryTimer ∧
    (claimNotice ended before s).ssu.exitTimer = s.ssu.exitTimer ∧
    (claimNotice ended before s).ssu.listenIn = s.ssu.listenIn ∧
    (claimNotice ended before s).ssu.period = s.ssu.period ∧ (claimNotice ended before s).lpd = s.lpd ∧
    (claimNotice ended before s).mu = s.mu ∧ (claimNotice ended before s).cr = s.cr ∧
    (claimNotice ended before s).sgc = s.sgc ∧ (claimNotice ended before s).sdu = s.sdu ∧
    (claimNotice ended before s).re = s.re ∧ (claimNotice ended before s).pu = s.pu := by
  unfold claimNotice; (repeat' split) <;> simp

@[simp] theorem claimPoint_keeps (s : State) :
    (claimPoint s).pending = s.pending ∧ (claimPoint s).run = s.run ∧ (claimPoint s).config = s.config ∧
    (claimPoint s).store = s.store ∧ (claimPoint s).second = s.second ∧ (claimPoint s).freeUses = s.freeUses ∧
    (claimPoint s).link.rx = s.link.rx ∧ (claimPoint s).link.tx = s.link.tx ∧
    (claimPoint s).link.confirmation = s.link.confirmation ∧ (claimPoint s).link.latch = s.link.latch ∧
    (claimPoint s).link.lost = s.link.lost ∧ (claimPoint s).link.lfsr = s.link.lfsr ∧
    (claimPoint s).link.silence = s.link.silence ∧ (claimPoint s).link.restartOwed = s.link.restartOwed ∧
    (claimPoint s).od = s.od ∧ (claimPoint s).ssu.peers = s.ssu.peers ∧
    (claimPoint s).ssu.listenIn = s.ssu.listenIn ∧ (claimPoint s).ssu.period = s.ssu.period ∧
    (claimPoint s).lpd = s.lpd ∧ (claimPoint s).mu = s.mu ∧ (claimPoint s).cr = s.cr ∧ (claimPoint s).sgc = s.sgc ∧
    (claimPoint s).sdu = s.sdu ∧ (claimPoint s).re.slotA = s.re.slotA ∧ (claimPoint s).re.slotB = s.re.slotB ∧
    (claimPoint s).re.running = s.re.running ∧ (claimPoint s).re.queued = s.re.queued ∧
    (claimPoint s).re.context = s.re.context ∧ (claimPoint s).re.repeats = s.re.repeats ∧ (claimPoint s).pu = s.pu := by
  unfold claimPoint; (repeat' split) <;> simp

end Sys2Proof.Machine
end

