-- ==== Sys2Proof/Laws/ClimateLaws.lean ====
section
/-! SUPPORT. What the climate regulator leave as it is: for each operation, every field of State it cannot change. -/

namespace Sys2Proof.Machine

@[simp] theorem judgeVent_keeps (s : State) :
    (judgeVent s).pending = s.pending ∧ (judgeVent s).run = s.run ∧ (judgeVent s).config = s.config ∧
    (judgeVent s).store = s.store ∧ (judgeVent s).second = s.second ∧ (judgeVent s).freeUses = s.freeUses ∧
    (judgeVent s).link = s.link ∧ (judgeVent s).od = s.od ∧ (judgeVent s).ssu = s.ssu ∧ (judgeVent s).lpd = s.lpd ∧
    (judgeVent s).mu = s.mu ∧ (judgeVent s).cr.owner = s.cr.owner ∧ (judgeVent s).cr.request = s.cr.request ∧
    (judgeVent s).cr.temperature = s.cr.temperature ∧ (judgeVent s).cr.humidity = s.cr.humidity ∧
    (judgeVent s).cr.fanCycle = s.cr.fanCycle ∧ (judgeVent s).sgc = s.sgc ∧ (judgeVent s).sdu = s.sdu ∧
    (judgeVent s).re = s.re ∧ (judgeVent s).pu = s.pu := by
  unfold judgeVent; (repeat' split) <;> simp

@[simp] theorem refreshFan_keeps (s : State) :
    (refreshFan s).pending = s.pending ∧ (refreshFan s).run = s.run ∧ (refreshFan s).config = s.config ∧
    (refreshFan s).store = s.store ∧ (refreshFan s).second = s.second ∧ (refreshFan s).freeUses = s.freeUses ∧
    (refreshFan s).link = s.link ∧ (refreshFan s).od = s.od ∧ (refreshFan s).ssu = s.ssu ∧
    (refreshFan s).lpd = s.lpd ∧ (refreshFan s).mu = s.mu ∧ (refreshFan s).cr.owner = s.cr.owner ∧
    (refreshFan s).cr.request = s.cr.request ∧ (refreshFan s).cr.temperature = s.cr.temperature ∧
    (refreshFan s).cr.humidity = s.cr.humidity ∧ (refreshFan s).cr.ventOpen = s.cr.ventOpen ∧
    (refreshFan s).sgc = s.sgc ∧ (refreshFan s).sdu = s.sdu ∧ (refreshFan s).re = s.re ∧ (refreshFan s).pu = s.pu := by
  unfold refreshFan; (repeat' split) <;> simp

@[simp] theorem restRegulators_keeps (s : State) :
    (restRegulators s).pending = s.pending ∧ (restRegulators s).run = s.run ∧ (restRegulators s).config = s.config ∧
    (restRegulators s).store = s.store ∧ (restRegulators s).second = s.second ∧
    (restRegulators s).freeUses = s.freeUses ∧ (restRegulators s).link = s.link ∧ (restRegulators s).od = s.od ∧
    (restRegulators s).ssu = s.ssu ∧ (restRegulators s).lpd.drive = s.lpd.drive ∧
    (restRegulators s).lpd.half = s.lpd.half ∧ (restRegulators s).lpd.pool = s.lpd.pool ∧
    (restRegulators s).lpd.shed = s.lpd.shed ∧ (restRegulators s).lpd.gates = s.lpd.gates ∧
    (restRegulators s).lpd.sinceCrossing = s.lpd.sinceCrossing ∧ (restRegulators s).mu = s.mu ∧
    (restRegulators s).cr.owner = s.cr.owner ∧ (restRegulators s).cr.request = s.cr.request ∧
    (restRegulators s).cr.ventOpen = s.cr.ventOpen ∧ (restRegulators s).cr.fanCycle = s.cr.fanCycle ∧
    (restRegulators s).sgc.state = s.sgc.state ∧ (restRegulators s).sgc.user = s.sgc.user ∧
    (restRegulators s).sgc.steamWanted = s.sgc.steamWanted ∧ (restRegulators s).sgc.derate = s.sgc.derate ∧
    (restRegulators s).sgc.pulses = s.sgc.pulses ∧ (restRegulators s).sgc.pulseTimer = s.sgc.pulseTimer ∧
    (restRegulators s).sgc.pumpDrive = s.sgc.pumpDrive ∧ (restRegulators s).sgc.wait = s.sgc.wait ∧
    (restRegulators s).sgc.limitMark = s.sgc.limitMark ∧ (restRegulators s).sgc.coolTime = s.sgc.coolTime ∧
    (restRegulators s).sgc.drainCount = s.sgc.drainCount ∧ (restRegulators s).sdu = s.sdu ∧
    (restRegulators s).re = s.re ∧ (restRegulators s).pu = s.pu := by
  unfold restRegulators; (repeat' split) <;> simp

@[simp] theorem writeRequest_keeps (o : Owner) (r : Request) (s : State) :
    (writeRequest o r s).pending = s.pending ∧ (writeRequest o r s).run = s.run ∧
    (writeRequest o r s).config = s.config ∧ (writeRequest o r s).store = s.store ∧
    (writeRequest o r s).second = s.second ∧ (writeRequest o r s).freeUses = s.freeUses ∧
    (writeRequest o r s).link = s.link ∧ (writeRequest o r s).od.power = s.od.power ∧
    (writeRequest o r s).od.restartPending = s.od.restartPending ∧ (writeRequest o r s).od.cycle = s.od.cycle ∧
    (writeRequest o r s).od.cycleTimer = s.od.cycleTimer ∧ (writeRequest o r s).od.eventsTimer = s.od.eventsTimer ∧
    (writeRequest o r s).od.diagTimer = s.od.diagTimer ∧ (writeRequest o r s).ssu = s.ssu ∧
    (writeRequest o r s).lpd.drive = s.lpd.drive ∧ (writeRequest o r s).lpd.half = s.lpd.half ∧
    (writeRequest o r s).lpd.pool = s.lpd.pool ∧ (writeRequest o r s).lpd.shed = s.lpd.shed ∧
    (writeRequest o r s).lpd.gates = s.lpd.gates ∧ (writeRequest o r s).lpd.sinceCrossing = s.lpd.sinceCrossing ∧
    (writeRequest o r s).mu = s.mu ∧ (writeRequest o r s).sgc.user = s.sgc.user ∧
    (writeRequest o r s).sgc.derate = s.sgc.derate ∧ (writeRequest o r s).sdu.account = s.sdu.account ∧
    (writeRequest o r s).sdu.hardness = s.sdu.hardness ∧ (writeRequest o r s).sdu.mark = s.sdu.mark ∧
    (writeRequest o r s).sdu.phase = s.sdu.phase ∧ (writeRequest o r s).sdu.lockingFrom = s.sdu.lockingFrom ∧
    (writeRequest o r s).sdu.soakCount = s.sdu.soakCount ∧ (writeRequest o r s).sdu.rinseCycle = s.sdu.rinseCycle ∧
    (writeRequest o r s).sdu.rinseStep = s.sdu.rinseStep ∧
    (writeRequest o r s).sdu.heatingTime = s.sdu.heatingTime ∧ (writeRequest o r s).sdu.drained = s.sdu.drained ∧
    (writeRequest o r s).sdu.retry = s.sdu.retry ∧ (writeRequest o r s).sdu.failures = s.sdu.failures ∧
    (writeRequest o r s).re.slotA = s.re.slotA ∧ (writeRequest o r s).re.slotB = s.re.slotB ∧
    (writeRequest o r s).re.running = s.re.running ∧ (writeRequest o r s).re.queued = s.re.queued ∧
    (writeRequest o r s).re.context = s.re.context ∧ (writeRequest o r s).re.repeats = s.re.repeats ∧
    (writeRequest o r s).pu = s.pu := by
  unfold writeRequest; dsimp only; (repeat' split) <;> simp

@[simp] theorem dropRequest_keeps (o : Owner) (s : State) :
    (dropRequest o s).pending = s.pending ∧ (dropRequest o s).run = s.run ∧ (dropRequest o s).config = s.config ∧
    (dropRequest o s).store = s.store ∧ (dropRequest o s).second = s.second ∧
    (dropRequest o s).freeUses = s.freeUses ∧ (dropRequest o s).link = s.link ∧
    (dropRequest o s).od.power = s.od.power ∧ (dropRequest o s).od.restartPending = s.od.restartPending ∧
    (dropRequest o s).od.cycle = s.od.cycle ∧ (dropRequest o s).od.cycleTimer = s.od.cycleTimer ∧
    (dropRequest o s).od.eventsTimer = s.od.eventsTimer ∧ (dropRequest o s).od.diagTimer = s.od.diagTimer ∧
    (dropRequest o s).ssu.peers = s.ssu.peers ∧ (dropRequest o s).ssu.claim = s.ssu.claim ∧
    (dropRequest o s).ssu.announced = s.ssu.announced ∧ (dropRequest o s).ssu.raise = s.ssu.raise ∧
    (dropRequest o s).ssu.lastA = s.ssu.lastA ∧ (dropRequest o s).ssu.lastW = s.ssu.lastW ∧
    (dropRequest o s).ssu.lastFo = s.ssu.lastFo ∧ (dropRequest o s).ssu.contention = s.ssu.contention ∧
    (dropRequest o s).ssu.listenIn = s.ssu.listenIn ∧ (dropRequest o s).ssu.period = s.ssu.period ∧
    (dropRequest o s).lpd.drive = s.lpd.drive ∧ (dropRequest o s).lpd.half = s.lpd.half ∧
    (dropRequest o s).lpd.pool = s.lpd.pool ∧ (dropRequest o s).lpd.shed = s.lpd.shed ∧
    (dropRequest o s).lpd.gates = s.lpd.gates ∧ (dropRequest o s).lpd.sinceCrossing = s.lpd.sinceCrossing ∧
    (dropRequest o s).mu = s.mu ∧ (dropRequest o s).sgc.user = s.sgc.user ∧
    (dropRequest o s).sgc.derate = s.sgc.derate ∧ (dropRequest o s).sdu.account = s.sdu.account ∧
    (dropRequest o s).sdu.hardness = s.sdu.hardness ∧ (dropRequest o s).sdu.mark = s.sdu.mark ∧
    (dropRequest o s).sdu.phase = s.sdu.phase ∧ (dropRequest o s).sdu.lockingFrom = s.sdu.lockingFrom ∧
    (dropRequest o s).sdu.soakCount = s.sdu.soakCount ∧ (dropRequest o s).sdu.rinseCycle = s.sdu.rinseCycle ∧
    (dropRequest o s).sdu.rinseStep = s.sdu.rinseStep ∧ (dropRequest o s).sdu.heatingTime = s.sdu.heatingTime ∧
    (dropRequest o s).sdu.drained = s.sdu.drained ∧ (dropRequest o s).sdu.retry = s.sdu.retry ∧
    (dropRequest o s).sdu.failures = s.sdu.failures ∧ (dropRequest o s).re.slotA = s.re.slotA ∧
    (dropRequest o s).re.slotB = s.re.slotB ∧ (dropRequest o s).re.running = s.re.running ∧
    (dropRequest o s).re.queued = s.re.queued ∧ (dropRequest o s).re.context = s.re.context ∧
    (dropRequest o s).re.repeats = s.re.repeats ∧ (dropRequest o s).pu = s.pu := by
  unfold dropRequest; (repeat' split) <;> simp

@[simp] theorem endRequest_keeps (s : State) :
    (endRequest s).pending = s.pending ∧ (endRequest s).run = s.run ∧ (endRequest s).config = s.config ∧
    (endRequest s).store = s.store ∧ (endRequest s).second = s.second ∧ (endRequest s).freeUses = s.freeUses ∧
    (endRequest s).link = s.link ∧ (endRequest s).od.power = s.od.power ∧
    (endRequest s).od.restartPending = s.od.restartPending ∧ (endRequest s).od.cycle = s.od.cycle ∧
    (endRequest s).od.cycleTimer = s.od.cycleTimer ∧ (endRequest s).od.eventsTimer = s.od.eventsTimer ∧
    (endRequest s).od.diagTimer = s.od.diagTimer ∧ (endRequest s).ssu.peers = s.ssu.peers ∧
    (endRequest s).ssu.claim = s.ssu.claim ∧ (endRequest s).ssu.announced = s.ssu.announced ∧
    (endRequest s).ssu.raise = s.ssu.raise ∧ (endRequest s).ssu.lastA = s.ssu.lastA ∧
    (endRequest s).ssu.lastW = s.ssu.lastW ∧ (endRequest s).ssu.lastFo = s.ssu.lastFo ∧
    (endRequest s).ssu.contention = s.ssu.contention ∧ (endRequest s).ssu.listenIn = s.ssu.listenIn ∧
    (endRequest s).ssu.period = s.ssu.period ∧ (endRequest s).lpd.drive = s.lpd.drive ∧
    (endRequest s).lpd.half = s.lpd.half ∧ (endRequest s).lpd.pool = s.lpd.pool ∧
    (endRequest s).lpd.shed = s.lpd.shed ∧ (endRequest s).lpd.gates = s.lpd.gates ∧
    (endRequest s).lpd.sinceCrossing = s.lpd.sinceCrossing ∧ (endRequest s).mu = s.mu ∧
    (endRequest s).sgc.user = s.sgc.user ∧ (endRequest s).sgc.derate = s.sgc.derate ∧
    (endRequest s).sdu.account = s.sdu.account ∧ (endRequest s).sdu.hardness = s.sdu.hardness ∧
    (endRequest s).sdu.mark = s.sdu.mark ∧ (endRequest s).sdu.phase = s.sdu.phase ∧
    (endRequest s).sdu.lockingFrom = s.sdu.lockingFrom ∧ (endRequest s).sdu.soakCount = s.sdu.soakCount ∧
    (endRequest s).sdu.rinseCycle = s.sdu.rinseCycle ∧ (endRequest s).sdu.rinseStep = s.sdu.rinseStep ∧
    (endRequest s).sdu.heatingTime = s.sdu.heatingTime ∧ (endRequest s).sdu.drained = s.sdu.drained ∧
    (endRequest s).sdu.retry = s.sdu.retry ∧ (endRequest s).sdu.failures = s.sdu.failures ∧
    (endRequest s).re.slotA = s.re.slotA ∧ (endRequest s).re.slotB = s.re.slotB ∧
    (endRequest s).re.running = s.re.running ∧ (endRequest s).re.queued = s.re.queued ∧
    (endRequest s).re.context = s.re.context ∧ (endRequest s).re.repeats = s.re.repeats ∧ (endRequest s).pu = s.pu := by
  unfold endRequest; (repeat' split) <;> simp

@[simp] theorem holdWithoutMode_keeps (s : State) :
    (holdWithoutMode s).pending = s.pending ∧ (holdWithoutMode s).run = s.run ∧
    (holdWithoutMode s).config = s.config ∧ (holdWithoutMode s).store = s.store ∧
    (holdWithoutMode s).second = s.second ∧ (holdWithoutMode s).freeUses = s.freeUses ∧
    (holdWithoutMode s).link = s.link ∧ (holdWithoutMode s).od.power = s.od.power ∧
    (holdWithoutMode s).od.restartPending = s.od.restartPending ∧ (holdWithoutMode s).od.cycle = s.od.cycle ∧
    (holdWithoutMode s).od.cycleTimer = s.od.cycleTimer ∧ (holdWithoutMode s).od.eventsTimer = s.od.eventsTimer ∧
    (holdWithoutMode s).od.diagTimer = s.od.diagTimer ∧ (holdWithoutMode s).ssu.peers = s.ssu.peers ∧
    (holdWithoutMode s).ssu.claim = s.ssu.claim ∧ (holdWithoutMode s).ssu.announced = s.ssu.announced ∧
    (holdWithoutMode s).ssu.raise = s.ssu.raise ∧ (holdWithoutMode s).ssu.lastA = s.ssu.lastA ∧
    (holdWithoutMode s).ssu.lastW = s.ssu.lastW ∧ (holdWithoutMode s).ssu.lastFo = s.ssu.lastFo ∧
    (holdWithoutMode s).ssu.contention = s.ssu.contention ∧ (holdWithoutMode s).ssu.listenIn = s.ssu.listenIn ∧
    (holdWithoutMode s).ssu.period = s.ssu.period ∧ (holdWithoutMode s).lpd.drive = s.lpd.drive ∧
    (holdWithoutMode s).lpd.half = s.lpd.half ∧ (holdWithoutMode s).lpd.pool = s.lpd.pool ∧
    (holdWithoutMode s).lpd.shed = s.lpd.shed ∧ (holdWithoutMode s).lpd.gates = s.lpd.gates ∧
    (holdWithoutMode s).lpd.sinceCrossing = s.lpd.sinceCrossing ∧ (holdWithoutMode s).mu = s.mu ∧
    (holdWithoutMode s).sgc.user = s.sgc.user ∧ (holdWithoutMode s).sgc.derate = s.sgc.derate ∧
    (holdWithoutMode s).sdu.account = s.sdu.account ∧ (holdWithoutMode s).sdu.hardness = s.sdu.hardness ∧
    (holdWithoutMode s).sdu.mark = s.sdu.mark ∧ (holdWithoutMode s).sdu.phase = s.sdu.phase ∧
    (holdWithoutMode s).sdu.lockingFrom = s.sdu.lockingFrom ∧ (holdWithoutMode s).sdu.soakCount = s.sdu.soakCount ∧
    (holdWithoutMode s).sdu.rinseCycle = s.sdu.rinseCycle ∧ (holdWithoutMode s).sdu.rinseStep = s.sdu.rinseStep ∧
    (holdWithoutMode s).sdu.heatingTime = s.sdu.heatingTime ∧ (holdWithoutMode s).sdu.drained = s.sdu.drained ∧
    (holdWithoutMode s).sdu.retry = s.sdu.retry ∧ (holdWithoutMode s).sdu.failures = s.sdu.failures ∧
    (holdWithoutMode s).re.slotA = s.re.slotA ∧ (holdWithoutMode s).re.slotB = s.re.slotB ∧
    (holdWithoutMode s).re.running = s.re.running ∧ (holdWithoutMode s).re.queued = s.re.queued ∧
    (holdWithoutMode s).re.context = s.re.context ∧ (holdWithoutMode s).re.repeats = s.re.repeats ∧
    (holdWithoutMode s).pu = s.pu := by
  unfold holdWithoutMode; (repeat' split) <;> simp

@[simp] theorem climateTripped_keeps (s : State) :
    (climateTripped s).pending = s.pending ∧ (climateTripped s).run = s.run ∧ (climateTripped s).config = s.config ∧
    (climateTripped s).store = s.store ∧ (climateTripped s).second = s.second ∧
    (climateTripped s).freeUses = s.freeUses ∧ (climateTripped s).link = s.link ∧
    (climateTripped s).od.power = s.od.power ∧ (climateTripped s).od.restartPending = s.od.restartPending ∧
    (climateTripped s).od.cycle = s.od.cycle ∧ (climateTripped s).od.cycleTimer = s.od.cycleTimer ∧
    (climateTripped s).od.eventsTimer = s.od.eventsTimer ∧ (climateTripped s).od.diagTimer = s.od.diagTimer ∧
    (climateTripped s).ssu.peers = s.ssu.peers ∧ (climateTripped s).ssu.claim = s.ssu.claim ∧
    (climateTripped s).ssu.announced = s.ssu.announced ∧ (climateTripped s).ssu.raise = s.ssu.raise ∧
    (climateTripped s).ssu.lastA = s.ssu.lastA ∧ (climateTripped s).ssu.lastW = s.ssu.lastW ∧
    (climateTripped s).ssu.lastFo = s.ssu.lastFo ∧ (climateTripped s).ssu.contention = s.ssu.contention ∧
    (climateTripped s).ssu.listenIn = s.ssu.listenIn ∧ (climateTripped s).ssu.period = s.ssu.period ∧
    (climateTripped s).lpd.drive = s.lpd.drive ∧ (climateTripped s).lpd.half = s.lpd.half ∧
    (climateTripped s).lpd.pool = s.lpd.pool ∧ (climateTripped s).lpd.shed = s.lpd.shed ∧
    (climateTripped s).lpd.gates = s.lpd.gates ∧ (climateTripped s).lpd.sinceCrossing = s.lpd.sinceCrossing ∧
    (climateTripped s).mu = s.mu ∧ (climateTripped s).sgc.user = s.sgc.user ∧
    (climateTripped s).sgc.derate = s.sgc.derate ∧ (climateTripped s).sdu.account = s.sdu.account ∧
    (climateTripped s).sdu.hardness = s.sdu.hardness ∧ (climateTripped s).sdu.mark = s.sdu.mark ∧
    (climateTripped s).sdu.phase = s.sdu.phase ∧ (climateTripped s).sdu.lockingFrom = s.sdu.lockingFrom ∧
    (climateTripped s).sdu.soakCount = s.sdu.soakCount ∧ (climateTripped s).sdu.rinseCycle = s.sdu.rinseCycle ∧
    (climateTripped s).sdu.rinseStep = s.sdu.rinseStep ∧ (climateTripped s).sdu.heatingTime = s.sdu.heatingTime ∧
    (climateTripped s).sdu.drained = s.sdu.drained ∧ (climateTripped s).sdu.retry = s.sdu.retry ∧
    (climateTripped s).sdu.failures = s.sdu.failures ∧ (climateTripped s).re.slotA = s.re.slotA ∧
    (climateTripped s).re.slotB = s.re.slotB ∧ (climateTripped s).re.running = s.re.running ∧
    (climateTripped s).re.queued = s.re.queued ∧ (climateTripped s).re.context = s.re.context ∧
    (climateTripped s).re.repeats = s.re.repeats ∧ (climateTripped s).pu = s.pu := by
  unfold climateTripped; (repeat' split) <;> simp

@[simp] theorem handSteam_keeps (u : Nat) (s : State) :
    (handSteam u s).pending = s.pending ∧ (handSteam u s).run = s.run ∧ (handSteam u s).config = s.config ∧
    (handSteam u s).store = s.store ∧ (handSteam u s).second = s.second ∧ (handSteam u s).freeUses = s.freeUses ∧
    (handSteam u s).link = s.link ∧ (handSteam u s).od = s.od ∧ (handSteam u s).ssu = s.ssu ∧
    (handSteam u s).lpd.drive = s.lpd.drive ∧ (handSteam u s).lpd.half = s.lpd.half ∧
    (handSteam u s).lpd.loads.top = s.lpd.loads.top ∧ (handSteam u s).lpd.loads.bottom = s.lpd.loads.bottom ∧
    (handSteam u s).lpd.loads.ring = s.lpd.loads.ring ∧ (handSteam u s).lpd.pool = s.lpd.pool ∧
    (handSteam u s).lpd.shed = s.lpd.shed ∧ (handSteam u s).lpd.gates = s.lpd.gates ∧
    (handSteam u s).lpd.sinceCrossing = s.lpd.sinceCrossing ∧ (handSteam u s).mu = s.mu ∧
    (handSteam u s).cr = s.cr ∧ (handSteam u s).sgc.state = s.sgc.state ∧ (handSteam u s).sgc.user = s.sgc.user ∧
    (handSteam u s).sgc.steamWanted = s.sgc.steamWanted ∧ (handSteam u s).sgc.derate = s.sgc.derate ∧
    (handSteam u s).sgc.pulses = s.sgc.pulses ∧ (handSteam u s).sgc.pulseTimer = s.sgc.pulseTimer ∧
    (handSteam u s).sgc.pumpDrive = s.sgc.pumpDrive ∧ (handSteam u s).sgc.wait = s.sgc.wait ∧
    (handSteam u s).sgc.limitMark = s.sgc.limitMark ∧ (handSteam u s).sgc.coolTime = s.sgc.coolTime ∧
    (handSteam u s).sgc.drainCount = s.sgc.drainCount ∧ (handSteam u s).sdu = s.sdu ∧ (handSteam u s).re = s.re ∧
    (handSteam u s).pu = s.pu := by
  unfold handSteam; (repeat' split) <;> simp

@[simp] theorem stepRegulators_keeps (r : Request) (s : State) :
    (stepRegulators r s).pending = s.pending ∧ (stepRegulators r s).run = s.run ∧
    (stepRegulators r s).config = s.config ∧ (stepRegulators r s).store = s.store ∧
    (stepRegulators r s).second = s.second ∧ (stepRegulators r s).freeUses = s.freeUses ∧
    (stepRegulators r s).link = s.link ∧ (stepRegulators r s).od = s.od ∧ (stepRegulators r s).ssu = s.ssu ∧
    (stepRegulators r s).lpd.drive = s.lpd.drive ∧ (stepRegulators r s).lpd.half = s.lpd.half ∧
    (stepRegulators r s).lpd.pool = s.lpd.pool ∧ (stepRegulators r s).lpd.shed = s.lpd.shed ∧
    (stepRegulators r s).lpd.gates = s.lpd.gates ∧ (stepRegulators r s).lpd.sinceCrossing = s.lpd.sinceCrossing ∧
    (stepRegulators r s).mu = s.mu ∧ (stepRegulators r s).cr.owner = s.cr.owner ∧
    (stepRegulators r s).cr.request = s.cr.request ∧ (stepRegulators r s).cr.fanCycle = s.cr.fanCycle ∧
    (stepRegulators r s).sgc.state = s.sgc.state ∧ (stepRegulators r s).sgc.user = s.sgc.user ∧
    (stepRegulators r s).sgc.steamWanted = s.sgc.steamWanted ∧ (stepRegulators r s).sgc.derate = s.sgc.derate ∧
    (stepRegulators r s).sgc.pulses = s.sgc.pulses ∧ (stepRegulators r s).sgc.pulseTimer = s.sgc.pulseTimer ∧
    (stepRegulators r s).sgc.pumpDrive = s.sgc.pumpDrive ∧ (stepRegulators r s).sgc.wait = s.sgc.wait ∧
    (stepRegulators r s).sgc.limitMark = s.sgc.limitMark ∧ (stepRegulators r s).sgc.coolTime = s.sgc.coolTime ∧
    (stepRegulators r s).sgc.drainCount = s.sgc.drainCount ∧ (stepRegulators r s).sdu = s.sdu ∧
    (stepRegulators r s).re = s.re ∧ (stepRegulators r s).pu = s.pu := by
  unfold stepRegulators; (repeat' split) <;> simp

@[simp] theorem regulatorTick_keeps (s : State) :
    (regulatorTick s).pending = s.pending ∧ (regulatorTick s).run = s.run ∧ (regulatorTick s).config = s.config ∧
    (regulatorTick s).store = s.store ∧ (regulatorTick s).second = s.second ∧
    (regulatorTick s).freeUses = s.freeUses ∧ (regulatorTick s).link.rx = s.link.rx ∧
    (regulatorTick s).link.tx = s.link.tx ∧ (regulatorTick s).link.confirmation = s.link.confirmation ∧
    (regulatorTick s).link.latch = s.link.latch ∧ (regulatorTick s).link.lost = s.link.lost ∧
    (regulatorTick s).link.lfsr = s.link.lfsr ∧ (regulatorTick s).link.silence = s.link.silence ∧
    (regulatorTick s).link.restartOwed = s.link.restartOwed ∧ (regulatorTick s).od = s.od ∧
    (regulatorTick s).ssu.peers = s.ssu.peers ∧ (regulatorTick s).ssu.claim = s.ssu.claim ∧
    (regulatorTick s).ssu.listenIn = s.ssu.listenIn ∧ (regulatorTick s).ssu.period = s.ssu.period ∧
    (regulatorTick s).lpd.drive = s.lpd.drive ∧ (regulatorTick s).lpd.half = s.lpd.half ∧
    (regulatorTick s).lpd.pool = s.lpd.pool ∧ (regulatorTick s).lpd.shed = s.lpd.shed ∧
    (regulatorTick s).lpd.gates = s.lpd.gates ∧ (regulatorTick s).lpd.sinceCrossing = s.lpd.sinceCrossing ∧
    (regulatorTick s).mu = s.mu ∧ (regulatorTick s).cr.owner = s.cr.owner ∧
    (regulatorTick s).cr.request = s.cr.request ∧ (regulatorTick s).cr.fanCycle = s.cr.fanCycle ∧
    (regulatorTick s).sgc.state = s.sgc.state ∧ (regulatorTick s).sgc.user = s.sgc.user ∧
    (regulatorTick s).sgc.steamWanted = s.sgc.steamWanted ∧ (regulatorTick s).sgc.derate = s.sgc.derate ∧
    (regulatorTick s).sgc.pulses = s.sgc.pulses ∧ (regulatorTick s).sgc.pulseTimer = s.sgc.pulseTimer ∧
    (regulatorTick s).sgc.pumpDrive = s.sgc.pumpDrive ∧ (regulatorTick s).sgc.wait = s.sgc.wait ∧
    (regulatorTick s).sgc.limitMark = s.sgc.limitMark ∧ (regulatorTick s).sgc.coolTime = s.sgc.coolTime ∧
    (regulatorTick s).sgc.drainCount = s.sgc.drainCount ∧ (regulatorTick s).sdu = s.sdu ∧
    (regulatorTick s).re.slotA = s.re.slotA ∧ (regulatorTick s).re.slotB = s.re.slotB ∧
    (regulatorTick s).re.running = s.re.running ∧ (regulatorTick s).re.queued = s.re.queued ∧
    (regulatorTick s).re.context = s.re.context ∧ (regulatorTick s).re.repeats = s.re.repeats ∧
    (regulatorTick s).pu = s.pu := by
  unfold regulatorTick; (repeat' split) <;> simp

end Sys2Proof.Machine
end

