-- ==== Sys2Proof/Laws/ProtectLaws.lean ====
section
/-! SUPPORT. What the protection unit leave as it is: for each operation, every field of State it cannot change. -/

namespace Sys2Proof.Machine

@[simp] theorem tellAdded_keeps (k : Trip) (s : State) :
    (tellAdded k s).pending = s.pending ∧ (tellAdded k s).run = s.run ∧ (tellAdded k s).config = s.config ∧
    (tellAdded k s).store = s.store ∧ (tellAdded k s).second = s.second ∧ (tellAdded k s).freeUses = s.freeUses ∧
    (tellAdded k s).link = s.link ∧ (tellAdded k s).od.power = s.od.power ∧
    (tellAdded k s).od.restartPending = s.od.restartPending ∧ (tellAdded k s).od.cycle = s.od.cycle ∧
    (tellAdded k s).od.cycleTimer = s.od.cycleTimer ∧ (tellAdded k s).od.eventsTimer = s.od.eventsTimer ∧
    (tellAdded k s).od.diagTimer = s.od.diagTimer ∧ (tellAdded k s).ssu.peers = s.ssu.peers ∧
    (tellAdded k s).ssu.claim = s.ssu.claim ∧ (tellAdded k s).ssu.announced = s.ssu.announced ∧
    (tellAdded k s).ssu.raise = s.ssu.raise ∧ (tellAdded k s).ssu.lastA = s.ssu.lastA ∧
    (tellAdded k s).ssu.lastW = s.ssu.lastW ∧ (tellAdded k s).ssu.lastFo = s.ssu.lastFo ∧
    (tellAdded k s).ssu.contention = s.ssu.contention ∧ (tellAdded k s).ssu.listenIn = s.ssu.listenIn ∧
    (tellAdded k s).ssu.period = s.ssu.period ∧ (tellAdded k s).lpd.drive = s.lpd.drive ∧
    (tellAdded k s).lpd.half = s.lpd.half ∧ (tellAdded k s).lpd.pool = s.lpd.pool ∧
    (tellAdded k s).lpd.shed = s.lpd.shed ∧ (tellAdded k s).lpd.gates = s.lpd.gates ∧
    (tellAdded k s).lpd.sinceCrossing = s.lpd.sinceCrossing ∧ (tellAdded k s).mu = s.mu ∧
    (tellAdded k s).sgc.user = s.sgc.user ∧ (tellAdded k s).sgc.derate = s.sgc.derate ∧
    (tellAdded k s).sdu.account = s.sdu.account ∧ (tellAdded k s).sdu.hardness = s.sdu.hardness ∧
    (tellAdded k s).sdu.mark = s.sdu.mark ∧ (tellAdded k s).sdu.phase = s.sdu.phase ∧
    (tellAdded k s).sdu.lockingFrom = s.sdu.lockingFrom ∧ (tellAdded k s).sdu.soakCount = s.sdu.soakCount ∧
    (tellAdded k s).sdu.rinseCycle = s.sdu.rinseCycle ∧ (tellAdded k s).sdu.rinseStep = s.sdu.rinseStep ∧
    (tellAdded k s).sdu.heatingTime = s.sdu.heatingTime ∧ (tellAdded k s).sdu.drained = s.sdu.drained ∧
    (tellAdded k s).sdu.retry = s.sdu.retry ∧ (tellAdded k s).sdu.failures = s.sdu.failures ∧
    (tellAdded k s).re.slotA = s.re.slotA ∧ (tellAdded k s).re.slotB = s.re.slotB ∧
    (tellAdded k s).re.running = s.re.running ∧ (tellAdded k s).re.queued = s.re.queued ∧
    (tellAdded k s).re.context = s.re.context ∧ (tellAdded k s).re.repeats = s.re.repeats ∧
    (tellAdded k s).pu = s.pu := by
  unfold tellAdded; (repeat' split) <;> simp

@[simp] theorem addTrip_keeps (k : Trip) (s : State) :
    (addTrip k s).pending = s.pending ∧ (addTrip k s).run = s.run ∧ (addTrip k s).config = s.config ∧
    (addTrip k s).store = s.store ∧ (addTrip k s).second = s.second ∧ (addTrip k s).freeUses = s.freeUses ∧
    (addTrip k s).link = s.link ∧ (addTrip k s).od.power = s.od.power ∧
    (addTrip k s).od.restartPending = s.od.restartPending ∧ (addTrip k s).od.cycle = s.od.cycle ∧
    (addTrip k s).od.cycleTimer = s.od.cycleTimer ∧ (addTrip k s).od.eventsTimer = s.od.eventsTimer ∧
    (addTrip k s).od.diagTimer = s.od.diagTimer ∧ (addTrip k s).ssu.peers = s.ssu.peers ∧
    (addTrip k s).ssu.claim = s.ssu.claim ∧ (addTrip k s).ssu.announced = s.ssu.announced ∧
    (addTrip k s).ssu.raise = s.ssu.raise ∧ (addTrip k s).ssu.lastA = s.ssu.lastA ∧
    (addTrip k s).ssu.lastW = s.ssu.lastW ∧ (addTrip k s).ssu.lastFo = s.ssu.lastFo ∧
    (addTrip k s).ssu.contention = s.ssu.contention ∧ (addTrip k s).ssu.listenIn = s.ssu.listenIn ∧
    (addTrip k s).ssu.period = s.ssu.period ∧ (addTrip k s).lpd.drive = s.lpd.drive ∧
    (addTrip k s).lpd.half = s.lpd.half ∧ (addTrip k s).lpd.pool = s.lpd.pool ∧
    (addTrip k s).lpd.shed = s.lpd.shed ∧ (addTrip k s).lpd.gates = s.lpd.gates ∧
    (addTrip k s).lpd.sinceCrossing = s.lpd.sinceCrossing ∧ (addTrip k s).mu = s.mu ∧
    (addTrip k s).sgc.user = s.sgc.user ∧ (addTrip k s).sgc.derate = s.sgc.derate ∧
    (addTrip k s).sdu.account = s.sdu.account ∧ (addTrip k s).sdu.hardness = s.sdu.hardness ∧
    (addTrip k s).sdu.mark = s.sdu.mark ∧ (addTrip k s).sdu.phase = s.sdu.phase ∧
    (addTrip k s).sdu.lockingFrom = s.sdu.lockingFrom ∧ (addTrip k s).sdu.soakCount = s.sdu.soakCount ∧
    (addTrip k s).sdu.rinseCycle = s.sdu.rinseCycle ∧ (addTrip k s).sdu.rinseStep = s.sdu.rinseStep ∧
    (addTrip k s).sdu.heatingTime = s.sdu.heatingTime ∧ (addTrip k s).sdu.drained = s.sdu.drained ∧
    (addTrip k s).sdu.retry = s.sdu.retry ∧ (addTrip k s).sdu.failures = s.sdu.failures ∧
    (addTrip k s).re.slotA = s.re.slotA ∧ (addTrip k s).re.slotB = s.re.slotB ∧
    (addTrip k s).re.running = s.re.running ∧ (addTrip k s).re.queued = s.re.queued ∧
    (addTrip k s).re.context = s.re.context ∧ (addTrip k s).re.repeats = s.re.repeats ∧
    (addTrip k s).pu.command = s.pu.command ∧ (addTrip k s).pu.lock = s.pu.lock ∧
    (addTrip k s).pu.travel = s.pu.travel := by
  unfold addTrip; (repeat' split) <;> simp

@[simp] theorem lockFault_keeps (s : State) :
    (lockFault s).pending = s.pending ∧ (lockFault s).run = s.run ∧ (lockFault s).config = s.config ∧
    (lockFault s).store = s.store ∧ (lockFault s).second = s.second ∧ (lockFault s).freeUses = s.freeUses ∧
    (lockFault s).link = s.link ∧ (lockFault s).od.power = s.od.power ∧
    (lockFault s).od.restartPending = s.od.restartPending ∧ (lockFault s).od.cycle = s.od.cycle ∧
    (lockFault s).od.cycleTimer = s.od.cycleTimer ∧ (lockFault s).od.eventsTimer = s.od.eventsTimer ∧
    (lockFault s).od.diagTimer = s.od.diagTimer ∧ (lockFault s).ssu = s.ssu ∧
    (lockFault s).lpd.drive = s.lpd.drive ∧ (lockFault s).lpd.half = s.lpd.half ∧
    (lockFault s).lpd.pool = s.lpd.pool ∧ (lockFault s).lpd.shed = s.lpd.shed ∧
    (lockFault s).lpd.gates = s.lpd.gates ∧ (lockFault s).lpd.sinceCrossing = s.lpd.sinceCrossing ∧
    (lockFault s).lpd.loads.top = s.lpd.loads.top ∧ (lockFault s).lpd.loads.bottom = s.lpd.loads.bottom ∧
    (lockFault s).lpd.loads.ring = s.lpd.loads.ring ∧ (lockFault s).mu = s.mu ∧ (lockFault s).cr = s.cr ∧
    (lockFault s).sgc = s.sgc ∧ (lockFault s).sdu = s.sdu ∧ (lockFault s).re.slotA = s.re.slotA ∧
    (lockFault s).re.slotB = s.re.slotB ∧ (lockFault s).re.running = s.re.running ∧
    (lockFault s).re.queued = s.re.queued ∧ (lockFault s).re.context = s.re.context ∧
    (lockFault s).re.repeats = s.re.repeats ∧ (lockFault s).re.holds.power = s.re.holds.power ∧
    (lockFault s).re.holds.water = s.re.holds.water ∧ (lockFault s).re.holds.probe = s.re.holds.probe ∧
    (lockFault s).pu.trips.cavityOvertemp = s.pu.trips.cavityOvertemp ∧
    (lockFault s).pu.trips.boilerDry = s.pu.trips.boilerDry ∧ (lockFault s).pu.trips.sensor = s.pu.trips.sensor ∧
    (lockFault s).pu.command = s.pu.command ∧ (lockFault s).pu.travel = s.pu.travel := by
  simp only [lockFault, addTrip, tellAdded, holdTrip]
  (repeat' split) <;> simp [TripSet.put, writeDemand, Loads.set, raise]

@[simp] theorem travel_keeps (l : LockState) (s : State) :
    (travel l s).pending = s.pending ∧ (travel l s).run = s.run ∧ (travel l s).config = s.config ∧
    (travel l s).store = s.store ∧ (travel l s).second = s.second ∧ (travel l s).freeUses = s.freeUses ∧
    (travel l s).link = s.link ∧ (travel l s).od = s.od ∧ (travel l s).ssu = s.ssu ∧ (travel l s).lpd = s.lpd ∧
    (travel l s).mu = s.mu ∧ (travel l s).cr = s.cr ∧ (travel l s).sgc = s.sgc ∧ (travel l s).sdu = s.sdu ∧
    (travel l s).re = s.re ∧ (travel l s).pu.trips = s.pu.trips ∧ (travel l s).pu.command = s.pu.command := by
  simp [travel]

@[simp] theorem travelIn_keeps (s : State) :
    (travelIn s).pending = s.pending ∧ (travelIn s).run = s.run ∧ (travelIn s).config = s.config ∧
    (travelIn s).store = s.store ∧ (travelIn s).second = s.second ∧ (travelIn s).freeUses = s.freeUses ∧
    (travelIn s).link = s.link ∧ (travelIn s).od.power = s.od.power ∧
    (travelIn s).od.restartPending = s.od.restartPending ∧ (travelIn s).od.cycle = s.od.cycle ∧
    (travelIn s).od.cycleTimer = s.od.cycleTimer ∧ (travelIn s).od.eventsTimer = s.od.eventsTimer ∧
    (travelIn s).od.diagTimer = s.od.diagTimer ∧ (travelIn s).ssu = s.ssu ∧ (travelIn s).lpd.drive = s.lpd.drive ∧
    (travelIn s).lpd.half = s.lpd.half ∧ (travelIn s).lpd.pool = s.lpd.pool ∧ (travelIn s).lpd.shed = s.lpd.shed ∧
    (travelIn s).lpd.gates = s.lpd.gates ∧ (travelIn s).lpd.sinceCrossing = s.lpd.sinceCrossing ∧
    (travelIn s).lpd.loads.top = s.lpd.loads.top ∧ (travelIn s).lpd.loads.bottom = s.lpd.loads.bottom ∧
    (travelIn s).lpd.loads.ring = s.lpd.loads.ring ∧ (travelIn s).mu = s.mu ∧ (travelIn s).cr = s.cr ∧
    (travelIn s).sgc = s.sgc ∧ (travelIn s).sdu = s.sdu ∧ (travelIn s).re.slotA = s.re.slotA ∧
    (travelIn s).re.slotB = s.re.slotB ∧ (travelIn s).re.running = s.re.running ∧
    (travelIn s).re.queued = s.re.queued ∧ (travelIn s).re.context = s.re.context ∧
    (travelIn s).re.repeats = s.re.repeats ∧ (travelIn s).re.holds.power = s.re.holds.power ∧
    (travelIn s).re.holds.water = s.re.holds.water ∧ (travelIn s).re.holds.probe = s.re.holds.probe ∧
    (travelIn s).pu.trips.cavityOvertemp = s.pu.trips.cavityOvertemp ∧
    (travelIn s).pu.trips.boilerDry = s.pu.trips.boilerDry ∧ (travelIn s).pu.trips.sensor = s.pu.trips.sensor ∧
    (travelIn s).pu.command = s.pu.command := by
  unfold travelIn; (repeat' split) <;> simp

@[simp] theorem takeLockCommand_keeps (s : State) :
    (takeLockCommand s).pending = s.pending ∧ (takeLockCommand s).run = s.run ∧
    (takeLockCommand s).config = s.config ∧ (takeLockCommand s).store = s.store ∧
    (takeLockCommand s).second = s.second ∧ (takeLockCommand s).freeUses = s.freeUses ∧
    (takeLockCommand s).link = s.link ∧ (takeLockCommand s).od.power = s.od.power ∧
    (takeLockCommand s).od.restartPending = s.od.restartPending ∧ (takeLockCommand s).od.cycle = s.od.cycle ∧
    (takeLockCommand s).od.cycleTimer = s.od.cycleTimer ∧ (takeLockCommand s).od.eventsTimer = s.od.eventsTimer ∧
    (takeLockCommand s).od.diagTimer = s.od.diagTimer ∧ (takeLockCommand s).ssu = s.ssu ∧
    (takeLockCommand s).lpd.drive = s.lpd.drive ∧ (takeLockCommand s).lpd.half = s.lpd.half ∧
    (takeLockCommand s).lpd.pool = s.lpd.pool ∧ (takeLockCommand s).lpd.shed = s.lpd.shed ∧
    (takeLockCommand s).lpd.gates = s.lpd.gates ∧ (takeLockCommand s).lpd.sinceCrossing = s.lpd.sinceCrossing ∧
    (takeLockCommand s).lpd.loads.top = s.lpd.loads.top ∧
    (takeLockCommand s).lpd.loads.bottom = s.lpd.loads.bottom ∧
    (takeLockCommand s).lpd.loads.ring = s.lpd.loads.ring ∧ (takeLockCommand s).mu = s.mu ∧
    (takeLockCommand s).cr = s.cr ∧ (takeLockCommand s).sgc = s.sgc ∧ (takeLockCommand s).sdu = s.sdu ∧
    (takeLockCommand s).re.slotA = s.re.slotA ∧ (takeLockCommand s).re.slotB = s.re.slotB ∧
    (takeLockCommand s).re.running = s.re.running ∧ (takeLockCommand s).re.queued = s.re.queued ∧
    (takeLockCommand s).re.context = s.re.context ∧ (takeLockCommand s).re.repeats = s.re.repeats ∧
    (takeLockCommand s).re.holds.power = s.re.holds.power ∧ (takeLockCommand s).re.holds.water = s.re.holds.water ∧
    (takeLockCommand s).re.holds.probe = s.re.holds.probe ∧
    (takeLockCommand s).pu.trips.cavityOvertemp = s.pu.trips.cavityOvertemp ∧
    (takeLockCommand s).pu.trips.boilerDry = s.pu.trips.boilerDry ∧
    (takeLockCommand s).pu.trips.sensor = s.pu.trips.sensor ∧ (takeLockCommand s).pu.command = s.pu.command := by
  unfold takeLockCommand; (repeat' split) <;> simp

@[simp] theorem requestLock_keeps (c : LockCommand) (s : State) :
    (requestLock c s).pending = s.pending ∧ (requestLock c s).run = s.run ∧ (requestLock c s).config = s.config ∧
    (requestLock c s).store = s.store ∧ (requestLock c s).second = s.second ∧
    (requestLock c s).freeUses = s.freeUses ∧ (requestLock c s).link = s.link ∧
    (requestLock c s).od.power = s.od.power ∧ (requestLock c s).od.restartPending = s.od.restartPending ∧
    (requestLock c s).od.cycle = s.od.cycle ∧ (requestLock c s).od.cycleTimer = s.od.cycleTimer ∧
    (requestLock c s).od.eventsTimer = s.od.eventsTimer ∧ (requestLock c s).od.diagTimer = s.od.diagTimer ∧
    (requestLock c s).ssu = s.ssu ∧ (requestLock c s).lpd.drive = s.lpd.drive ∧
    (requestLock c s).lpd.half = s.lpd.half ∧ (requestLock c s).lpd.pool = s.lpd.pool ∧
    (requestLock c s).lpd.shed = s.lpd.shed ∧ (requestLock c s).lpd.gates = s.lpd.gates ∧
    (requestLock c s).lpd.sinceCrossing = s.lpd.sinceCrossing ∧ (requestLock c s).lpd.loads.top = s.lpd.loads.top ∧
    (requestLock c s).lpd.loads.bottom = s.lpd.loads.bottom ∧ (requestLock c s).lpd.loads.ring = s.lpd.loads.ring ∧
    (requestLock c s).mu = s.mu ∧ (requestLock c s).cr = s.cr ∧ (requestLock c s).sgc = s.sgc ∧
    (requestLock c s).sdu = s.sdu ∧ (requestLock c s).re.slotA = s.re.slotA ∧
    (requestLock c s).re.slotB = s.re.slotB ∧ (requestLock c s).re.running = s.re.running ∧
    (requestLock c s).re.queued = s.re.queued ∧ (requestLock c s).re.context = s.re.context ∧
    (requestLock c s).re.repeats = s.re.repeats ∧ (requestLock c s).re.holds.power = s.re.holds.power ∧
    (requestLock c s).re.holds.water = s.re.holds.water ∧ (requestLock c s).re.holds.probe = s.re.holds.probe ∧
    (requestLock c s).pu.trips.cavityOvertemp = s.pu.trips.cavityOvertemp ∧
    (requestLock c s).pu.trips.boilerDry = s.pu.trips.boilerDry ∧
    (requestLock c s).pu.trips.sensor = s.pu.trips.sensor := by
  simp [requestLock]

@[simp] theorem releaseIdleLock_keeps (s : State) :
    (releaseIdleLock s).pending = s.pending ∧ (releaseIdleLock s).run = s.run ∧
    (releaseIdleLock s).config = s.config ∧ (releaseIdleLock s).store = s.store ∧
    (releaseIdleLock s).second = s.second ∧ (releaseIdleLock s).freeUses = s.freeUses ∧
    (releaseIdleLock s).link = s.link ∧ (releaseIdleLock s).od.power = s.od.power ∧
    (releaseIdleLock s).od.restartPending = s.od.restartPending ∧ (releaseIdleLock s).od.cycle = s.od.cycle ∧
    (releaseIdleLock s).od.cycleTimer = s.od.cycleTimer ∧ (releaseIdleLock s).od.eventsTimer = s.od.eventsTimer ∧
    (releaseIdleLock s).od.diagTimer = s.od.diagTimer ∧ (releaseIdleLock s).ssu = s.ssu ∧
    (releaseIdleLock s).lpd.drive = s.lpd.drive ∧ (releaseIdleLock s).lpd.half = s.lpd.half ∧
    (releaseIdleLock s).lpd.pool = s.lpd.pool ∧ (releaseIdleLock s).lpd.shed = s.lpd.shed ∧
    (releaseIdleLock s).lpd.gates = s.lpd.gates ∧ (releaseIdleLock s).lpd.sinceCrossing = s.lpd.sinceCrossing ∧
    (releaseIdleLock s).lpd.loads.top = s.lpd.loads.top ∧
    (releaseIdleLock s).lpd.loads.bottom = s.lpd.loads.bottom ∧
    (releaseIdleLock s).lpd.loads.ring = s.lpd.loads.ring ∧ (releaseIdleLock s).mu = s.mu ∧
    (releaseIdleLock s).cr = s.cr ∧ (releaseIdleLock s).sgc = s.sgc ∧ (releaseIdleLock s).sdu = s.sdu ∧
    (releaseIdleLock s).re.slotA = s.re.slotA ∧ (releaseIdleLock s).re.slotB = s.re.slotB ∧
    (releaseIdleLock s).re.running = s.re.running ∧ (releaseIdleLock s).re.queued = s.re.queued ∧
    (releaseIdleLock s).re.context = s.re.context ∧ (releaseIdleLock s).re.repeats = s.re.repeats ∧
    (releaseIdleLock s).re.holds.power = s.re.holds.power ∧ (releaseIdleLock s).re.holds.water = s.re.holds.water ∧
    (releaseIdleLock s).re.holds.probe = s.re.holds.probe ∧
    (releaseIdleLock s).pu.trips.cavityOvertemp = s.pu.trips.cavityOvertemp ∧
    (releaseIdleLock s).pu.trips.boilerDry = s.pu.trips.boilerDry ∧
    (releaseIdleLock s).pu.trips.sensor = s.pu.trips.sensor := by
  unfold releaseIdleLock; (repeat' split) <;> simp

@[simp] theorem endTravel_keeps (s : State) :
    (endTravel s).pending = s.pending ∧ (endTravel s).run = s.run ∧ (endTravel s).config = s.config ∧
    (endTravel s).store = s.store ∧ (endTravel s).second = s.second ∧ (endTravel s).freeUses = s.freeUses ∧
    (endTravel s).link = s.link ∧ (endTravel s).od = s.od ∧ (endTravel s).ssu = s.ssu ∧ (endTravel s).lpd = s.lpd ∧
    (endTravel s).mu = s.mu ∧ (endTravel s).cr = s.cr ∧ (endTravel s).sgc = s.sgc ∧ (endTravel s).sdu = s.sdu ∧
    (endTravel s).re = s.re ∧ (endTravel s).pu.trips = s.pu.trips ∧ (endTravel s).pu.command = s.pu.command ∧
    (endTravel s).pu.travel = s.pu.travel := by
  unfold endTravel; (repeat' split) <;> simp

@[simp] theorem lockPublication_keeps (firstFb : Bool) (s : State) :
    (lockPublication firstFb s).pending = s.pending ∧ (lockPublication firstFb s).run = s.run ∧
    (lockPublication firstFb s).config = s.config ∧ (lockPublication firstFb s).store = s.store ∧
    (lockPublication firstFb s).second = s.second ∧ (lockPublication firstFb s).freeUses = s.freeUses ∧
    (lockPublication firstFb s).link = s.link ∧ (lockPublication firstFb s).od.power = s.od.power ∧
    (lockPublication firstFb s).od.restartPending = s.od.restartPending ∧
    (lockPublication firstFb s).od.cycle = s.od.cycle ∧
    (lockPublication firstFb s).od.cycleTimer = s.od.cycleTimer ∧
    (lockPublication firstFb s).od.eventsTimer = s.od.eventsTimer ∧
    (lockPublication firstFb s).od.diagTimer = s.od.diagTimer ∧ (lockPublication firstFb s).ssu = s.ssu ∧
    (lockPublication firstFb s).lpd.drive = s.lpd.drive ∧ (lockPublication firstFb s).lpd.half = s.lpd.half ∧
    (lockPublication firstFb s).lpd.pool = s.lpd.pool ∧ (lockPublication firstFb s).lpd.shed = s.lpd.shed ∧
    (lockPublication firstFb s).lpd.gates = s.lpd.gates ∧
    (lockPublication firstFb s).lpd.sinceCrossing = s.lpd.sinceCrossing ∧
    (lockPublication firstFb s).lpd.loads.top = s.lpd.loads.top ∧
    (lockPublication firstFb s).lpd.loads.bottom = s.lpd.loads.bottom ∧
    (lockPublication firstFb s).lpd.loads.ring = s.lpd.loads.ring ∧ (lockPublication firstFb s).mu = s.mu ∧
    (lockPublication firstFb s).cr = s.cr ∧ (lockPublication firstFb s).sgc = s.sgc ∧
    (lockPublication firstFb s).sdu = s.sdu ∧ (lockPublication firstFb s).re.slotA = s.re.slotA ∧
    (lockPublication firstFb s).re.slotB = s.re.slotB ∧ (lockPublication firstFb s).re.running = s.re.running ∧
    (lockPublication firstFb s).re.queued = s.re.queued ∧ (lockPublication firstFb s).re.context = s.re.context ∧
    (lockPublication firstFb s).re.repeats = s.re.repeats ∧
    (lockPublication firstFb s).re.holds.power = s.re.holds.power ∧
    (lockPublication firstFb s).re.holds.water = s.re.holds.water ∧
    (lockPublication firstFb s).re.holds.probe = s.re.holds.probe ∧
    (lockPublication firstFb s).pu.trips.cavityOvertemp = s.pu.trips.cavityOvertemp ∧
    (lockPublication firstFb s).pu.trips.boilerDry = s.pu.trips.boilerDry ∧
    (lockPublication firstFb s).pu.trips.sensor = s.pu.trips.sensor := by
  unfold lockPublication; dsimp only; (repeat' split) <;> simp

@[simp] theorem tripPublication_keeps (s : State) :
    (tripPublication s).pending = s.pending ∧ (tripPublication s).run = s.run ∧
    (tripPublication s).config = s.config ∧ (tripPublication s).store = s.store ∧
    (tripPublication s).second = s.second ∧ (tripPublication s).freeUses = s.freeUses ∧
    (tripPublication s).link = s.link ∧ (tripPublication s).od.power = s.od.power ∧
    (tripPublication s).od.restartPending = s.od.restartPending ∧ (tripPublication s).od.cycle = s.od.cycle ∧
    (tripPublication s).od.cycleTimer = s.od.cycleTimer ∧ (tripPublication s).od.eventsTimer = s.od.eventsTimer ∧
    (tripPublication s).od.diagTimer = s.od.diagTimer ∧ (tripPublication s).ssu.peers = s.ssu.peers ∧
    (tripPublication s).ssu.claim = s.ssu.claim ∧ (tripPublication s).ssu.announced = s.ssu.announced ∧
    (tripPublication s).ssu.raise = s.ssu.raise ∧ (tripPublication s).ssu.lastA = s.ssu.lastA ∧
    (tripPublication s).ssu.lastW = s.ssu.lastW ∧ (tripPublication s).ssu.lastFo = s.ssu.lastFo ∧
    (tripPublication s).ssu.contention = s.ssu.contention ∧ (tripPublication s).ssu.listenIn = s.ssu.listenIn ∧
    (tripPublication s).ssu.period = s.ssu.period ∧ (tripPublication s).lpd.drive = s.lpd.drive ∧
    (tripPublication s).lpd.half = s.lpd.half ∧ (tripPublication s).lpd.pool = s.lpd.pool ∧
    (tripPublication s).lpd.shed = s.lpd.shed ∧ (tripPublication s).lpd.gates = s.lpd.gates ∧
    (tripPublication s).lpd.sinceCrossing = s.lpd.sinceCrossing ∧ (tripPublication s).mu = s.mu ∧
    (tripPublication s).sgc.user = s.sgc.user ∧ (tripPublication s).sgc.derate = s.sgc.derate ∧
    (tripPublication s).sdu.account = s.sdu.account ∧ (tripPublication s).sdu.hardness = s.sdu.hardness ∧
    (tripPublication s).sdu.mark = s.sdu.mark ∧ (tripPublication s).sdu.phase = s.sdu.phase ∧
    (tripPublication s).sdu.lockingFrom = s.sdu.lockingFrom ∧ (tripPublication s).sdu.soakCount = s.sdu.soakCount ∧
    (tripPublication s).sdu.rinseCycle = s.sdu.rinseCycle ∧ (tripPublication s).sdu.rinseStep = s.sdu.rinseStep ∧
    (tripPublication s).sdu.heatingTime = s.sdu.heatingTime ∧ (tripPublication s).sdu.drained = s.sdu.drained ∧
    (tripPublication s).sdu.retry = s.sdu.retry ∧ (tripPublication s).sdu.failures = s.sdu.failures ∧
    (tripPublication s).re.slotA = s.re.slotA ∧ (tripPublication s).re.slotB = s.re.slotB ∧
    (tripPublication s).re.running = s.re.running ∧ (tripPublication s).re.queued = s.re.queued ∧
    (tripPublication s).re.context = s.re.context ∧ (tripPublication s).re.repeats = s.re.repeats ∧
    (tripPublication s).pu.command = s.pu.command ∧ (tripPublication s).pu.lock = s.pu.lock ∧
    (tripPublication s).pu.travel = s.pu.travel := by
  unfold tripPublication; dsimp only; (repeat' split) <;> simp

@[simp] theorem protectPublication_keeps (firstFb : Bool) (s : State) :
    (protectPublication firstFb s).pending = s.pending ∧ (protectPublication firstFb s).run = s.run ∧
    (protectPublication firstFb s).config = s.config ∧ (protectPublication firstFb s).store = s.store ∧
    (protectPublication firstFb s).second = s.second ∧ (protectPublication firstFb s).freeUses = s.freeUses ∧
    (protectPublication firstFb s).link = s.link ∧ (protectPublication firstFb s).od.power = s.od.power ∧
    (protectPublication firstFb s).od.restartPending = s.od.restartPending ∧
    (protectPublication firstFb s).od.cycle = s.od.cycle ∧
    (protectPublication firstFb s).od.cycleTimer = s.od.cycleTimer ∧
    (protectPublication firstFb s).od.eventsTimer = s.od.eventsTimer ∧
    (protectPublication firstFb s).od.diagTimer = s.od.diagTimer ∧
    (protectPublication firstFb s).ssu.peers = s.ssu.peers ∧
    (protectPublication firstFb s).ssu.claim = s.ssu.claim ∧
    (protectPublication firstFb s).ssu.announced = s.ssu.announced ∧
    (protectPublication firstFb s).ssu.raise = s.ssu.raise ∧
    (protectPublication firstFb s).ssu.lastA = s.ssu.lastA ∧
    (protectPublication firstFb s).ssu.lastW = s.ssu.lastW ∧
    (protectPublication firstFb s).ssu.lastFo = s.ssu.lastFo ∧
    (protectPublication firstFb s).ssu.contention = s.ssu.contention ∧
    (protectPublication firstFb s).ssu.listenIn = s.ssu.listenIn ∧
    (protectPublication firstFb s).ssu.period = s.ssu.period ∧
    (protectPublication firstFb s).lpd.drive = s.lpd.drive ∧ (protectPublication firstFb s).lpd.half = s.lpd.half ∧
    (protectPublication firstFb s).lpd.pool = s.lpd.pool ∧ (protectPublication firstFb s).lpd.shed = s.lpd.shed ∧
    (protectPublication firstFb s).lpd.gates = s.lpd.gates ∧
    (protectPublication firstFb s).lpd.sinceCrossing = s.lpd.sinceCrossing ∧
    (protectPublication firstFb s).mu = s.mu ∧ (protectPublication firstFb s).sgc.user = s.sgc.user ∧
    (protectPublication firstFb s).sgc.derate = s.sgc.derate ∧
    (protectPublication firstFb s).sdu.account = s.sdu.account ∧
    (protectPublication firstFb s).sdu.hardness = s.sdu.hardness ∧
    (protectPublication firstFb s).sdu.mark = s.sdu.mark ∧ (protectPublication firstFb s).sdu.phase = s.sdu.phase ∧
    (protectPublication firstFb s).sdu.lockingFrom = s.sdu.lockingFrom ∧
    (protectPublication firstFb s).sdu.soakCount = s.sdu.soakCount ∧
    (protectPublication firstFb s).sdu.rinseCycle = s.sdu.rinseCycle ∧
    (protectPublication firstFb s).sdu.rinseStep = s.sdu.rinseStep ∧
    (protectPublication firstFb s).sdu.heatingTime = s.sdu.heatingTime ∧
    (protectPublication firstFb s).sdu.drained = s.sdu.drained ∧
    (protectPublication firstFb s).sdu.retry = s.sdu.retry ∧
    (protectPublication firstFb s).sdu.failures = s.sdu.failures ∧
    (protectPublication firstFb s).re.slotA = s.re.slotA ∧ (protectPublication firstFb s).re.slotB = s.re.slotB ∧
    (protectPublication firstFb s).re.running = s.re.running ∧
    (protectPublication firstFb s).re.queued = s.re.queued ∧
    (protectPublication firstFb s).re.context = s.re.context ∧
    (protectPublication firstFb s).re.repeats = s.re.repeats := by
  simp [protectPublication]

end Sys2Proof.Machine
end

