-- ==== Sys2Proof/Laws/DescaleLaws.lean ====
section
/-! SUPPORT. What the scale and descale unit leave as it is: for each operation, every field of State it cannot change. -/

namespace Sys2Proof.Machine

@[simp] theorem handDerate_keeps (d : Bool) (s : State) :
    (handDerate d s).pending = s.pending ∧ (handDerate d s).run = s.run ∧ (handDerate d s).config = s.config ∧
    (handDerate d s).store = s.store ∧ (handDerate d s).second = s.second ∧ (handDerate d s).freeUses = s.freeUses ∧
    (handDerate d s).link = s.link ∧ (handDerate d s).od = s.od ∧ (handDerate d s).ssu = s.ssu ∧
    (handDerate d s).lpd.drive = s.lpd.drive ∧ (handDerate d s).lpd.half = s.lpd.half ∧
    (handDerate d s).lpd.pool = s.lpd.pool ∧ (handDerate d s).lpd.shed = s.lpd.shed ∧
    (handDerate d s).lpd.gates = s.lpd.gates ∧ (handDerate d s).lpd.sinceCrossing = s.lpd.sinceCrossing ∧
    (handDerate d s).mu = s.mu ∧ (handDerate d s).cr = s.cr ∧ (handDerate d s).sgc.state = s.sgc.state ∧
    (handDerate d s).sgc.user = s.sgc.user ∧ (handDerate d s).sgc.steamWanted = s.sgc.steamWanted ∧
    (handDerate d s).sgc.steamDemand = s.sgc.steamDemand ∧ (handDerate d s).sgc.pulses = s.sgc.pulses ∧
    (handDerate d s).sgc.pulseTimer = s.sgc.pulseTimer ∧ (handDerate d s).sgc.pumpDrive = s.sgc.pumpDrive ∧
    (handDerate d s).sgc.wait = s.sgc.wait ∧ (handDerate d s).sgc.limitMark = s.sgc.limitMark ∧
    (handDerate d s).sgc.coolTime = s.sgc.coolTime ∧ (handDerate d s).sgc.drainCount = s.sgc.drainCount ∧
    (handDerate d s).sdu = s.sdu ∧ (handDerate d s).re = s.re ∧ (handDerate d s).pu = s.pu ∧
    (handDerate d s).lpd.loads.top = s.lpd.loads.top ∧ (handDerate d s).lpd.loads.bottom = s.lpd.loads.bottom ∧
    (handDerate d s).lpd.loads.ring = s.lpd.loads.ring := by
  unfold handDerate; (repeat' split) <;> simp [writeDemand, Loads.set]

@[simp] theorem setAccount_keeps (a : Nat) (s : State) :
    (setAccount a s).pending = s.pending ∧ (setAccount a s).run = s.run ∧ (setAccount a s).config = s.config ∧
    (setAccount a s).store = s.store ∧ (setAccount a s).second = s.second ∧ (setAccount a s).freeUses = s.freeUses ∧
    (setAccount a s).link = s.link ∧ (setAccount a s).od = s.od ∧ (setAccount a s).ssu = s.ssu ∧
    (setAccount a s).lpd.drive = s.lpd.drive ∧ (setAccount a s).lpd.half = s.lpd.half ∧
    (setAccount a s).lpd.pool = s.lpd.pool ∧ (setAccount a s).lpd.shed = s.lpd.shed ∧
    (setAccount a s).lpd.gates = s.lpd.gates ∧ (setAccount a s).lpd.sinceCrossing = s.lpd.sinceCrossing ∧
    (setAccount a s).mu = s.mu ∧ (setAccount a s).cr = s.cr ∧ (setAccount a s).sgc.state = s.sgc.state ∧
    (setAccount a s).sgc.user = s.sgc.user ∧ (setAccount a s).sgc.steamWanted = s.sgc.steamWanted ∧
    (setAccount a s).sgc.steamDemand = s.sgc.steamDemand ∧ (setAccount a s).sgc.pulses = s.sgc.pulses ∧
    (setAccount a s).sgc.pulseTimer = s.sgc.pulseTimer ∧ (setAccount a s).sgc.pumpDrive = s.sgc.pumpDrive ∧
    (setAccount a s).sgc.wait = s.sgc.wait ∧ (setAccount a s).sgc.limitMark = s.sgc.limitMark ∧
    (setAccount a s).sgc.coolTime = s.sgc.coolTime ∧ (setAccount a s).sgc.drainCount = s.sgc.drainCount ∧
    (setAccount a s).sdu.hardness = s.sdu.hardness ∧ (setAccount a s).sdu.mark = s.sdu.mark ∧
    (setAccount a s).sdu.meteringSum = s.sdu.meteringSum ∧ (setAccount a s).sdu.phase = s.sdu.phase ∧
    (setAccount a s).sdu.lockingFrom = s.sdu.lockingFrom ∧ (setAccount a s).sdu.soakCount = s.sdu.soakCount ∧
    (setAccount a s).sdu.rinseCycle = s.sdu.rinseCycle ∧ (setAccount a s).sdu.rinseStep = s.sdu.rinseStep ∧
    (setAccount a s).sdu.heatingTime = s.sdu.heatingTime ∧ (setAccount a s).sdu.drained = s.sdu.drained ∧
    (setAccount a s).sdu.writing = s.sdu.writing ∧ (setAccount a s).sdu.writeTimer = s.sdu.writeTimer ∧
    (setAccount a s).sdu.rewritePending = s.sdu.rewritePending ∧ (setAccount a s).sdu.retry = s.sdu.retry ∧
    (setAccount a s).sdu.failures = s.sdu.failures ∧ (setAccount a s).re = s.re ∧ (setAccount a s).pu = s.pu ∧
    (setAccount a s).lpd.loads.top = s.lpd.loads.top ∧ (setAccount a s).lpd.loads.bottom = s.lpd.loads.bottom ∧
    (setAccount a s).lpd.loads.ring = s.lpd.loads.ring := by
  simp [setAccount]

@[simp] theorem judgeAdvice_keeps (before : Nat) (s : State) :
    (judgeAdvice before s).pending = s.pending ∧ (judgeAdvice before s).run = s.run ∧
    (judgeAdvice before s).config = s.config ∧ (judgeAdvice before s).store = s.store ∧
    (judgeAdvice before s).second = s.second ∧ (judgeAdvice before s).freeUses = s.freeUses ∧
    (judgeAdvice before s).link = s.link ∧ (judgeAdvice before s).od.power = s.od.power ∧
    (judgeAdvice before s).od.restartPending = s.od.restartPending ∧ (judgeAdvice before s).od.cycle = s.od.cycle ∧
    (judgeAdvice before s).od.cycleTimer = s.od.cycleTimer ∧
    (judgeAdvice before s).od.eventsTimer = s.od.eventsTimer ∧
    (judgeAdvice before s).od.diagTimer = s.od.diagTimer ∧ (judgeAdvice before s).ssu = s.ssu ∧
    (judgeAdvice before s).lpd = s.lpd ∧ (judgeAdvice before s).mu = s.mu ∧ (judgeAdvice before s).cr = s.cr ∧
    (judgeAdvice before s).sgc = s.sgc ∧ (judgeAdvice before s).sdu = s.sdu ∧ (judgeAdvice before s).re = s.re ∧
    (judgeAdvice before s).pu = s.pu := by
  unfold judgeAdvice; (repeat' split) <;> simp

@[simp] theorem addMetered_keeps (s : State) :
    (addMetered s).pending = s.pending ∧ (addMetered s).run = s.run ∧ (addMetered s).config = s.config ∧
    (addMetered s).store = s.store ∧ (addMetered s).second = s.second ∧ (addMetered s).freeUses = s.freeUses ∧
    (addMetered s).link = s.link ∧ (addMetered s).od.power = s.od.power ∧
    (addMetered s).od.restartPending = s.od.restartPending ∧ (addMetered s).od.cycle = s.od.cycle ∧
    (addMetered s).od.cycleTimer = s.od.cycleTimer ∧ (addMetered s).od.eventsTimer = s.od.eventsTimer ∧
    (addMetered s).od.diagTimer = s.od.diagTimer ∧ (addMetered s).ssu = s.ssu ∧
    (addMetered s).lpd.drive = s.lpd.drive ∧ (addMetered s).lpd.half = s.lpd.half ∧
    (addMetered s).lpd.pool = s.lpd.pool ∧ (addMetered s).lpd.shed = s.lpd.shed ∧
    (addMetered s).lpd.gates = s.lpd.gates ∧ (addMetered s).lpd.sinceCrossing = s.lpd.sinceCrossing ∧
    (addMetered s).mu = s.mu ∧ (addMetered s).cr = s.cr ∧ (addMetered s).sgc.state = s.sgc.state ∧
    (addMetered s).sgc.user = s.sgc.user ∧ (addMetered s).sgc.steamWanted = s.sgc.steamWanted ∧
    (addMetered s).sgc.steamDemand = s.sgc.steamDemand ∧ (addMetered s).sgc.pulses = s.sgc.pulses ∧
    (addMetered s).sgc.pulseTimer = s.sgc.pulseTimer ∧ (addMetered s).sgc.pumpDrive = s.sgc.pumpDrive ∧
    (addMetered s).sgc.wait = s.sgc.wait ∧ (addMetered s).sgc.limitMark = s.sgc.limitMark ∧
    (addMetered s).sgc.coolTime = s.sgc.coolTime ∧ (addMetered s).sgc.drainCount = s.sgc.drainCount ∧
    (addMetered s).sdu.hardness = s.sdu.hardness ∧ (addMetered s).sdu.mark = s.sdu.mark ∧
    (addMetered s).sdu.phase = s.sdu.phase ∧ (addMetered s).sdu.lockingFrom = s.sdu.lockingFrom ∧
    (addMetered s).sdu.soakCount = s.sdu.soakCount ∧ (addMetered s).sdu.rinseCycle = s.sdu.rinseCycle ∧
    (addMetered s).sdu.rinseStep = s.sdu.rinseStep ∧ (addMetered s).sdu.heatingTime = s.sdu.heatingTime ∧
    (addMetered s).sdu.drained = s.sdu.drained ∧ (addMetered s).sdu.retry = s.sdu.retry ∧
    (addMetered s).sdu.failures = s.sdu.failures ∧ (addMetered s).re = s.re ∧ (addMetered s).pu = s.pu ∧
    (addMetered s).lpd.loads.top = s.lpd.loads.top ∧ (addMetered s).lpd.loads.bottom = s.lpd.loads.bottom ∧
    (addMetered s).lpd.loads.ring = s.lpd.loads.ring := by
  unfold addMetered; dsimp only; (repeat' split) <;> simp

@[simp] theorem nextWrite_keeps (s : State) :
    (nextWrite s).pending = s.pending ∧ (nextWrite s).run = s.run ∧ (nextWrite s).config = s.config ∧
    (nextWrite s).store = s.store ∧ (nextWrite s).second = s.second ∧ (nextWrite s).freeUses = s.freeUses ∧
    (nextWrite s).link = s.link ∧ (nextWrite s).od = s.od ∧ (nextWrite s).ssu = s.ssu ∧ (nextWrite s).lpd = s.lpd ∧
    (nextWrite s).mu = s.mu ∧ (nextWrite s).cr = s.cr ∧ (nextWrite s).sgc = s.sgc ∧
    (nextWrite s).sdu.account = s.sdu.account ∧ (nextWrite s).sdu.hardness = s.sdu.hardness ∧
    (nextWrite s).sdu.mark = s.sdu.mark ∧ (nextWrite s).sdu.meteringSum = s.sdu.meteringSum ∧
    (nextWrite s).sdu.phase = s.sdu.phase ∧ (nextWrite s).sdu.lockingFrom = s.sdu.lockingFrom ∧
    (nextWrite s).sdu.soakCount = s.sdu.soakCount ∧ (nextWrite s).sdu.rinseCycle = s.sdu.rinseCycle ∧
    (nextWrite s).sdu.rinseStep = s.sdu.rinseStep ∧ (nextWrite s).sdu.heatingTime = s.sdu.heatingTime ∧
    (nextWrite s).sdu.drained = s.sdu.drained ∧ (nextWrite s).sdu.retry = s.sdu.retry ∧
    (nextWrite s).sdu.failures = s.sdu.failures ∧ (nextWrite s).re = s.re ∧ (nextWrite s).pu = s.pu := by
  unfold nextWrite; (repeat' split) <;> simp

@[simp] theorem writeAgreed_keeps (s : State) :
    (writeAgreed s).pending = s.pending ∧ (writeAgreed s).run = s.run ∧ (writeAgreed s).config = s.config ∧
    (writeAgreed s).store = s.store ∧ (writeAgreed s).second = s.second ∧ (writeAgreed s).freeUses = s.freeUses ∧
    (writeAgreed s).link = s.link ∧ (writeAgreed s).od = s.od ∧ (writeAgreed s).ssu = s.ssu ∧
    (writeAgreed s).lpd = s.lpd ∧ (writeAgreed s).mu = s.mu ∧ (writeAgreed s).cr = s.cr ∧
    (writeAgreed s).sgc = s.sgc ∧ (writeAgreed s).sdu.account = s.sdu.account ∧
    (writeAgreed s).sdu.hardness = s.sdu.hardness ∧ (writeAgreed s).sdu.mark = s.sdu.mark ∧
    (writeAgreed s).sdu.meteringSum = s.sdu.meteringSum ∧ (writeAgreed s).sdu.phase = s.sdu.phase ∧
    (writeAgreed s).sdu.lockingFrom = s.sdu.lockingFrom ∧ (writeAgreed s).sdu.soakCount = s.sdu.soakCount ∧
    (writeAgreed s).sdu.rinseCycle = s.sdu.rinseCycle ∧ (writeAgreed s).sdu.rinseStep = s.sdu.rinseStep ∧
    (writeAgreed s).sdu.heatingTime = s.sdu.heatingTime ∧ (writeAgreed s).sdu.drained = s.sdu.drained ∧
    (writeAgreed s).sdu.failures = s.sdu.failures ∧ (writeAgreed s).re = s.re ∧ (writeAgreed s).pu = s.pu := by
  simp [writeAgreed]

@[simp] theorem writeFailed_keeps (s : State) :
    (writeFailed s).pending = s.pending ∧ (writeFailed s).run = s.run ∧ (writeFailed s).config = s.config ∧
    (writeFailed s).store = s.store ∧ (writeFailed s).second = s.second ∧ (writeFailed s).freeUses = s.freeUses ∧
    (writeFailed s).link = s.link ∧ (writeFailed s).od = s.od ∧ (writeFailed s).ssu = s.ssu ∧
    (writeFailed s).lpd = s.lpd ∧ (writeFailed s).mu = s.mu ∧ (writeFailed s).cr = s.cr ∧
    (writeFailed s).sgc = s.sgc ∧ (writeFailed s).sdu.account = s.sdu.account ∧
    (writeFailed s).sdu.hardness = s.sdu.hardness ∧ (writeFailed s).sdu.mark = s.sdu.mark ∧
    (writeFailed s).sdu.meteringSum = s.sdu.meteringSum ∧ (writeFailed s).sdu.phase = s.sdu.phase ∧
    (writeFailed s).sdu.lockingFrom = s.sdu.lockingFrom ∧ (writeFailed s).sdu.soakCount = s.sdu.soakCount ∧
    (writeFailed s).sdu.rinseCycle = s.sdu.rinseCycle ∧ (writeFailed s).sdu.rinseStep = s.sdu.rinseStep ∧
    (writeFailed s).sdu.heatingTime = s.sdu.heatingTime ∧ (writeFailed s).sdu.drained = s.sdu.drained ∧
    (writeFailed s).re = s.re ∧ (writeFailed s).pu = s.pu := by
  unfold writeFailed; (repeat' split) <;> simp

@[simp] theorem sduHeat_keeps (d : Nat) (s : State) :
    (sduHeat d s).pending = s.pending ∧ (sduHeat d s).run = s.run ∧ (sduHeat d s).config = s.config ∧
    (sduHeat d s).store = s.store ∧ (sduHeat d s).second = s.second ∧ (sduHeat d s).freeUses = s.freeUses ∧
    (sduHeat d s).link = s.link ∧ (sduHeat d s).od = s.od ∧ (sduHeat d s).ssu = s.ssu ∧
    (sduHeat d s).lpd.drive = s.lpd.drive ∧ (sduHeat d s).lpd.half = s.lpd.half ∧
    (sduHeat d s).lpd.loads.top = s.lpd.loads.top ∧ (sduHeat d s).lpd.loads.bottom = s.lpd.loads.bottom ∧
    (sduHeat d s).lpd.loads.ring = s.lpd.loads.ring ∧ (sduHeat d s).lpd.pool = s.lpd.pool ∧
    (sduHeat d s).lpd.shed = s.lpd.shed ∧ (sduHeat d s).lpd.gates = s.lpd.gates ∧
    (sduHeat d s).lpd.sinceCrossing = s.lpd.sinceCrossing ∧ (sduHeat d s).mu = s.mu ∧ (sduHeat d s).cr = s.cr ∧
    (sduHeat d s).sgc = s.sgc ∧ (sduHeat d s).sdu = s.sdu ∧ (sduHeat d s).re = s.re ∧ (sduHeat d s).pu = s.pu := by
  unfold sduHeat; split <;> simp [writeDemand, Loads.set]

@[simp] theorem writePhaseDemand_keeps (s : State) :
    (writePhaseDemand s).pending = s.pending ∧ (writePhaseDemand s).run = s.run ∧
    (writePhaseDemand s).config = s.config ∧ (writePhaseDemand s).store = s.store ∧
    (writePhaseDemand s).second = s.second ∧ (writePhaseDemand s).freeUses = s.freeUses ∧
    (writePhaseDemand s).link = s.link ∧ (writePhaseDemand s).od = s.od ∧ (writePhaseDemand s).ssu = s.ssu ∧
    (writePhaseDemand s).lpd.drive = s.lpd.drive ∧ (writePhaseDemand s).lpd.half = s.lpd.half ∧
    (writePhaseDemand s).lpd.loads.top = s.lpd.loads.top ∧
    (writePhaseDemand s).lpd.loads.bottom = s.lpd.loads.bottom ∧
    (writePhaseDemand s).lpd.loads.ring = s.lpd.loads.ring ∧ (writePhaseDemand s).lpd.pool = s.lpd.pool ∧
    (writePhaseDemand s).lpd.shed = s.lpd.shed ∧ (writePhaseDemand s).lpd.gates = s.lpd.gates ∧
    (writePhaseDemand s).lpd.sinceCrossing = s.lpd.sinceCrossing ∧ (writePhaseDemand s).mu = s.mu ∧
    (writePhaseDemand s).cr = s.cr ∧ (writePhaseDemand s).sgc = s.sgc ∧ (writePhaseDemand s).sdu = s.sdu ∧
    (writePhaseDemand s).re = s.re ∧ (writePhaseDemand s).pu = s.pu := by
  simp [writePhaseDemand]

@[simp] theorem enterPhase_keeps (p : Phase) (s : State) :
    (enterPhase p s).pending = s.pending ∧ (enterPhase p s).run = s.run ∧ (enterPhase p s).config = s.config ∧
    (enterPhase p s).store = s.store ∧ (enterPhase p s).second = s.second ∧ (enterPhase p s).freeUses = s.freeUses ∧
    (enterPhase p s).link = s.link ∧ (enterPhase p s).od = s.od ∧ (enterPhase p s).ssu = s.ssu ∧
    (enterPhase p s).lpd.drive = s.lpd.drive ∧ (enterPhase p s).lpd.half = s.lpd.half ∧
    (enterPhase p s).lpd.loads.top = s.lpd.loads.top ∧ (enterPhase p s).lpd.loads.bottom = s.lpd.loads.bottom ∧
    (enterPhase p s).lpd.loads.ring = s.lpd.loads.ring ∧ (enterPhase p s).lpd.pool = s.lpd.pool ∧
    (enterPhase p s).lpd.shed = s.lpd.shed ∧ (enterPhase p s).lpd.gates = s.lpd.gates ∧
    (enterPhase p s).lpd.sinceCrossing = s.lpd.sinceCrossing ∧ (enterPhase p s).mu = s.mu ∧
    (enterPhase p s).cr = s.cr ∧ (enterPhase p s).sgc = s.sgc ∧ (enterPhase p s).sdu.account = s.sdu.account ∧
    (enterPhase p s).sdu.hardness = s.sdu.hardness ∧ (enterPhase p s).sdu.mark = s.sdu.mark ∧
    (enterPhase p s).sdu.meteringSum = s.sdu.meteringSum ∧ (enterPhase p s).sdu.lockingFrom = s.sdu.lockingFrom ∧
    (enterPhase p s).sdu.soakCount = s.sdu.soakCount ∧ (enterPhase p s).sdu.rinseCycle = s.sdu.rinseCycle ∧
    (enterPhase p s).sdu.rinseStep = s.sdu.rinseStep ∧ (enterPhase p s).sdu.heatingTime = s.sdu.heatingTime ∧
    (enterPhase p s).sdu.drained = s.sdu.drained ∧ (enterPhase p s).sdu.writing = s.sdu.writing ∧
    (enterPhase p s).sdu.writeTimer = s.sdu.writeTimer ∧
    (enterPhase p s).sdu.rewritePending = s.sdu.rewritePending ∧ (enterPhase p s).sdu.retry = s.sdu.retry ∧
    (enterPhase p s).sdu.failures = s.sdu.failures ∧ (enterPhase p s).re = s.re ∧ (enterPhase p s).pu = s.pu := by
  simp [enterPhase]

@[simp] theorem enterLocking_keeps (f : LockingFrom) (s : State) :
    (enterLocking f s).pending = s.pending ∧ (enterLocking f s).run = s.run ∧ (enterLocking f s).config = s.config ∧
    (enterLocking f s).store = s.store ∧ (enterLocking f s).second = s.second ∧
    (enterLocking f s).freeUses = s.freeUses ∧ (enterLocking f s).link = s.link ∧
    (enterLocking f s).od.power = s.od.power ∧ (enterLocking f s).od.restartPending = s.od.restartPending ∧
    (enterLocking f s).od.cycle = s.od.cycle ∧ (enterLocking f s).od.cycleTimer = s.od.cycleTimer ∧
    (enterLocking f s).od.eventsTimer = s.od.eventsTimer ∧ (enterLocking f s).od.diagTimer = s.od.diagTimer ∧
    (enterLocking f s).ssu = s.ssu ∧ (enterLocking f s).lpd.drive = s.lpd.drive ∧
    (enterLocking f s).lpd.half = s.lpd.half ∧ (enterLocking f s).lpd.pool = s.lpd.pool ∧
    (enterLocking f s).lpd.shed = s.lpd.shed ∧ (enterLocking f s).lpd.gates = s.lpd.gates ∧
    (enterLocking f s).lpd.sinceCrossing = s.lpd.sinceCrossing ∧
    (enterLocking f s).lpd.loads.top = s.lpd.loads.top ∧ (enterLocking f s).lpd.loads.bottom = s.lpd.loads.bottom ∧
    (enterLocking f s).lpd.loads.ring = s.lpd.loads.ring ∧ (enterLocking f s).mu = s.mu ∧
    (enterLocking f s).cr = s.cr ∧ (enterLocking f s).sgc = s.sgc ∧ (enterLocking f s).re.slotA = s.re.slotA ∧
    (enterLocking f s).re.slotB = s.re.slotB ∧ (enterLocking f s).re.running = s.re.running ∧
    (enterLocking f s).re.queued = s.re.queued ∧ (enterLocking f s).re.context = s.re.context ∧
    (enterLocking f s).re.repeats = s.re.repeats ∧ (enterLocking f s).re.holds.power = s.re.holds.power ∧
    (enterLocking f s).re.holds.water = s.re.holds.water ∧ (enterLocking f s).re.holds.probe = s.re.holds.probe ∧
    (enterLocking f s).pu.trips.cavityOvertemp = s.pu.trips.cavityOvertemp ∧
    (enterLocking f s).pu.trips.boilerDry = s.pu.trips.boilerDry ∧
    (enterLocking f s).pu.trips.sensor = s.pu.trips.sensor ∧ (enterLocking f s).sdu.account = s.sdu.account ∧
    (enterLocking f s).sdu.hardness = s.sdu.hardness ∧ (enterLocking f s).sdu.mark = s.sdu.mark ∧
    (enterLocking f s).sdu.meteringSum = s.sdu.meteringSum ∧ (enterLocking f s).sdu.soakCount = s.sdu.soakCount ∧
    (enterLocking f s).sdu.rinseCycle = s.sdu.rinseCycle ∧ (enterLocking f s).sdu.rinseStep = s.sdu.rinseStep ∧
    (enterLocking f s).sdu.heatingTime = s.sdu.heatingTime ∧ (enterLocking f s).sdu.drained = s.sdu.drained ∧
    (enterLocking f s).sdu.writing = s.sdu.writing ∧ (enterLocking f s).sdu.writeTimer = s.sdu.writeTimer ∧
    (enterLocking f s).sdu.rewritePending = s.sdu.rewritePending ∧ (enterLocking f s).sdu.retry = s.sdu.retry ∧
    (enterLocking f s).sdu.failures = s.sdu.failures := by
  simp [enterLocking]

@[simp] theorem enterAwait_keeps (p : Phase) (s : State) :
    (enterAwait p s).pending = s.pending ∧ (enterAwait p s).run = s.run ∧ (enterAwait p s).config = s.config ∧
    (enterAwait p s).store = s.store ∧ (enterAwait p s).second = s.second ∧ (enterAwait p s).freeUses = s.freeUses ∧
    (enterAwait p s).link = s.link ∧ (enterAwait p s).od.power = s.od.power ∧
    (enterAwait p s).od.restartPending = s.od.restartPending ∧ (enterAwait p s).od.cycle = s.od.cycle ∧
    (enterAwait p s).od.cycleTimer = s.od.cycleTimer ∧ (enterAwait p s).od.eventsTimer = s.od.eventsTimer ∧
    (enterAwait p s).od.diagTimer = s.od.diagTimer ∧ (enterAwait p s).ssu = s.ssu ∧
    (enterAwait p s).lpd.drive = s.lpd.drive ∧ (enterAwait p s).lpd.half = s.lpd.half ∧
    (enterAwait p s).lpd.loads.top = s.lpd.loads.top ∧ (enterAwait p s).lpd.loads.bottom = s.lpd.loads.bottom ∧
    (enterAwait p s).lpd.loads.ring = s.lpd.loads.ring ∧ (enterAwait p s).lpd.pool = s.lpd.pool ∧
    (enterAwait p s).lpd.shed = s.lpd.shed ∧ (enterAwait p s).lpd.gates = s.lpd.gates ∧
    (enterAwait p s).lpd.sinceCrossing = s.lpd.sinceCrossing ∧ (enterAwait p s).mu = s.mu ∧
    (enterAwait p s).cr = s.cr ∧ (enterAwait p s).sgc = s.sgc ∧ (enterAwait p s).sdu.account = s.sdu.account ∧
    (enterAwait p s).sdu.hardness = s.sdu.hardness ∧ (enterAwait p s).sdu.mark = s.sdu.mark ∧
    (enterAwait p s).sdu.meteringSum = s.sdu.meteringSum ∧ (enterAwait p s).sdu.lockingFrom = s.sdu.lockingFrom ∧
    (enterAwait p s).sdu.soakCount = s.sdu.soakCount ∧ (enterAwait p s).sdu.rinseCycle = s.sdu.rinseCycle ∧
    (enterAwait p s).sdu.rinseStep = s.sdu.rinseStep ∧ (enterAwait p s).sdu.heatingTime = s.sdu.heatingTime ∧
    (enterAwait p s).sdu.drained = s.sdu.drained ∧ (enterAwait p s).sdu.writing = s.sdu.writing ∧
    (enterAwait p s).sdu.writeTimer = s.sdu.writeTimer ∧
    (enterAwait p s).sdu.rewritePending = s.sdu.rewritePending ∧ (enterAwait p s).sdu.retry = s.sdu.retry ∧
    (enterAwait p s).sdu.failures = s.sdu.failures ∧ (enterAwait p s).re = s.re ∧ (enterAwait p s).pu = s.pu := by
  simp [enterAwait]

@[simp] theorem enterDrainAgent_keeps (s : State) :
    (enterDrainAgent s).pending = s.pending ∧ (enterDrainAgent s).run = s.run ∧
    (enterDrainAgent s).config = s.config ∧ (enterDrainAgent s).store = s.store ∧
    (enterDrainAgent s).second = s.second ∧ (enterDrainAgent s).freeUses = s.freeUses ∧
    (enterDrainAgent s).link = s.link ∧ (enterDrainAgent s).od = s.od ∧ (enterDrainAgent s).ssu = s.ssu ∧
    (enterDrainAgent s).lpd.drive = s.lpd.drive ∧ (enterDrainAgent s).lpd.half = s.lpd.half ∧
    (enterDrainAgent s).lpd.loads.top = s.lpd.loads.top ∧
    (enterDrainAgent s).lpd.loads.bottom = s.lpd.loads.bottom ∧
    (enterDrainAgent s).lpd.loads.ring = s.lpd.loads.ring ∧ (enterDrainAgent s).lpd.pool = s.lpd.pool ∧
    (enterDrainAgent s).lpd.shed = s.lpd.shed ∧ (enterDrainAgent s).lpd.gates = s.lpd.gates ∧
    (enterDrainAgent s).lpd.sinceCrossing = s.lpd.sinceCrossing ∧ (enterDrainAgent s).mu = s.mu ∧
    (enterDrainAgent s).cr = s.cr ∧ (enterDrainAgent s).sgc = s.sgc ∧
    (enterDrainAgent s).sdu.account = s.sdu.account ∧ (enterDrainAgent s).sdu.hardness = s.sdu.hardness ∧
    (enterDrainAgent s).sdu.mark = s.sdu.mark ∧ (enterDrainAgent s).sdu.meteringSum = s.sdu.meteringSum ∧
    (enterDrainAgent s).sdu.lockingFrom = s.sdu.lockingFrom ∧ (enterDrainAgent s).sdu.soakCount = s.sdu.soakCount ∧
    (enterDrainAgent s).sdu.rinseCycle = s.sdu.rinseCycle ∧ (enterDrainAgent s).sdu.rinseStep = s.sdu.rinseStep ∧
    (enterDrainAgent s).sdu.heatingTime = s.sdu.heatingTime ∧ (enterDrainAgent s).sdu.writing = s.sdu.writing ∧
    (enterDrainAgent s).sdu.writeTimer = s.sdu.writeTimer ∧
    (enterDrainAgent s).sdu.rewritePending = s.sdu.rewritePending ∧ (enterDrainAgent s).sdu.retry = s.sdu.retry ∧
    (enterDrainAgent s).sdu.failures = s.sdu.failures ∧ (enterDrainAgent s).re = s.re ∧
    (enterDrainAgent s).pu = s.pu := by
  simp [enterDrainAgent]

@[simp] theorem enterSoakFill_keeps (s : State) :
    (enterSoakFill s).pending = s.pending ∧ (enterSoakFill s).run = s.run ∧ (enterSoakFill s).config = s.config ∧
    (enterSoakFill s).store = s.store ∧ (enterSoakFill s).second = s.second ∧
    (enterSoakFill s).freeUses = s.freeUses ∧ (enterSoakFill s).link = s.link ∧ (enterSoakFill s).od = s.od ∧
    (enterSoakFill s).ssu = s.ssu ∧ (enterSoakFill s).lpd.drive = s.lpd.drive ∧
    (enterSoakFill s).lpd.half = s.lpd.half ∧ (enterSoakFill s).lpd.loads.top = s.lpd.loads.top ∧
    (enterSoakFill s).lpd.loads.bottom = s.lpd.loads.bottom ∧ (enterSoakFill s).lpd.loads.ring = s.lpd.loads.ring ∧
    (enterSoakFill s).lpd.pool = s.lpd.pool ∧ (enterSoakFill s).lpd.shed = s.lpd.shed ∧
    (enterSoakFill s).lpd.gates = s.lpd.gates ∧ (enterSoakFill s).lpd.sinceCrossing = s.lpd.sinceCrossing ∧
    (enterSoakFill s).mu = s.mu ∧ (enterSoakFill s).cr = s.cr ∧ (enterSoakFill s).sgc = s.sgc ∧
    (enterSoakFill s).sdu.account = s.sdu.account ∧ (enterSoakFill s).sdu.hardness = s.sdu.hardness ∧
    (enterSoakFill s).sdu.meteringSum = s.sdu.meteringSum ∧ (enterSoakFill s).sdu.lockingFrom = s.sdu.lockingFrom ∧
    (enterSoakFill s).sdu.soakCount = s.sdu.soakCount ∧ (enterSoakFill s).sdu.rinseCycle = s.sdu.rinseCycle ∧
    (enterSoakFill s).sdu.rinseStep = s.sdu.rinseStep ∧ (enterSoakFill s).sdu.heatingTime = s.sdu.heatingTime ∧
    (enterSoakFill s).sdu.drained = s.sdu.drained ∧ (enterSoakFill s).sdu.retry = s.sdu.retry ∧
    (enterSoakFill s).sdu.failures = s.sdu.failures ∧ (enterSoakFill s).re = s.re ∧ (enterSoakFill s).pu = s.pu := by
  simp [enterSoakFill]

@[simp] theorem enterSoak_keeps (s : State) :
    (enterSoak s).pending = s.pending ∧ (enterSoak s).run = s.run ∧ (enterSoak s).config = s.config ∧
    (enterSoak s).store = s.store ∧ (enterSoak s).second = s.second ∧ (enterSoak s).freeUses = s.freeUses ∧
    (enterSoak s).link = s.link ∧ (enterSoak s).od = s.od ∧ (enterSoak s).ssu = s.ssu ∧
    (enterSoak s).lpd.drive = s.lpd.drive ∧ (enterSoak s).lpd.half = s.lpd.half ∧
    (enterSoak s).lpd.loads.top = s.lpd.loads.top ∧ (enterSoak s).lpd.loads.bottom = s.lpd.loads.bottom ∧
    (enterSoak s).lpd.loads.ring = s.lpd.loads.ring ∧ (enterSoak s).lpd.pool = s.lpd.pool ∧
    (enterSoak s).lpd.shed = s.lpd.shed ∧ (enterSoak s).lpd.gates = s.lpd.gates ∧
    (enterSoak s).lpd.sinceCrossing = s.lpd.sinceCrossing ∧ (enterSoak s).mu = s.mu ∧ (enterSoak s).cr = s.cr ∧
    (enterSoak s).sgc = s.sgc ∧ (enterSoak s).sdu.account = s.sdu.account ∧
    (enterSoak s).sdu.hardness = s.sdu.hardness ∧ (enterSoak s).sdu.mark = s.sdu.mark ∧
    (enterSoak s).sdu.meteringSum = s.sdu.meteringSum ∧ (enterSoak s).sdu.lockingFrom = s.sdu.lockingFrom ∧
    (enterSoak s).sdu.rinseCycle = s.sdu.rinseCycle ∧ (enterSoak s).sdu.rinseStep = s.sdu.rinseStep ∧
    (enterSoak s).sdu.heatingTime = s.sdu.heatingTime ∧ (enterSoak s).sdu.drained = s.sdu.drained ∧
    (enterSoak s).sdu.writing = s.sdu.writing ∧ (enterSoak s).sdu.writeTimer = s.sdu.writeTimer ∧
    (enterSoak s).sdu.rewritePending = s.sdu.rewritePending ∧ (enterSoak s).sdu.retry = s.sdu.retry ∧
    (enterSoak s).sdu.failures = s.sdu.failures ∧ (enterSoak s).re = s.re ∧ (enterSoak s).pu = s.pu := by
  simp [enterSoak]

@[simp] theorem enterRinseFill_keeps (cycle : Nat) (s : State) :
    (enterRinseFill cycle s).pending = s.pending ∧ (enterRinseFill cycle s).run = s.run ∧
    (enterRinseFill cycle s).config = s.config ∧ (enterRinseFill cycle s).store = s.store ∧
    (enterRinseFill cycle s).second = s.second ∧ (enterRinseFill cycle s).freeUses = s.freeUses ∧
    (enterRinseFill cycle s).link = s.link ∧ (enterRinseFill cycle s).od = s.od ∧
    (enterRinseFill cycle s).ssu = s.ssu ∧ (enterRinseFill cycle s).lpd.drive = s.lpd.drive ∧
    (enterRinseFill cycle s).lpd.half = s.lpd.half ∧ (enterRinseFill cycle s).lpd.loads.top = s.lpd.loads.top ∧
    (enterRinseFill cycle s).lpd.loads.bottom = s.lpd.loads.bottom ∧
    (enterRinseFill cycle s).lpd.loads.ring = s.lpd.loads.ring ∧ (enterRinseFill cycle s).lpd.pool = s.lpd.pool ∧
    (enterRinseFill cycle s).lpd.shed = s.lpd.shed ∧ (enterRinseFill cycle s).lpd.gates = s.lpd.gates ∧
    (enterRinseFill cycle s).lpd.sinceCrossing = s.lpd.sinceCrossing ∧ (enterRinseFill cycle s).mu = s.mu ∧
    (enterRinseFill cycle s).cr = s.cr ∧ (enterRinseFill cycle s).sgc = s.sgc ∧
    (enterRinseFill cycle s).sdu.account = s.sdu.account ∧ (enterRinseFill cycle s).sdu.hardness = s.sdu.hardness ∧
    (enterRinseFill cycle s).sdu.mark = s.sdu.mark ∧ (enterRinseFill cycle s).sdu.meteringSum = s.sdu.meteringSum ∧
    (enterRinseFill cycle s).sdu.lockingFrom = s.sdu.lockingFrom ∧
    (enterRinseFill cycle s).sdu.soakCount = s.sdu.soakCount ∧
    (enterRinseFill cycle s).sdu.heatingTime = s.sdu.heatingTime ∧
    (enterRinseFill cycle s).sdu.writing = s.sdu.writing ∧
    (enterRinseFill cycle s).sdu.writeTimer = s.sdu.writeTimer ∧
    (enterRinseFill cycle s).sdu.rewritePending = s.sdu.rewritePending ∧
    (enterRinseFill cycle s).sdu.retry = s.sdu.retry ∧ (enterRinseFill cycle s).sdu.failures = s.sdu.failures ∧
    (enterRinseFill cycle s).re = s.re ∧ (enterRinseFill cycle s).pu = s.pu := by
  simp [enterRinseFill]

@[simp] theorem enterRinseHeat_keeps (s : State) :
    (enterRinseHeat s).pending = s.pending ∧ (enterRinseHeat s).run = s.run ∧ (enterRinseHeat s).config = s.config ∧
    (enterRinseHeat s).store = s.store ∧ (enterRinseHeat s).second = s.second ∧
    (enterRinseHeat s).freeUses = s.freeUses ∧ (enterRinseHeat s).link = s.link ∧ (enterRinseHeat s).od = s.od ∧
    (enterRinseHeat s).ssu = s.ssu ∧ (enterRinseHeat s).lpd.drive = s.lpd.drive ∧
    (enterRinseHeat s).lpd.half = s.lpd.half ∧ (enterRinseHeat s).lpd.loads.top = s.lpd.loads.top ∧
    (enterRinseHeat s).lpd.loads.bottom = s.lpd.loads.bottom ∧
    (enterRinseHeat s).lpd.loads.ring = s.lpd.loads.ring ∧ (enterRinseHeat s).lpd.pool = s.lpd.pool ∧
    (enterRinseHeat s).lpd.shed = s.lpd.shed ∧ (enterRinseHeat s).lpd.gates = s.lpd.gates ∧
    (enterRinseHeat s).lpd.sinceCrossing = s.lpd.sinceCrossing ∧ (enterRinseHeat s).mu = s.mu ∧
    (enterRinseHeat s).cr = s.cr ∧ (enterRinseHeat s).sgc = s.sgc ∧ (enterRinseHeat s).sdu.account = s.sdu.account ∧
    (enterRinseHeat s).sdu.hardness = s.sdu.hardness ∧ (enterRinseHeat s).sdu.mark = s.sdu.mark ∧
    (enterRinseHeat s).sdu.meteringSum = s.sdu.meteringSum ∧
    (enterRinseHeat s).sdu.lockingFrom = s.sdu.lockingFrom ∧ (enterRinseHeat s).sdu.soakCount = s.sdu.soakCount ∧
    (enterRinseHeat s).sdu.rinseCycle = s.sdu.rinseCycle ∧ (enterRinseHeat s).sdu.drained = s.sdu.drained ∧
    (enterRinseHeat s).sdu.writing = s.sdu.writing ∧ (enterRinseHeat s).sdu.writeTimer = s.sdu.writeTimer ∧
    (enterRinseHeat s).sdu.rewritePending = s.sdu.rewritePending ∧ (enterRinseHeat s).sdu.retry = s.sdu.retry ∧
    (enterRinseHeat s).sdu.failures = s.sdu.failures ∧ (enterRinseHeat s).re = s.re ∧ (enterRinseHeat s).pu = s.pu := by
  simp [enterRinseHeat]

@[simp] theorem enterRinseDrain_keeps (s : State) :
    (enterRinseDrain s).pending = s.pending ∧ (enterRinseDrain s).run = s.run ∧
    (enterRinseDrain s).config = s.config ∧ (enterRinseDrain s).store = s.store ∧
    (enterRinseDrain s).second = s.second ∧ (enterRinseDrain s).freeUses = s.freeUses ∧
    (enterRinseDrain s).link = s.link ∧ (enterRinseDrain s).od = s.od ∧ (enterRinseDrain s).ssu = s.ssu ∧
    (enterRinseDrain s).lpd.drive = s.lpd.drive ∧ (enterRinseDrain s).lpd.half = s.lpd.half ∧
    (enterRinseDrain s).lpd.loads.top = s.lpd.loads.top ∧
    (enterRinseDrain s).lpd.loads.bottom = s.lpd.loads.bottom ∧
    (enterRinseDrain s).lpd.loads.ring = s.lpd.loads.ring ∧ (enterRinseDrain s).lpd.pool = s.lpd.pool ∧
    (enterRinseDrain s).lpd.shed = s.lpd.shed ∧ (enterRinseDrain s).lpd.gates = s.lpd.gates ∧
    (enterRinseDrain s).lpd.sinceCrossing = s.lpd.sinceCrossing ∧ (enterRinseDrain s).mu = s.mu ∧
    (enterRinseDrain s).cr = s.cr ∧ (enterRinseDrain s).sgc = s.sgc ∧
    (enterRinseDrain s).sdu.account = s.sdu.account ∧ (enterRinseDrain s).sdu.hardness = s.sdu.hardness ∧
    (enterRinseDrain s).sdu.mark = s.sdu.mark ∧ (enterRinseDrain s).sdu.meteringSum = s.sdu.meteringSum ∧
    (enterRinseDrain s).sdu.lockingFrom = s.sdu.lockingFrom ∧ (enterRinseDrain s).sdu.soakCount = s.sdu.soakCount ∧
    (enterRinseDrain s).sdu.rinseCycle = s.sdu.rinseCycle ∧
    (enterRinseDrain s).sdu.heatingTime = s.sdu.heatingTime ∧ (enterRinseDrain s).sdu.writing = s.sdu.writing ∧
    (enterRinseDrain s).sdu.writeTimer = s.sdu.writeTimer ∧
    (enterRinseDrain s).sdu.rewritePending = s.sdu.rewritePending ∧ (enterRinseDrain s).sdu.retry = s.sdu.retry ∧
    (enterRinseDrain s).sdu.failures = s.sdu.failures ∧ (enterRinseDrain s).re = s.re ∧
    (enterRinseDrain s).pu = s.pu := by
  simp [enterRinseDrain]

@[simp] theorem enterUnlocking_keeps (s : State) :
    (enterUnlocking s).pending = s.pending ∧ (enterUnlocking s).run = s.run ∧ (enterUnlocking s).config = s.config ∧
    (enterUnlocking s).store = s.store ∧ (enterUnlocking s).second = s.second ∧
    (enterUnlocking s).freeUses = s.freeUses ∧ (enterUnlocking s).link = s.link ∧
    (enterUnlocking s).od.power = s.od.power ∧ (enterUnlocking s).od.restartPending = s.od.restartPending ∧
    (enterUnlocking s).od.cycle = s.od.cycle ∧ (enterUnlocking s).od.cycleTimer = s.od.cycleTimer ∧
    (enterUnlocking s).od.eventsTimer = s.od.eventsTimer ∧ (enterUnlocking s).od.diagTimer = s.od.diagTimer ∧
    (enterUnlocking s).ssu = s.ssu ∧ (enterUnlocking s).lpd.drive = s.lpd.drive ∧
    (enterUnlocking s).lpd.half = s.lpd.half ∧ (enterUnlocking s).lpd.pool = s.lpd.pool ∧
    (enterUnlocking s).lpd.shed = s.lpd.shed ∧ (enterUnlocking s).lpd.gates = s.lpd.gates ∧
    (enterUnlocking s).lpd.sinceCrossing = s.lpd.sinceCrossing ∧
    (enterUnlocking s).lpd.loads.top = s.lpd.loads.top ∧ (enterUnlocking s).lpd.loads.bottom = s.lpd.loads.bottom ∧
    (enterUnlocking s).lpd.loads.ring = s.lpd.loads.ring ∧ (enterUnlocking s).mu = s.mu ∧
    (enterUnlocking s).cr = s.cr ∧ (enterUnlocking s).sgc = s.sgc ∧ (enterUnlocking s).re.slotA = s.re.slotA ∧
    (enterUnlocking s).re.slotB = s.re.slotB ∧ (enterUnlocking s).re.running = s.re.running ∧
    (enterUnlocking s).re.queued = s.re.queued ∧ (enterUnlocking s).re.context = s.re.context ∧
    (enterUnlocking s).re.repeats = s.re.repeats ∧ (enterUnlocking s).re.holds.power = s.re.holds.power ∧
    (enterUnlocking s).re.holds.water = s.re.holds.water ∧ (enterUnlocking s).re.holds.probe = s.re.holds.probe ∧
    (enterUnlocking s).pu.trips.cavityOvertemp = s.pu.trips.cavityOvertemp ∧
    (enterUnlocking s).pu.trips.boilerDry = s.pu.trips.boilerDry ∧
    (enterUnlocking s).pu.trips.sensor = s.pu.trips.sensor ∧ (enterUnlocking s).sdu.account = s.sdu.account ∧
    (enterUnlocking s).sdu.hardness = s.sdu.hardness ∧ (enterUnlocking s).sdu.mark = s.sdu.mark ∧
    (enterUnlocking s).sdu.meteringSum = s.sdu.meteringSum ∧
    (enterUnlocking s).sdu.lockingFrom = s.sdu.lockingFrom ∧ (enterUnlocking s).sdu.soakCount = s.sdu.soakCount ∧
    (enterUnlocking s).sdu.rinseCycle = s.sdu.rinseCycle ∧ (enterUnlocking s).sdu.rinseStep = s.sdu.rinseStep ∧
    (enterUnlocking s).sdu.heatingTime = s.sdu.heatingTime ∧ (enterUnlocking s).sdu.drained = s.sdu.drained ∧
    (enterUnlocking s).sdu.writing = s.sdu.writing ∧ (enterUnlocking s).sdu.writeTimer = s.sdu.writeTimer ∧
    (enterUnlocking s).sdu.rewritePending = s.sdu.rewritePending ∧ (enterUnlocking s).sdu.retry = s.sdu.retry ∧
    (enterUnlocking s).sdu.failures = s.sdu.failures := by
  simp [enterUnlocking]

@[simp] theorem leaveDescale_keeps (s : State) :
    (leaveDescale s).pending = s.pending ∧ (leaveDescale s).run = s.run ∧ (leaveDescale s).config = s.config ∧
    (leaveDescale s).store = s.store ∧ (leaveDescale s).second = s.second ∧ (leaveDescale s).freeUses = s.freeUses ∧
    (leaveDescale s).link = s.link ∧ (leaveDescale s).od.power = s.od.power ∧
    (leaveDescale s).od.restartPending = s.od.restartPending ∧ (leaveDescale s).od.cycle = s.od.cycle ∧
    (leaveDescale s).od.cycleTimer = s.od.cycleTimer ∧ (leaveDescale s).od.eventsTimer = s.od.eventsTimer ∧
    (leaveDescale s).od.diagTimer = s.od.diagTimer ∧ (leaveDescale s).ssu.peers = s.ssu.peers ∧
    (leaveDescale s).ssu.claim = s.ssu.claim ∧ (leaveDescale s).ssu.announced = s.ssu.announced ∧
    (leaveDescale s).ssu.raise = s.ssu.raise ∧ (leaveDescale s).ssu.lastA = s.ssu.lastA ∧
    (leaveDescale s).ssu.lastW = s.ssu.lastW ∧ (leaveDescale s).ssu.lastFo = s.ssu.lastFo ∧
    (leaveDescale s).ssu.contention = s.ssu.contention ∧ (leaveDescale s).ssu.listenIn = s.ssu.listenIn ∧
    (leaveDescale s).ssu.period = s.ssu.period ∧ (leaveDescale s).lpd.drive = s.lpd.drive ∧
    (leaveDescale s).lpd.half = s.lpd.half ∧ (leaveDescale s).lpd.loads.top = s.lpd.loads.top ∧
    (leaveDescale s).lpd.loads.bottom = s.lpd.loads.bottom ∧ (leaveDescale s).lpd.loads.ring = s.lpd.loads.ring ∧
    (leaveDescale s).lpd.pool = s.lpd.pool ∧ (leaveDescale s).lpd.shed = s.lpd.shed ∧
    (leaveDescale s).lpd.gates = s.lpd.gates ∧ (leaveDescale s).lpd.sinceCrossing = s.lpd.sinceCrossing ∧
    (leaveDescale s).mu = s.mu ∧ (leaveDescale s).cr = s.cr ∧ (leaveDescale s).sgc.steamWanted = s.sgc.steamWanted ∧
    (leaveDescale s).sgc.steamDemand = s.sgc.steamDemand ∧ (leaveDescale s).sgc.derate = s.sgc.derate ∧
    (leaveDescale s).sgc.pumpDrive = s.sgc.pumpDrive ∧ (leaveDescale s).sgc.drainCount = s.sgc.drainCount ∧
    (leaveDescale s).sdu.account = s.sdu.account ∧ (leaveDescale s).sdu.hardness = s.sdu.hardness ∧
    (leaveDescale s).sdu.mark = s.sdu.mark ∧ (leaveDescale s).sdu.meteringSum = s.sdu.meteringSum ∧
    (leaveDescale s).sdu.lockingFrom = s.sdu.lockingFrom ∧ (leaveDescale s).sdu.soakCount = s.sdu.soakCount ∧
    (leaveDescale s).sdu.rinseCycle = s.sdu.rinseCycle ∧ (leaveDescale s).sdu.rinseStep = s.sdu.rinseStep ∧
    (leaveDescale s).sdu.heatingTime = s.sdu.heatingTime ∧ (leaveDescale s).sdu.drained = s.sdu.drained ∧
    (leaveDescale s).sdu.retry = s.sdu.retry ∧ (leaveDescale s).sdu.failures = s.sdu.failures ∧
    (leaveDescale s).re.slotA = s.re.slotA ∧ (leaveDescale s).re.slotB = s.re.slotB ∧
    (leaveDescale s).re.running = s.re.running ∧ (leaveDescale s).re.queued = s.re.queued ∧
    (leaveDescale s).re.context = s.re.context ∧ (leaveDescale s).re.repeats = s.re.repeats ∧
    (leaveDescale s).pu = s.pu := by
  simp [leaveDescale]

@[simp] theorem enterDone_keeps (s : State) :
    (enterDone s).pending = s.pending ∧ (enterDone s).run = s.run ∧ (enterDone s).config = s.config ∧
    (enterDone s).store = s.store ∧ (enterDone s).second = s.second ∧ (enterDone s).freeUses = s.freeUses ∧
    (enterDone s).link = s.link ∧ (enterDone s).od.power = s.od.power ∧
    (enterDone s).od.restartPending = s.od.restartPending ∧ (enterDone s).od.cycle = s.od.cycle ∧
    (enterDone s).od.cycleTimer = s.od.cycleTimer ∧ (enterDone s).od.eventsTimer = s.od.eventsTimer ∧
    (enterDone s).od.diagTimer = s.od.diagTimer ∧ (enterDone s).ssu.peers = s.ssu.peers ∧
    (enterDone s).ssu.claim = s.ssu.claim ∧ (enterDone s).ssu.announced = s.ssu.announced ∧
    (enterDone s).ssu.raise = s.ssu.raise ∧ (enterDone s).ssu.lastA = s.ssu.lastA ∧
    (enterDone s).ssu.lastW = s.ssu.lastW ∧ (enterDone s).ssu.lastFo = s.ssu.lastFo ∧
    (enterDone s).ssu.contention = s.ssu.contention ∧ (enterDone s).ssu.listenIn = s.ssu.listenIn ∧
    (enterDone s).ssu.period = s.ssu.period ∧ (enterDone s).lpd.drive = s.lpd.drive ∧
    (enterDone s).lpd.half = s.lpd.half ∧ (enterDone s).lpd.pool = s.lpd.pool ∧
    (enterDone s).lpd.shed = s.lpd.shed ∧ (enterDone s).lpd.gates = s.lpd.gates ∧
    (enterDone s).lpd.sinceCrossing = s.lpd.sinceCrossing ∧ (enterDone s).mu = s.mu ∧ (enterDone s).cr = s.cr ∧
    (enterDone s).sgc.steamWanted = s.sgc.steamWanted ∧ (enterDone s).sgc.steamDemand = s.sgc.steamDemand ∧
    (enterDone s).sgc.pumpDrive = s.sgc.pumpDrive ∧ (enterDone s).sgc.drainCount = s.sgc.drainCount ∧
    (enterDone s).sdu.hardness = s.sdu.hardness ∧ (enterDone s).sdu.meteringSum = s.sdu.meteringSum ∧
    (enterDone s).sdu.lockingFrom = s.sdu.lockingFrom ∧ (enterDone s).sdu.soakCount = s.sdu.soakCount ∧
    (enterDone s).sdu.rinseCycle = s.sdu.rinseCycle ∧ (enterDone s).sdu.rinseStep = s.sdu.rinseStep ∧
    (enterDone s).sdu.heatingTime = s.sdu.heatingTime ∧ (enterDone s).sdu.drained = s.sdu.drained ∧
    (enterDone s).sdu.retry = s.sdu.retry ∧ (enterDone s).sdu.failures = s.sdu.failures ∧
    (enterDone s).re.slotA = s.re.slotA ∧ (enterDone s).re.slotB = s.re.slotB ∧
    (enterDone s).re.running = s.re.running ∧ (enterDone s).re.queued = s.re.queued ∧
    (enterDone s).re.context = s.re.context ∧ (enterDone s).re.repeats = s.re.repeats ∧ (enterDone s).pu = s.pu ∧
    (enterDone s).lpd.loads.top = s.lpd.loads.top ∧ (enterDone s).lpd.loads.bottom = s.lpd.loads.bottom ∧
    (enterDone s).lpd.loads.ring = s.lpd.loads.ring := by
  simp [enterDone]

theorem awaitDrain_keeps {s t : State} (h : awaitDrain s = some t) :
    t.pending = s.pending ∧ t.run = s.run ∧ t.config = s.config ∧ t.store = s.store ∧ t.second = s.second ∧
    t.freeUses = s.freeUses ∧ t.link = s.link ∧ t.od.power = s.od.power ∧
    t.od.restartPending = s.od.restartPending ∧ t.od.cycle = s.od.cycle ∧ t.od.cycleTimer = s.od.cycleTimer ∧
    t.od.eventsTimer = s.od.eventsTimer ∧ t.od.diagTimer = s.od.diagTimer ∧ t.ssu = s.ssu ∧
    t.lpd.drive = s.lpd.drive ∧ t.lpd.half = s.lpd.half ∧ t.lpd.loads.top = s.lpd.loads.top ∧
    t.lpd.loads.bottom = s.lpd.loads.bottom ∧ t.lpd.loads.ring = s.lpd.loads.ring ∧ t.lpd.pool = s.lpd.pool ∧
    t.lpd.shed = s.lpd.shed ∧ t.lpd.gates = s.lpd.gates ∧ t.lpd.sinceCrossing = s.lpd.sinceCrossing ∧ t.mu = s.mu ∧
    t.cr = s.cr ∧ t.sgc.user = s.sgc.user ∧ t.sgc.steamWanted = s.sgc.steamWanted ∧
    t.sgc.steamDemand = s.sgc.steamDemand ∧ t.sgc.derate = s.sgc.derate ∧ t.sgc.pumpDrive = s.sgc.pumpDrive ∧
    t.sdu = s.sdu ∧ t.re.slotA = s.re.slotA ∧ t.re.slotB = s.re.slotB ∧ t.re.running = s.re.running ∧
    t.re.queued = s.re.queued ∧ t.re.context = s.re.context ∧ t.re.repeats = s.re.repeats ∧ t.pu = s.pu := by
  unfold awaitDrain at h; split at h <;> simp at h; subst h; simp

@[simp] theorem afterLocking_keeps (s : State) :
    (afterLocking s).pending = s.pending ∧ (afterLocking s).run = s.run ∧ (afterLocking s).config = s.config ∧
    (afterLocking s).store = s.store ∧ (afterLocking s).second = s.second ∧ (afterLocking s).freeUses = s.freeUses ∧
    (afterLocking s).link = s.link ∧ (afterLocking s).od.power = s.od.power ∧
    (afterLocking s).od.restartPending = s.od.restartPending ∧ (afterLocking s).od.cycle = s.od.cycle ∧
    (afterLocking s).od.cycleTimer = s.od.cycleTimer ∧ (afterLocking s).od.eventsTimer = s.od.eventsTimer ∧
    (afterLocking s).od.diagTimer = s.od.diagTimer ∧ (afterLocking s).ssu = s.ssu ∧
    (afterLocking s).lpd.drive = s.lpd.drive ∧ (afterLocking s).lpd.half = s.lpd.half ∧
    (afterLocking s).lpd.pool = s.lpd.pool ∧ (afterLocking s).lpd.shed = s.lpd.shed ∧
    (afterLocking s).lpd.gates = s.lpd.gates ∧ (afterLocking s).lpd.sinceCrossing = s.lpd.sinceCrossing ∧
    (afterLocking s).lpd.loads.top = s.lpd.loads.top ∧ (afterLocking s).lpd.loads.bottom = s.lpd.loads.bottom ∧
    (afterLocking s).lpd.loads.ring = s.lpd.loads.ring ∧ (afterLocking s).mu = s.mu ∧ (afterLocking s).cr = s.cr ∧
    (afterLocking s).sgc = s.sgc ∧ (afterLocking s).sdu.account = s.sdu.account ∧
    (afterLocking s).sdu.hardness = s.sdu.hardness ∧ (afterLocking s).sdu.meteringSum = s.sdu.meteringSum ∧
    (afterLocking s).sdu.lockingFrom = s.sdu.lockingFrom ∧ (afterLocking s).sdu.soakCount = s.sdu.soakCount ∧
    (afterLocking s).sdu.rinseCycle = s.sdu.rinseCycle ∧ (afterLocking s).sdu.rinseStep = s.sdu.rinseStep ∧
    (afterLocking s).sdu.heatingTime = s.sdu.heatingTime ∧ (afterLocking s).sdu.retry = s.sdu.retry ∧
    (afterLocking s).sdu.failures = s.sdu.failures ∧ (afterLocking s).re = s.re ∧ (afterLocking s).pu = s.pu := by
  unfold afterLocking; (repeat' split) <;> simp

@[simp] theorem endRinseDrain_keeps (s : State) :
    (endRinseDrain s).pending = s.pending ∧ (endRinseDrain s).run = s.run ∧ (endRinseDrain s).config = s.config ∧
    (endRinseDrain s).store = s.store ∧ (endRinseDrain s).second = s.second ∧
    (endRinseDrain s).freeUses = s.freeUses ∧ (endRinseDrain s).link = s.link ∧
    (endRinseDrain s).od.power = s.od.power ∧ (endRinseDrain s).od.restartPending = s.od.restartPending ∧
    (endRinseDrain s).od.cycle = s.od.cycle ∧ (endRinseDrain s).od.cycleTimer = s.od.cycleTimer ∧
    (endRinseDrain s).od.eventsTimer = s.od.eventsTimer ∧ (endRinseDrain s).od.diagTimer = s.od.diagTimer ∧
    (endRinseDrain s).ssu = s.ssu ∧ (endRinseDrain s).lpd.drive = s.lpd.drive ∧
    (endRinseDrain s).lpd.half = s.lpd.half ∧ (endRinseDrain s).lpd.pool = s.lpd.pool ∧
    (endRinseDrain s).lpd.shed = s.lpd.shed ∧ (endRinseDrain s).lpd.gates = s.lpd.gates ∧
    (endRinseDrain s).lpd.sinceCrossing = s.lpd.sinceCrossing ∧ (endRinseDrain s).lpd.loads.top = s.lpd.loads.top ∧
    (endRinseDrain s).lpd.loads.bottom = s.lpd.loads.bottom ∧ (endRinseDrain s).lpd.loads.ring = s.lpd.loads.ring ∧
    (endRinseDrain s).mu = s.mu ∧ (endRinseDrain s).cr = s.cr ∧ (endRinseDrain s).sgc = s.sgc ∧
    (endRinseDrain s).re.slotA = s.re.slotA ∧ (endRinseDrain s).re.slotB = s.re.slotB ∧
    (endRinseDrain s).re.running = s.re.running ∧ (endRinseDrain s).re.queued = s.re.queued ∧
    (endRinseDrain s).re.context = s.re.context ∧ (endRinseDrain s).re.repeats = s.re.repeats ∧
    (endRinseDrain s).re.holds.power = s.re.holds.power ∧ (endRinseDrain s).re.holds.water = s.re.holds.water ∧
    (endRinseDrain s).re.holds.probe = s.re.holds.probe ∧
    (endRinseDrain s).pu.trips.cavityOvertemp = s.pu.trips.cavityOvertemp ∧
    (endRinseDrain s).pu.trips.boilerDry = s.pu.trips.boilerDry ∧
    (endRinseDrain s).pu.trips.sensor = s.pu.trips.sensor ∧ (endRinseDrain s).sdu.account = s.sdu.account ∧
    (endRinseDrain s).sdu.hardness = s.sdu.hardness ∧ (endRinseDrain s).sdu.mark = s.sdu.mark ∧
    (endRinseDrain s).sdu.meteringSum = s.sdu.meteringSum ∧ (endRinseDrain s).sdu.lockingFrom = s.sdu.lockingFrom ∧
    (endRinseDrain s).sdu.soakCount = s.sdu.soakCount ∧ (endRinseDrain s).sdu.writing = s.sdu.writing ∧
    (endRinseDrain s).sdu.writeTimer = s.sdu.writeTimer ∧
    (endRinseDrain s).sdu.rewritePending = s.sdu.rewritePending ∧ (endRinseDrain s).sdu.retry = s.sdu.retry ∧
    (endRinseDrain s).sdu.failures = s.sdu.failures := by
  unfold endRinseDrain; (repeat' split) <;> simp

theorem sduNext_keeps {s t : State} (h : sduNext s = some t) :
    t.pending = s.pending ∧ t.run = s.run ∧ t.config = s.config ∧ t.store = s.store ∧ t.second = s.second ∧
    t.freeUses = s.freeUses ∧ t.link = s.link ∧ t.od.power = s.od.power ∧
    t.od.restartPending = s.od.restartPending ∧ t.od.cycle = s.od.cycle ∧ t.od.cycleTimer = s.od.cycleTimer ∧
    t.od.eventsTimer = s.od.eventsTimer ∧ t.od.diagTimer = s.od.diagTimer ∧ t.ssu.peers = s.ssu.peers ∧
    t.ssu.claim = s.ssu.claim ∧ t.ssu.announced = s.ssu.announced ∧ t.ssu.raise = s.ssu.raise ∧
    t.ssu.lastA = s.ssu.lastA ∧ t.ssu.lastW = s.ssu.lastW ∧ t.ssu.lastFo = s.ssu.lastFo ∧
    t.ssu.contention = s.ssu.contention ∧ t.ssu.listenIn = s.ssu.listenIn ∧ t.ssu.period = s.ssu.period ∧
    t.lpd.drive = s.lpd.drive ∧ t.lpd.half = s.lpd.half ∧ t.lpd.pool = s.lpd.pool ∧ t.lpd.shed = s.lpd.shed ∧
    t.lpd.gates = s.lpd.gates ∧ t.lpd.sinceCrossing = s.lpd.sinceCrossing ∧ t.lpd.loads.top = s.lpd.loads.top ∧
    t.lpd.loads.bottom = s.lpd.loads.bottom ∧ t.lpd.loads.ring = s.lpd.loads.ring ∧ t.mu = s.mu ∧ t.cr = s.cr ∧
    t.sgc.steamWanted = s.sgc.steamWanted ∧ t.sgc.steamDemand = s.sgc.steamDemand ∧
    t.sdu.hardness = s.sdu.hardness ∧ t.sdu.soakCount = s.sdu.soakCount ∧ t.sdu.retry = s.sdu.retry ∧
    t.sdu.failures = s.sdu.failures ∧ t.re.slotA = s.re.slotA ∧ t.re.slotB = s.re.slotB ∧
    t.re.running = s.re.running ∧ t.re.queued = s.re.queued ∧ t.re.context = s.re.context ∧
    t.re.repeats = s.re.repeats ∧ t.pu.trips.cavityOvertemp = s.pu.trips.cavityOvertemp ∧
    t.pu.trips.boilerDry = s.pu.trips.boilerDry ∧ t.pu.trips.sensor = s.pu.trips.sensor := by
  unfold sduNext at h; (repeat' split at h) <;> first | (simp at h; done) | (simp at h; subst h; simp) | simp [awaitDrain_keeps h]

@[simp] theorem followFor_keeps (n : Nat) (s : State) :
    (followFor n s).pending = s.pending ∧ (followFor n s).run = s.run ∧ (followFor n s).config = s.config ∧
    (followFor n s).store = s.store ∧ (followFor n s).second = s.second ∧ (followFor n s).freeUses = s.freeUses ∧
    (followFor n s).link = s.link ∧ (followFor n s).od.power = s.od.power ∧
    (followFor n s).od.restartPending = s.od.restartPending ∧ (followFor n s).od.cycle = s.od.cycle ∧
    (followFor n s).od.cycleTimer = s.od.cycleTimer ∧ (followFor n s).od.eventsTimer = s.od.eventsTimer ∧
    (followFor n s).od.diagTimer = s.od.diagTimer ∧ (followFor n s).ssu.peers = s.ssu.peers ∧
    (followFor n s).ssu.claim = s.ssu.claim ∧ (followFor n s).ssu.announced = s.ssu.announced ∧
    (followFor n s).ssu.raise = s.ssu.raise ∧ (followFor n s).ssu.lastA = s.ssu.lastA ∧
    (followFor n s).ssu.lastW = s.ssu.lastW ∧ (followFor n s).ssu.lastFo = s.ssu.lastFo ∧
    (followFor n s).ssu.contention = s.ssu.contention ∧ (followFor n s).ssu.listenIn = s.ssu.listenIn ∧
    (followFor n s).ssu.period = s.ssu.period ∧ (followFor n s).lpd.drive = s.lpd.drive ∧
    (followFor n s).lpd.half = s.lpd.half ∧ (followFor n s).lpd.pool = s.lpd.pool ∧
    (followFor n s).lpd.shed = s.lpd.shed ∧ (followFor n s).lpd.gates = s.lpd.gates ∧
    (followFor n s).lpd.sinceCrossing = s.lpd.sinceCrossing ∧ (followFor n s).lpd.loads.top = s.lpd.loads.top ∧
    (followFor n s).lpd.loads.bottom = s.lpd.loads.bottom ∧ (followFor n s).lpd.loads.ring = s.lpd.loads.ring ∧
    (followFor n s).mu = s.mu ∧ (followFor n s).cr = s.cr ∧ (followFor n s).sgc.steamWanted = s.sgc.steamWanted ∧
    (followFor n s).sgc.steamDemand = s.sgc.steamDemand ∧ (followFor n s).sdu.hardness = s.sdu.hardness ∧
    (followFor n s).sdu.soakCount = s.sdu.soakCount ∧ (followFor n s).sdu.retry = s.sdu.retry ∧
    (followFor n s).sdu.failures = s.sdu.failures ∧ (followFor n s).re.slotA = s.re.slotA ∧
    (followFor n s).re.slotB = s.re.slotB ∧ (followFor n s).re.running = s.re.running ∧
    (followFor n s).re.queued = s.re.queued ∧ (followFor n s).re.context = s.re.context ∧
    (followFor n s).re.repeats = s.re.repeats ∧
    (followFor n s).pu.trips.cavityOvertemp = s.pu.trips.cavityOvertemp ∧
    (followFor n s).pu.trips.boilerDry = s.pu.trips.boilerDry ∧ (followFor n s).pu.trips.sensor = s.pu.trips.sensor := by
  induction n generalizing s with
  | zero => simp [followFor]
  | succ n ih =>
    unfold followFor; split
    · rename_i t h
      simp [ih, sduNext_keeps h]
    · simp

@[simp] theorem sduFollow_keeps (s : State) :
    (sduFollow s).pending = s.pending ∧ (sduFollow s).run = s.run ∧ (sduFollow s).config = s.config ∧
    (sduFollow s).store = s.store ∧ (sduFollow s).second = s.second ∧ (sduFollow s).freeUses = s.freeUses ∧
    (sduFollow s).link = s.link ∧ (sduFollow s).od.power = s.od.power ∧
    (sduFollow s).od.restartPending = s.od.restartPending ∧ (sduFollow s).od.cycle = s.od.cycle ∧
    (sduFollow s).od.cycleTimer = s.od.cycleTimer ∧ (sduFollow s).od.eventsTimer = s.od.eventsTimer ∧
    (sduFollow s).od.diagTimer = s.od.diagTimer ∧ (sduFollow s).ssu.peers = s.ssu.peers ∧
    (sduFollow s).ssu.claim = s.ssu.claim ∧ (sduFollow s).ssu.announced = s.ssu.announced ∧
    (sduFollow s).ssu.raise = s.ssu.raise ∧ (sduFollow s).ssu.lastA = s.ssu.lastA ∧
    (sduFollow s).ssu.lastW = s.ssu.lastW ∧ (sduFollow s).ssu.lastFo = s.ssu.lastFo ∧
    (sduFollow s).ssu.contention = s.ssu.contention ∧ (sduFollow s).ssu.listenIn = s.ssu.listenIn ∧
    (sduFollow s).ssu.period = s.ssu.period ∧ (sduFollow s).lpd.drive = s.lpd.drive ∧
    (sduFollow s).lpd.half = s.lpd.half ∧ (sduFollow s).lpd.pool = s.lpd.pool ∧
    (sduFollow s).lpd.shed = s.lpd.shed ∧ (sduFollow s).lpd.gates = s.lpd.gates ∧
    (sduFollow s).lpd.sinceCrossing = s.lpd.sinceCrossing ∧ (sduFollow s).lpd.loads.top = s.lpd.loads.top ∧
    (sduFollow s).lpd.loads.bottom = s.lpd.loads.bottom ∧ (sduFollow s).lpd.loads.ring = s.lpd.loads.ring ∧
    (sduFollow s).mu = s.mu ∧ (sduFollow s).cr = s.cr ∧ (sduFollow s).sgc.steamWanted = s.sgc.steamWanted ∧
    (sduFollow s).sgc.steamDemand = s.sgc.steamDemand ∧ (sduFollow s).sdu.hardness = s.sdu.hardness ∧
    (sduFollow s).sdu.soakCount = s.sdu.soakCount ∧ (sduFollow s).sdu.retry = s.sdu.retry ∧
    (sduFollow s).sdu.failures = s.sdu.failures ∧ (sduFollow s).re.slotA = s.re.slotA ∧
    (sduFollow s).re.slotB = s.re.slotB ∧ (sduFollow s).re.running = s.re.running ∧
    (sduFollow s).re.queued = s.re.queued ∧ (sduFollow s).re.context = s.re.context ∧
    (sduFollow s).re.repeats = s.re.repeats ∧ (sduFollow s).pu.trips.cavityOvertemp = s.pu.trips.cavityOvertemp ∧
    (sduFollow s).pu.trips.boilerDry = s.pu.trips.boilerDry ∧ (sduFollow s).pu.trips.sensor = s.pu.trips.sensor := by
  simp [sduFollow]

@[simp] theorem judgeHeating_keeps (s : State) :
    (judgeHeating s).pending = s.pending ∧ (judgeHeating s).run = s.run ∧ (judgeHeating s).config = s.config ∧
    (judgeHeating s).store = s.store ∧ (judgeHeating s).second = s.second ∧ (judgeHeating s).freeUses = s.freeUses ∧
    (judgeHeating s).link = s.link ∧ (judgeHeating s).od = s.od ∧ (judgeHeating s).ssu = s.ssu ∧
    (judgeHeating s).lpd.drive = s.lpd.drive ∧ (judgeHeating s).lpd.half = s.lpd.half ∧
    (judgeHeating s).lpd.loads.top = s.lpd.loads.top ∧ (judgeHeating s).lpd.loads.bottom = s.lpd.loads.bottom ∧
    (judgeHeating s).lpd.loads.ring = s.lpd.loads.ring ∧ (judgeHeating s).lpd.pool = s.lpd.pool ∧
    (judgeHeating s).lpd.shed = s.lpd.shed ∧ (judgeHeating s).lpd.gates = s.lpd.gates ∧
    (judgeHeating s).lpd.sinceCrossing = s.lpd.sinceCrossing ∧ (judgeHeating s).mu = s.mu ∧
    (judgeHeating s).cr = s.cr ∧ (judgeHeating s).sgc = s.sgc ∧ (judgeHeating s).sdu.account = s.sdu.account ∧
    (judgeHeating s).sdu.hardness = s.sdu.hardness ∧ (judgeHeating s).sdu.mark = s.sdu.mark ∧
    (judgeHeating s).sdu.meteringSum = s.sdu.meteringSum ∧ (judgeHeating s).sdu.lockingFrom = s.sdu.lockingFrom ∧
    (judgeHeating s).sdu.rinseCycle = s.sdu.rinseCycle ∧ (judgeHeating s).sdu.heatingTime = s.sdu.heatingTime ∧
    (judgeHeating s).sdu.writing = s.sdu.writing ∧ (judgeHeating s).sdu.writeTimer = s.sdu.writeTimer ∧
    (judgeHeating s).sdu.rewritePending = s.sdu.rewritePending ∧ (judgeHeating s).sdu.retry = s.sdu.retry ∧
    (judgeHeating s).sdu.failures = s.sdu.failures ∧ (judgeHeating s).re = s.re ∧ (judgeHeating s).pu = s.pu := by
  unfold judgeHeating; (repeat' split) <;> simp

@[simp] theorem sduPublication_keeps (s : State) :
    (sduPublication s).pending = s.pending ∧ (sduPublication s).run = s.run ∧ (sduPublication s).config = s.config ∧
    (sduPublication s).store = s.store ∧ (sduPublication s).second = s.second ∧
    (sduPublication s).freeUses = s.freeUses ∧ (sduPublication s).link = s.link ∧
    (sduPublication s).od.power = s.od.power ∧ (sduPublication s).od.restartPending = s.od.restartPending ∧
    (sduPublication s).od.cycle = s.od.cycle ∧ (sduPublication s).od.cycleTimer = s.od.cycleTimer ∧
    (sduPublication s).od.eventsTimer = s.od.eventsTimer ∧ (sduPublication s).od.diagTimer = s.od.diagTimer ∧
    (sduPublication s).ssu.peers = s.ssu.peers ∧ (sduPublication s).ssu.claim = s.ssu.claim ∧
    (sduPublication s).ssu.announced = s.ssu.announced ∧ (sduPublication s).ssu.raise = s.ssu.raise ∧
    (sduPublication s).ssu.lastA = s.ssu.lastA ∧ (sduPublication s).ssu.lastW = s.ssu.lastW ∧
    (sduPublication s).ssu.lastFo = s.ssu.lastFo ∧ (sduPublication s).ssu.contention = s.ssu.contention ∧
    (sduPublication s).ssu.listenIn = s.ssu.listenIn ∧ (sduPublication s).ssu.period = s.ssu.period ∧
    (sduPublication s).lpd.drive = s.lpd.drive ∧ (sduPublication s).lpd.half = s.lpd.half ∧
    (sduPublication s).lpd.pool = s.lpd.pool ∧ (sduPublication s).lpd.shed = s.lpd.shed ∧
    (sduPublication s).lpd.gates = s.lpd.gates ∧ (sduPublication s).lpd.sinceCrossing = s.lpd.sinceCrossing ∧
    (sduPublication s).lpd.loads.top = s.lpd.loads.top ∧ (sduPublication s).lpd.loads.bottom = s.lpd.loads.bottom ∧
    (sduPublication s).lpd.loads.ring = s.lpd.loads.ring ∧ (sduPublication s).mu = s.mu ∧
    (sduPublication s).cr = s.cr ∧ (sduPublication s).sgc.steamWanted = s.sgc.steamWanted ∧
    (sduPublication s).sgc.steamDemand = s.sgc.steamDemand ∧ (sduPublication s).sdu.hardness = s.sdu.hardness ∧
    (sduPublication s).sdu.retry = s.sdu.retry ∧ (sduPublication s).sdu.failures = s.sdu.failures ∧
    (sduPublication s).re.slotA = s.re.slotA ∧ (sduPublication s).re.slotB = s.re.slotB ∧
    (sduPublication s).re.running = s.re.running ∧ (sduPublication s).re.queued = s.re.queued ∧
    (sduPublication s).re.context = s.re.context ∧ (sduPublication s).re.repeats = s.re.repeats ∧
    (sduPublication s).pu.trips.cavityOvertemp = s.pu.trips.cavityOvertemp ∧
    (sduPublication s).pu.trips.boilerDry = s.pu.trips.boilerDry ∧
    (sduPublication s).pu.trips.sensor = s.pu.trips.sensor := by
  simp [sduPublication]

@[simp] theorem endRinseHeat_keeps (s : State) :
    (endRinseHeat s).pending = s.pending ∧ (endRinseHeat s).run = s.run ∧ (endRinseHeat s).config = s.config ∧
    (endRinseHeat s).store = s.store ∧ (endRinseHeat s).second = s.second ∧ (endRinseHeat s).freeUses = s.freeUses ∧
    (endRinseHeat s).link = s.link ∧ (endRinseHeat s).od.power = s.od.power ∧
    (endRinseHeat s).od.restartPending = s.od.restartPending ∧ (endRinseHeat s).od.cycle = s.od.cycle ∧
    (endRinseHeat s).od.cycleTimer = s.od.cycleTimer ∧ (endRinseHeat s).od.eventsTimer = s.od.eventsTimer ∧
    (endRinseHeat s).od.diagTimer = s.od.diagTimer ∧ (endRinseHeat s).ssu.peers = s.ssu.peers ∧
    (endRinseHeat s).ssu.claim = s.ssu.claim ∧ (endRinseHeat s).ssu.announced = s.ssu.announced ∧
    (endRinseHeat s).ssu.raise = s.ssu.raise ∧ (endRinseHeat s).ssu.lastA = s.ssu.lastA ∧
    (endRinseHeat s).ssu.lastW = s.ssu.lastW ∧ (endRinseHeat s).ssu.lastFo = s.ssu.lastFo ∧
    (endRinseHeat s).ssu.contention = s.ssu.contention ∧ (endRinseHeat s).ssu.listenIn = s.ssu.listenIn ∧
    (endRinseHeat s).ssu.period = s.ssu.period ∧ (endRinseHeat s).lpd.drive = s.lpd.drive ∧
    (endRinseHeat s).lpd.half = s.lpd.half ∧ (endRinseHeat s).lpd.pool = s.lpd.pool ∧
    (endRinseHeat s).lpd.shed = s.lpd.shed ∧ (endRinseHeat s).lpd.gates = s.lpd.gates ∧
    (endRinseHeat s).lpd.sinceCrossing = s.lpd.sinceCrossing ∧ (endRinseHeat s).lpd.loads.top = s.lpd.loads.top ∧
    (endRinseHeat s).lpd.loads.bottom = s.lpd.loads.bottom ∧ (endRinseHeat s).lpd.loads.ring = s.lpd.loads.ring ∧
    (endRinseHeat s).mu = s.mu ∧ (endRinseHeat s).cr = s.cr ∧ (endRinseHeat s).sgc.steamWanted = s.sgc.steamWanted ∧
    (endRinseHeat s).sgc.steamDemand = s.sgc.steamDemand ∧ (endRinseHeat s).sdu.hardness = s.sdu.hardness ∧
    (endRinseHeat s).sdu.soakCount = s.sdu.soakCount ∧ (endRinseHeat s).sdu.retry = s.sdu.retry ∧
    (endRinseHeat s).sdu.failures = s.sdu.failures ∧ (endRinseHeat s).re.slotA = s.re.slotA ∧
    (endRinseHeat s).re.slotB = s.re.slotB ∧ (endRinseHeat s).re.running = s.re.running ∧
    (endRinseHeat s).re.queued = s.re.queued ∧ (endRinseHeat s).re.context = s.re.context ∧
    (endRinseHeat s).re.repeats = s.re.repeats ∧
    (endRinseHeat s).pu.trips.cavityOvertemp = s.pu.trips.cavityOvertemp ∧
    (endRinseHeat s).pu.trips.boilerDry = s.pu.trips.boilerDry ∧
    (endRinseHeat s).pu.trips.sensor = s.pu.trips.sensor := by
  simp [endRinseHeat]

@[simp] theorem soakTick_keeps (s : State) :
    (soakTick s).pending = s.pending ∧ (soakTick s).run = s.run ∧ (soakTick s).config = s.config ∧
    (soakTick s).store = s.store ∧ (soakTick s).second = s.second ∧ (soakTick s).freeUses = s.freeUses ∧
    (soakTick s).link = s.link ∧ (soakTick s).od.power = s.od.power ∧
    (soakTick s).od.restartPending = s.od.restartPending ∧ (soakTick s).od.cycle = s.od.cycle ∧
    (soakTick s).od.cycleTimer = s.od.cycleTimer ∧ (soakTick s).od.eventsTimer = s.od.eventsTimer ∧
    (soakTick s).od.diagTimer = s.od.diagTimer ∧ (soakTick s).ssu.peers = s.ssu.peers ∧
    (soakTick s).ssu.claim = s.ssu.claim ∧ (soakTick s).ssu.announced = s.ssu.announced ∧
    (soakTick s).ssu.raise = s.ssu.raise ∧ (soakTick s).ssu.lastA = s.ssu.lastA ∧
    (soakTick s).ssu.lastW = s.ssu.lastW ∧ (soakTick s).ssu.lastFo = s.ssu.lastFo ∧
    (soakTick s).ssu.contention = s.ssu.contention ∧ (soakTick s).ssu.listenIn = s.ssu.listenIn ∧
    (soakTick s).ssu.period = s.ssu.period ∧ (soakTick s).lpd.drive = s.lpd.drive ∧
    (soakTick s).lpd.half = s.lpd.half ∧ (soakTick s).lpd.pool = s.lpd.pool ∧ (soakTick s).lpd.shed = s.lpd.shed ∧
    (soakTick s).lpd.gates = s.lpd.gates ∧ (soakTick s).lpd.sinceCrossing = s.lpd.sinceCrossing ∧
    (soakTick s).lpd.loads.top = s.lpd.loads.top ∧ (soakTick s).lpd.loads.bottom = s.lpd.loads.bottom ∧
    (soakTick s).lpd.loads.ring = s.lpd.loads.ring ∧ (soakTick s).mu = s.mu ∧ (soakTick s).cr = s.cr ∧
    (soakTick s).sgc.steamWanted = s.sgc.steamWanted ∧ (soakTick s).sgc.steamDemand = s.sgc.steamDemand ∧
    (soakTick s).sdu.hardness = s.sdu.hardness ∧ (soakTick s).sdu.retry = s.sdu.retry ∧
    (soakTick s).sdu.failures = s.sdu.failures ∧ (soakTick s).re.slotA = s.re.slotA ∧
    (soakTick s).re.slotB = s.re.slotB ∧ (soakTick s).re.running = s.re.running ∧
    (soakTick s).re.queued = s.re.queued ∧ (soakTick s).re.context = s.re.context ∧
    (soakTick s).re.repeats = s.re.repeats ∧ (soakTick s).pu.trips.cavityOvertemp = s.pu.trips.cavityOvertemp ∧
    (soakTick s).pu.trips.boilerDry = s.pu.trips.boilerDry ∧ (soakTick s).pu.trips.sensor = s.pu.trips.sensor := by
  unfold soakTick; dsimp only; (repeat' split) <;> simp

@[simp] theorem heatingTick_keeps (s : State) :
    (heatingTick s).pending = s.pending ∧ (heatingTick s).run = s.run ∧ (heatingTick s).config = s.config ∧
    (heatingTick s).store = s.store ∧ (heatingTick s).second = s.second ∧ (heatingTick s).freeUses = s.freeUses ∧
    (heatingTick s).link = s.link ∧ (heatingTick s).od.power = s.od.power ∧
    (heatingTick s).od.restartPending = s.od.restartPending ∧ (heatingTick s).od.cycle = s.od.cycle ∧
    (heatingTick s).od.cycleTimer = s.od.cycleTimer ∧ (heatingTick s).od.eventsTimer = s.od.eventsTimer ∧
    (heatingTick s).od.diagTimer = s.od.diagTimer ∧ (heatingTick s).ssu.peers = s.ssu.peers ∧
    (heatingTick s).ssu.claim = s.ssu.claim ∧ (heatingTick s).ssu.announced = s.ssu.announced ∧
    (heatingTick s).ssu.raise = s.ssu.raise ∧ (heatingTick s).ssu.lastA = s.ssu.lastA ∧
    (heatingTick s).ssu.lastW = s.ssu.lastW ∧ (heatingTick s).ssu.lastFo = s.ssu.lastFo ∧
    (heatingTick s).ssu.contention = s.ssu.contention ∧ (heatingTick s).ssu.listenIn = s.ssu.listenIn ∧
    (heatingTick s).ssu.period = s.ssu.period ∧ (heatingTick s).lpd.drive = s.lpd.drive ∧
    (heatingTick s).lpd.half = s.lpd.half ∧ (heatingTick s).lpd.pool = s.lpd.pool ∧
    (heatingTick s).lpd.shed = s.lpd.shed ∧ (heatingTick s).lpd.gates = s.lpd.gates ∧
    (heatingTick s).lpd.sinceCrossing = s.lpd.sinceCrossing ∧ (heatingTick s).lpd.loads.top = s.lpd.loads.top ∧
    (heatingTick s).lpd.loads.bottom = s.lpd.loads.bottom ∧ (heatingTick s).lpd.loads.ring = s.lpd.loads.ring ∧
    (heatingTick s).mu = s.mu ∧ (heatingTick s).cr = s.cr ∧ (heatingTick s).sgc.steamWanted = s.sgc.steamWanted ∧
    (heatingTick s).sgc.steamDemand = s.sgc.steamDemand ∧ (heatingTick s).sdu.hardness = s.sdu.hardness ∧
    (heatingTick s).sdu.soakCount = s.sdu.soakCount ∧ (heatingTick s).sdu.retry = s.sdu.retry ∧
    (heatingTick s).sdu.failures = s.sdu.failures ∧ (heatingTick s).re.slotA = s.re.slotA ∧
    (heatingTick s).re.slotB = s.re.slotB ∧ (heatingTick s).re.running = s.re.running ∧
    (heatingTick s).re.queued = s.re.queued ∧ (heatingTick s).re.context = s.re.context ∧
    (heatingTick s).re.repeats = s.re.repeats ∧
    (heatingTick s).pu.trips.cavityOvertemp = s.pu.trips.cavityOvertemp ∧
    (heatingTick s).pu.trips.boilerDry = s.pu.trips.boilerDry ∧ (heatingTick s).pu.trips.sensor = s.pu.trips.sensor := by
  unfold heatingTick; dsimp only; (repeat' split) <;> simp

@[simp] theorem meteringTick_keeps (s : State) :
    (meteringTick s).pending = s.pending ∧ (meteringTick s).run = s.run ∧ (meteringTick s).config = s.config ∧
    (meteringTick s).store = s.store ∧ (meteringTick s).second = s.second ∧ (meteringTick s).freeUses = s.freeUses ∧
    (meteringTick s).link = s.link ∧ (meteringTick s).od.power = s.od.power ∧
    (meteringTick s).od.restartPending = s.od.restartPending ∧ (meteringTick s).od.cycle = s.od.cycle ∧
    (meteringTick s).od.cycleTimer = s.od.cycleTimer ∧ (meteringTick s).od.eventsTimer = s.od.eventsTimer ∧
    (meteringTick s).od.diagTimer = s.od.diagTimer ∧ (meteringTick s).ssu.peers = s.ssu.peers ∧
    (meteringTick s).ssu.claim = s.ssu.claim ∧ (meteringTick s).ssu.announced = s.ssu.announced ∧
    (meteringTick s).ssu.raise = s.ssu.raise ∧ (meteringTick s).ssu.lastA = s.ssu.lastA ∧
    (meteringTick s).ssu.lastW = s.ssu.lastW ∧ (meteringTick s).ssu.lastFo = s.ssu.lastFo ∧
    (meteringTick s).ssu.contention = s.ssu.contention ∧ (meteringTick s).ssu.listenIn = s.ssu.listenIn ∧
    (meteringTick s).ssu.period = s.ssu.period ∧ (meteringTick s).lpd.drive = s.lpd.drive ∧
    (meteringTick s).lpd.half = s.lpd.half ∧ (meteringTick s).lpd.pool = s.lpd.pool ∧
    (meteringTick s).lpd.shed = s.lpd.shed ∧ (meteringTick s).lpd.gates = s.lpd.gates ∧
    (meteringTick s).lpd.sinceCrossing = s.lpd.sinceCrossing ∧ (meteringTick s).lpd.loads.top = s.lpd.loads.top ∧
    (meteringTick s).lpd.loads.bottom = s.lpd.loads.bottom ∧ (meteringTick s).lpd.loads.ring = s.lpd.loads.ring ∧
    (meteringTick s).mu = s.mu ∧ (meteringTick s).cr = s.cr ∧ (meteringTick s).sgc.steamWanted = s.sgc.steamWanted ∧
    (meteringTick s).sgc.steamDemand = s.sgc.steamDemand ∧ (meteringTick s).sdu.hardness = s.sdu.hardness ∧
    (meteringTick s).sdu.retry = s.sdu.retry ∧ (meteringTick s).sdu.failures = s.sdu.failures ∧
    (meteringTick s).re.slotA = s.re.slotA ∧ (meteringTick s).re.slotB = s.re.slotB ∧
    (meteringTick s).re.running = s.re.running ∧ (meteringTick s).re.queued = s.re.queued ∧
    (meteringTick s).re.context = s.re.context ∧ (meteringTick s).re.repeats = s.re.repeats ∧
    (meteringTick s).pu.trips.cavityOvertemp = s.pu.trips.cavityOvertemp ∧
    (meteringTick s).pu.trips.boilerDry = s.pu.trips.boilerDry ∧
    (meteringTick s).pu.trips.sensor = s.pu.trips.sensor := by
  simp [meteringTick]

@[simp] theorem redirect_keeps (s : State) :
    (redirect s).pending = s.pending ∧ (redirect s).run = s.run ∧ (redirect s).config = s.config ∧
    (redirect s).store = s.store ∧ (redirect s).second = s.second ∧ (redirect s).freeUses = s.freeUses ∧
    (redirect s).link = s.link ∧ (redirect s).od.power = s.od.power ∧
    (redirect s).od.restartPending = s.od.restartPending ∧ (redirect s).od.cycle = s.od.cycle ∧
    (redirect s).od.cycleTimer = s.od.cycleTimer ∧ (redirect s).od.eventsTimer = s.od.eventsTimer ∧
    (redirect s).od.diagTimer = s.od.diagTimer ∧ (redirect s).ssu.peers = s.ssu.peers ∧
    (redirect s).ssu.claim = s.ssu.claim ∧ (redirect s).ssu.announced = s.ssu.announced ∧
    (redirect s).ssu.raise = s.ssu.raise ∧ (redirect s).ssu.lastA = s.ssu.lastA ∧
    (redirect s).ssu.lastW = s.ssu.lastW ∧ (redirect s).ssu.lastFo = s.ssu.lastFo ∧
    (redirect s).ssu.contention = s.ssu.contention ∧ (redirect s).ssu.listenIn = s.ssu.listenIn ∧
    (redirect s).ssu.period = s.ssu.period ∧ (redirect s).lpd.drive = s.lpd.drive ∧
    (redirect s).lpd.half = s.lpd.half ∧ (redirect s).lpd.pool = s.lpd.pool ∧ (redirect s).lpd.shed = s.lpd.shed ∧
    (redirect s).lpd.gates = s.lpd.gates ∧ (redirect s).lpd.sinceCrossing = s.lpd.sinceCrossing ∧
    (redirect s).lpd.loads.top = s.lpd.loads.top ∧ (redirect s).lpd.loads.bottom = s.lpd.loads.bottom ∧
    (redirect s).lpd.loads.ring = s.lpd.loads.ring ∧ (redirect s).mu = s.mu ∧ (redirect s).cr = s.cr ∧
    (redirect s).sgc.steamWanted = s.sgc.steamWanted ∧ (redirect s).sgc.steamDemand = s.sgc.steamDemand ∧
    (redirect s).sdu.hardness = s.sdu.hardness ∧ (redirect s).sdu.soakCount = s.sdu.soakCount ∧
    (redirect s).sdu.retry = s.sdu.retry ∧ (redirect s).sdu.failures = s.sdu.failures ∧
    (redirect s).re.slotA = s.re.slotA ∧ (redirect s).re.slotB = s.re.slotB ∧
    (redirect s).re.running = s.re.running ∧ (redirect s).re.queued = s.re.queued ∧
    (redirect s).re.context = s.re.context ∧ (redirect s).re.repeats = s.re.repeats ∧
    (redirect s).pu.trips.cavityOvertemp = s.pu.trips.cavityOvertemp ∧
    (redirect s).pu.trips.boilerDry = s.pu.trips.boilerDry ∧ (redirect s).pu.trips.sensor = s.pu.trips.sensor := by
  unfold redirect; (repeat' split) <;> simp

@[simp] theorem resumeDescale_keeps (s : State) :
    (resumeDescale s).pending = s.pending ∧ (resumeDescale s).run = s.run ∧ (resumeDescale s).config = s.config ∧
    (resumeDescale s).store = s.store ∧ (resumeDescale s).second = s.second ∧
    (resumeDescale s).freeUses = s.freeUses ∧ (resumeDescale s).link = s.link ∧
    (resumeDescale s).od.power = s.od.power ∧ (resumeDescale s).od.restartPending = s.od.restartPending ∧
    (resumeDescale s).od.cycle = s.od.cycle ∧ (resumeDescale s).od.cycleTimer = s.od.cycleTimer ∧
    (resumeDescale s).od.eventsTimer = s.od.eventsTimer ∧ (resumeDescale s).od.diagTimer = s.od.diagTimer ∧
    (resumeDescale s).ssu.peers = s.ssu.peers ∧ (resumeDescale s).ssu.claim = s.ssu.claim ∧
    (resumeDescale s).ssu.announced = s.ssu.announced ∧ (resumeDescale s).ssu.raise = s.ssu.raise ∧
    (resumeDescale s).ssu.lastA = s.ssu.lastA ∧ (resumeDescale s).ssu.lastW = s.ssu.lastW ∧
    (resumeDescale s).ssu.lastFo = s.ssu.lastFo ∧ (resumeDescale s).ssu.contention = s.ssu.contention ∧
    (resumeDescale s).ssu.listenIn = s.ssu.listenIn ∧ (resumeDescale s).ssu.period = s.ssu.period ∧
    (resumeDescale s).lpd.drive = s.lpd.drive ∧ (resumeDescale s).lpd.half = s.lpd.half ∧
    (resumeDescale s).lpd.pool = s.lpd.pool ∧ (resumeDescale s).lpd.shed = s.lpd.shed ∧
    (resumeDescale s).lpd.gates = s.lpd.gates ∧ (resumeDescale s).lpd.sinceCrossing = s.lpd.sinceCrossing ∧
    (resumeDescale s).lpd.loads.top = s.lpd.loads.top ∧ (resumeDescale s).lpd.loads.bottom = s.lpd.loads.bottom ∧
    (resumeDescale s).lpd.loads.ring = s.lpd.loads.ring ∧ (resumeDescale s).mu = s.mu ∧
    (resumeDescale s).cr = s.cr ∧ (resumeDescale s).sgc.steamWanted = s.sgc.steamWanted ∧
    (resumeDescale s).sgc.steamDemand = s.sgc.steamDemand ∧ (resumeDescale s).sdu.hardness = s.sdu.hardness ∧
    (resumeDescale s).sdu.soakCount = s.sdu.soakCount ∧ (resumeDescale s).sdu.retry = s.sdu.retry ∧
    (resumeDescale s).sdu.failures = s.sdu.failures ∧ (resumeDescale s).re.slotA = s.re.slotA ∧
    (resumeDescale s).re.slotB = s.re.slotB ∧ (resumeDescale s).re.running = s.re.running ∧
    (resumeDescale s).re.queued = s.re.queued ∧ (resumeDescale s).re.context = s.re.context ∧
    (resumeDescale s).re.repeats = s.re.repeats ∧
    (resumeDescale s).pu.trips.cavityOvertemp = s.pu.trips.cavityOvertemp ∧
    (resumeDescale s).pu.trips.boilerDry = s.pu.trips.boilerDry ∧
    (resumeDescale s).pu.trips.sensor = s.pu.trips.sensor := by
  simp [resumeDescale]

@[simp] theorem judgeRecovery_keeps (s : State) :
    (judgeRecovery s).pending = s.pending ∧ (judgeRecovery s).run = s.run ∧ (judgeRecovery s).config = s.config ∧
    (judgeRecovery s).store = s.store ∧ (judgeRecovery s).second = s.second ∧
    (judgeRecovery s).freeUses = s.freeUses ∧ (judgeRecovery s).link = s.link ∧
    (judgeRecovery s).od.power = s.od.power ∧ (judgeRecovery s).od.restartPending = s.od.restartPending ∧
    (judgeRecovery s).od.cycle = s.od.cycle ∧ (judgeRecovery s).od.cycleTimer = s.od.cycleTimer ∧
    (judgeRecovery s).od.eventsTimer = s.od.eventsTimer ∧ (judgeRecovery s).od.diagTimer = s.od.diagTimer ∧
    (judgeRecovery s).ssu.peers = s.ssu.peers ∧ (judgeRecovery s).ssu.claim = s.ssu.claim ∧
    (judgeRecovery s).ssu.announced = s.ssu.announced ∧ (judgeRecovery s).ssu.raise = s.ssu.raise ∧
    (judgeRecovery s).ssu.lastA = s.ssu.lastA ∧ (judgeRecovery s).ssu.lastW = s.ssu.lastW ∧
    (judgeRecovery s).ssu.lastFo = s.ssu.lastFo ∧ (judgeRecovery s).ssu.contention = s.ssu.contention ∧
    (judgeRecovery s).ssu.listenIn = s.ssu.listenIn ∧ (judgeRecovery s).ssu.period = s.ssu.period ∧
    (judgeRecovery s).lpd.drive = s.lpd.drive ∧ (judgeRecovery s).lpd.half = s.lpd.half ∧
    (judgeRecovery s).lpd.pool = s.lpd.pool ∧ (judgeRecovery s).lpd.shed = s.lpd.shed ∧
    (judgeRecovery s).lpd.gates = s.lpd.gates ∧ (judgeRecovery s).lpd.sinceCrossing = s.lpd.sinceCrossing ∧
    (judgeRecovery s).lpd.loads.top = s.lpd.loads.top ∧ (judgeRecovery s).lpd.loads.bottom = s.lpd.loads.bottom ∧
    (judgeRecovery s).lpd.loads.ring = s.lpd.loads.ring ∧ (judgeRecovery s).mu = s.mu ∧
    (judgeRecovery s).cr = s.cr ∧ (judgeRecovery s).sgc.steamWanted = s.sgc.steamWanted ∧
    (judgeRecovery s).sgc.steamDemand = s.sgc.steamDemand ∧ (judgeRecovery s).sdu.hardness = s.sdu.hardness ∧
    (judgeRecovery s).sdu.soakCount = s.sdu.soakCount ∧ (judgeRecovery s).sdu.retry = s.sdu.retry ∧
    (judgeRecovery s).sdu.failures = s.sdu.failures ∧ (judgeRecovery s).re.slotA = s.re.slotA ∧
    (judgeRecovery s).re.slotB = s.re.slotB ∧ (judgeRecovery s).re.running = s.re.running ∧
    (judgeRecovery s).re.queued = s.re.queued ∧ (judgeRecovery s).re.context = s.re.context ∧
    (judgeRecovery s).re.repeats = s.re.repeats ∧
    (judgeRecovery s).pu.trips.cavityOvertemp = s.pu.trips.cavityOvertemp ∧
    (judgeRecovery s).pu.trips.boilerDry = s.pu.trips.boilerDry ∧
    (judgeRecovery s).pu.trips.sensor = s.pu.trips.sensor := by
  unfold judgeRecovery; (repeat' split) <;> simp

@[simp] theorem startFromMark_keeps (s : State) :
    (startFromMark s).pending = s.pending ∧ (startFromMark s).run = s.run ∧ (startFromMark s).config = s.config ∧
    (startFromMark s).store = s.store ∧ (startFromMark s).second = s.second ∧
    (startFromMark s).freeUses = s.freeUses ∧ (startFromMark s).link = s.link ∧ (startFromMark s).od = s.od ∧
    (startFromMark s).ssu = s.ssu ∧ (startFromMark s).lpd.drive = s.lpd.drive ∧
    (startFromMark s).lpd.half = s.lpd.half ∧ (startFromMark s).lpd.loads.top = s.lpd.loads.top ∧
    (startFromMark s).lpd.loads.bottom = s.lpd.loads.bottom ∧ (startFromMark s).lpd.loads.ring = s.lpd.loads.ring ∧
    (startFromMark s).lpd.pool = s.lpd.pool ∧ (startFromMark s).lpd.shed = s.lpd.shed ∧
    (startFromMark s).lpd.gates = s.lpd.gates ∧ (startFromMark s).lpd.sinceCrossing = s.lpd.sinceCrossing ∧
    (startFromMark s).mu = s.mu ∧ (startFromMark s).cr = s.cr ∧ (startFromMark s).sgc.state = s.sgc.state ∧
    (startFromMark s).sgc.steamWanted = s.sgc.steamWanted ∧ (startFromMark s).sgc.steamDemand = s.sgc.steamDemand ∧
    (startFromMark s).sgc.derate = s.sgc.derate ∧ (startFromMark s).sgc.pulses = s.sgc.pulses ∧
    (startFromMark s).sgc.pulseTimer = s.sgc.pulseTimer ∧ (startFromMark s).sgc.pumpDrive = s.sgc.pumpDrive ∧
    (startFromMark s).sgc.wait = s.sgc.wait ∧ (startFromMark s).sgc.limitMark = s.sgc.limitMark ∧
    (startFromMark s).sgc.coolTime = s.sgc.coolTime ∧ (startFromMark s).sgc.drainCount = s.sgc.drainCount ∧
    (startFromMark s).sdu.account = s.sdu.account ∧ (startFromMark s).sdu.hardness = s.sdu.hardness ∧
    (startFromMark s).sdu.mark = s.sdu.mark ∧ (startFromMark s).sdu.meteringSum = s.sdu.meteringSum ∧
    (startFromMark s).sdu.lockingFrom = s.sdu.lockingFrom ∧ (startFromMark s).sdu.soakCount = s.sdu.soakCount ∧
    (startFromMark s).sdu.rinseCycle = s.sdu.rinseCycle ∧ (startFromMark s).sdu.rinseStep = s.sdu.rinseStep ∧
    (startFromMark s).sdu.heatingTime = s.sdu.heatingTime ∧ (startFromMark s).sdu.drained = s.sdu.drained ∧
    (startFromMark s).sdu.writing = s.sdu.writing ∧ (startFromMark s).sdu.writeTimer = s.sdu.writeTimer ∧
    (startFromMark s).sdu.rewritePending = s.sdu.rewritePending ∧ (startFromMark s).sdu.retry = s.sdu.retry ∧
    (startFromMark s).sdu.failures = s.sdu.failures ∧ (startFromMark s).re = s.re ∧ (startFromMark s).pu = s.pu := by
  unfold startFromMark; (repeat' split) <;> simp

end Sys2Proof.Machine
end

