-- ==== Sys2Proof/Laws/FiringLaws.lean ====
section
/-! SUPPORT. What the planner and burst drive leave as it is: for each operation, every field of State it cannot change. -/

namespace Sys2Proof.Machine

@[simp] theorem planWindow_keeps (s : State) :
    (planWindow s).pending = s.pending ∧ (planWindow s).run = s.run ∧ (planWindow s).config = s.config ∧
    (planWindow s).store = s.store ∧ (planWindow s).second = s.second ∧ (planWindow s).freeUses = s.freeUses ∧
    (planWindow s).link = s.link ∧ (planWindow s).od = s.od ∧ (planWindow s).ssu = s.ssu ∧
    (planWindow s).lpd.drive = s.lpd.drive ∧ (planWindow s).lpd.half = s.lpd.half ∧
    (planWindow s).lpd.gates = s.lpd.gates ∧ (planWindow s).lpd.sinceCrossing = s.lpd.sinceCrossing ∧
    (planWindow s).mu = s.mu ∧ (planWindow s).cr = s.cr ∧ (planWindow s).sgc = s.sgc ∧ (planWindow s).sdu = s.sdu ∧
    (planWindow s).re = s.re ∧ (planWindow s).pu = s.pu := by
  unfold planWindow; (repeat' split) <;> simp

@[simp] theorem decideGates_keeps (s : State) :
    (decideGates s).pending = s.pending ∧ (decideGates s).run = s.run ∧ (decideGates s).config = s.config ∧
    (decideGates s).store = s.store ∧ (decideGates s).second = s.second ∧ (decideGates s).freeUses = s.freeUses ∧
    (decideGates s).link = s.link ∧ (decideGates s).od = s.od ∧ (decideGates s).ssu = s.ssu ∧
    (decideGates s).lpd.drive = s.lpd.drive ∧ (decideGates s).lpd.half = s.lpd.half ∧
    (decideGates s).lpd.loads = s.lpd.loads ∧ (decideGates s).lpd.pool = s.lpd.pool ∧
    (decideGates s).lpd.shed = s.lpd.shed ∧ (decideGates s).lpd.sinceCrossing = s.lpd.sinceCrossing ∧
    (decideGates s).mu = s.mu ∧ (decideGates s).cr = s.cr ∧ (decideGates s).sgc = s.sgc ∧
    (decideGates s).sdu = s.sdu ∧ (decideGates s).re = s.re ∧ (decideGates s).pu = s.pu := by
  unfold decideGates; (repeat' split) <;> simp

@[simp] theorem windowStart_keeps (s : State) :
    (windowStart s).pending = s.pending ∧ (windowStart s).run = s.run ∧ (windowStart s).config = s.config ∧
    (windowStart s).store = s.store ∧ (windowStart s).second = s.second ∧ (windowStart s).freeUses = s.freeUses ∧
    (windowStart s).link.rx = s.link.rx ∧ (windowStart s).link.tx = s.link.tx ∧
    (windowStart s).link.confirmation = s.link.confirmation ∧ (windowStart s).link.latch = s.link.latch ∧
    (windowStart s).link.lost = s.link.lost ∧ (windowStart s).link.lfsr = s.link.lfsr ∧
    (windowStart s).link.silence = s.link.silence ∧ (windowStart s).link.restartOwed = s.link.restartOwed ∧
    (windowStart s).od = s.od ∧ (windowStart s).ssu.peers = s.ssu.peers ∧
    (windowStart s).ssu.listenIn = s.ssu.listenIn ∧ (windowStart s).ssu.period = s.ssu.period ∧
    (windowStart s).lpd.drive = s.lpd.drive ∧ (windowStart s).lpd.sinceCrossing = s.lpd.sinceCrossing ∧
    (windowStart s).mu = s.mu ∧ (windowStart s).cr = s.cr ∧ (windowStart s).sgc = s.sgc ∧
    (windowStart s).sdu = s.sdu ∧ (windowStart s).re.slotA = s.re.slotA ∧ (windowStart s).re.slotB = s.re.slotB ∧
    (windowStart s).re.running = s.re.running ∧ (windowStart s).re.queued = s.re.queued ∧
    (windowStart s).re.context = s.re.context ∧ (windowStart s).re.repeats = s.re.repeats ∧
    (windowStart s).pu = s.pu := by
  unfold windowStart; (repeat' split) <;> simp

@[simp] theorem acceptCrossing_keeps (s : State) :
    (acceptCrossing s).pending = s.pending ∧ (acceptCrossing s).run = s.run ∧ (acceptCrossing s).config = s.config ∧
    (acceptCrossing s).store = s.store ∧ (acceptCrossing s).second = s.second ∧
    (acceptCrossing s).freeUses = s.freeUses ∧ (acceptCrossing s).link.rx = s.link.rx ∧
    (acceptCrossing s).link.tx = s.link.tx ∧ (acceptCrossing s).link.confirmation = s.link.confirmation ∧
    (acceptCrossing s).link.latch = s.link.latch ∧ (acceptCrossing s).link.lost = s.link.lost ∧
    (acceptCrossing s).link.lfsr = s.link.lfsr ∧ (acceptCrossing s).link.silence = s.link.silence ∧
    (acceptCrossing s).link.restartOwed = s.link.restartOwed ∧ (acceptCrossing s).od = s.od ∧
    (acceptCrossing s).ssu.peers = s.ssu.peers ∧ (acceptCrossing s).ssu.listenIn = s.ssu.listenIn ∧
    (acceptCrossing s).ssu.period = s.ssu.period ∧ (acceptCrossing s).lpd.drive = s.lpd.drive ∧
    (acceptCrossing s).mu = s.mu ∧ (acceptCrossing s).cr = s.cr ∧ (acceptCrossing s).sgc = s.sgc ∧
    (acceptCrossing s).sdu = s.sdu ∧ (acceptCrossing s).re.slotA = s.re.slotA ∧
    (acceptCrossing s).re.slotB = s.re.slotB ∧ (acceptCrossing s).re.running = s.re.running ∧
    (acceptCrossing s).re.queued = s.re.queued ∧ (acceptCrossing s).re.context = s.re.context ∧
    (acceptCrossing s).re.repeats = s.re.repeats ∧ (acceptCrossing s).pu = s.pu := by
  unfold acceptCrossing; dsimp only; (repeat' split) <;> simp

@[simp] theorem enterRunning_keeps (s : State) :
    (enterRunning s).pending = s.pending ∧ (enterRunning s).run = s.run ∧ (enterRunning s).config = s.config ∧
    (enterRunning s).store = s.store ∧ (enterRunning s).second = s.second ∧ (enterRunning s).freeUses = s.freeUses ∧
    (enterRunning s).link.rx = s.link.rx ∧ (enterRunning s).link.tx = s.link.tx ∧
    (enterRunning s).link.confirmation = s.link.confirmation ∧ (enterRunning s).link.latch = s.link.latch ∧
    (enterRunning s).link.lost = s.link.lost ∧ (enterRunning s).link.lfsr = s.link.lfsr ∧
    (enterRunning s).link.silence = s.link.silence ∧ (enterRunning s).link.restartOwed = s.link.restartOwed ∧
    (enterRunning s).od = s.od ∧ (enterRunning s).ssu.peers = s.ssu.peers ∧
    (enterRunning s).ssu.listenIn = s.ssu.listenIn ∧ (enterRunning s).ssu.period = s.ssu.period ∧
    (enterRunning s).mu = s.mu ∧ (enterRunning s).cr = s.cr ∧ (enterRunning s).sgc = s.sgc ∧
    (enterRunning s).sdu = s.sdu ∧ (enterRunning s).re.slotA = s.re.slotA ∧ (enterRunning s).re.slotB = s.re.slotB ∧
    (enterRunning s).re.running = s.re.running ∧ (enterRunning s).re.queued = s.re.queued ∧
    (enterRunning s).re.context = s.re.context ∧ (enterRunning s).re.repeats = s.re.repeats ∧
    (enterRunning s).pu = s.pu := by
  unfold enterRunning; (repeat' split) <;> simp

@[simp] theorem measureCrossing_keeps (reference : Bool) (count sum interval : Nat) (s : State) :
    (measureCrossing reference count sum interval s).pending = s.pending ∧
    (measureCrossing reference count sum interval s).run = s.run ∧
    (measureCrossing reference count sum interval s).config = s.config ∧
    (measureCrossing reference count sum interval s).store = s.store ∧
    (measureCrossing reference count sum interval s).second = s.second ∧
    (measureCrossing reference count sum interval s).freeUses = s.freeUses ∧
    (measureCrossing reference count sum interval s).link.rx = s.link.rx ∧
    (measureCrossing reference count sum interval s).link.tx = s.link.tx ∧
    (measureCrossing reference count sum interval s).link.confirmation = s.link.confirmation ∧
    (measureCrossing reference count sum interval s).link.latch = s.link.latch ∧
    (measureCrossing reference count sum interval s).link.lost = s.link.lost ∧
    (measureCrossing reference count sum interval s).link.lfsr = s.link.lfsr ∧
    (measureCrossing reference count sum interval s).link.silence = s.link.silence ∧
    (measureCrossing reference count sum interval s).link.restartOwed = s.link.restartOwed ∧
    (measureCrossing reference count sum interval s).od = s.od ∧
    (measureCrossing reference count sum interval s).ssu.peers = s.ssu.peers ∧
    (measureCrossing reference count sum interval s).ssu.listenIn = s.ssu.listenIn ∧
    (measureCrossing reference count sum interval s).ssu.period = s.ssu.period ∧
    (measureCrossing reference count sum interval s).cr = s.cr ∧
    (measureCrossing reference count sum interval s).sgc = s.sgc ∧
    (measureCrossing reference count sum interval s).sdu = s.sdu ∧
    (measureCrossing reference count sum interval s).re.slotA = s.re.slotA ∧
    (measureCrossing reference count sum interval s).re.slotB = s.re.slotB ∧
    (measureCrossing reference count sum interval s).re.running = s.re.running ∧
    (measureCrossing reference count sum interval s).re.queued = s.re.queued ∧
    (measureCrossing reference count sum interval s).re.context = s.re.context ∧
    (measureCrossing reference count sum interval s).re.repeats = s.re.repeats ∧
    (measureCrossing reference count sum interval s).pu = s.pu := by
  unfold measureCrossing; (repeat' split) <;> simp

@[simp] theorem recoverCrossing_keeps (band : Nat × Nat) (reference : Bool) (count interval : Nat) (s : State) :
    (recoverCrossing band reference count interval s).pending = s.pending ∧
    (recoverCrossing band reference count interval s).run = s.run ∧
    (recoverCrossing band reference count interval s).config = s.config ∧
    (recoverCrossing band reference count interval s).store = s.store ∧
    (recoverCrossing band reference count interval s).second = s.second ∧
    (recoverCrossing band reference count interval s).freeUses = s.freeUses ∧
    (recoverCrossing band reference count interval s).link.rx = s.link.rx ∧
    (recoverCrossing band reference count interval s).link.tx = s.link.tx ∧
    (recoverCrossing band reference count interval s).link.confirmation = s.link.confirmation ∧
    (recoverCrossing band reference count interval s).link.latch = s.link.latch ∧
    (recoverCrossing band reference count interval s).link.lost = s.link.lost ∧
    (recoverCrossing band reference count interval s).link.lfsr = s.link.lfsr ∧
    (recoverCrossing band reference count interval s).link.silence = s.link.silence ∧
    (recoverCrossing band reference count interval s).link.restartOwed = s.link.restartOwed ∧
    (recoverCrossing band reference count interval s).od = s.od ∧
    (recoverCrossing band reference count interval s).ssu.peers = s.ssu.peers ∧
    (recoverCrossing band reference count interval s).ssu.listenIn = s.ssu.listenIn ∧
    (recoverCrossing band reference count interval s).ssu.period = s.ssu.period ∧
    (recoverCrossing band reference count interval s).mu = s.mu ∧
    (recoverCrossing band reference count interval s).cr = s.cr ∧
    (recoverCrossing band reference count interval s).sgc = s.sgc ∧
    (recoverCrossing band reference count interval s).sdu = s.sdu ∧
    (recoverCrossing band reference count interval s).re.slotA = s.re.slotA ∧
    (recoverCrossing band reference count interval s).re.slotB = s.re.slotB ∧
    (recoverCrossing band reference count interval s).re.running = s.re.running ∧
    (recoverCrossing band reference count interval s).re.queued = s.re.queued ∧
    (recoverCrossing band reference count interval s).re.context = s.re.context ∧
    (recoverCrossing band reference count interval s).re.repeats = s.re.repeats ∧
    (recoverCrossing band reference count interval s).pu = s.pu := by
  unfold recoverCrossing; (repeat' split) <;> simp

@[simp] theorem crossing_keeps (interval : Nat) (s : State) :
    (crossing interval s).pending = s.pending ∧ (crossing interval s).run = s.run ∧
    (crossing interval s).config = s.config ∧ (crossing interval s).store = s.store ∧
    (crossing interval s).second = s.second ∧ (crossing interval s).freeUses = s.freeUses ∧
    (crossing interval s).link.rx = s.link.rx ∧ (crossing interval s).link.tx = s.link.tx ∧
    (crossing interval s).link.confirmation = s.link.confirmation ∧
    (crossing interval s).link.latch = s.link.latch ∧ (crossing interval s).link.lost = s.link.lost ∧
    (crossing interval s).link.lfsr = s.link.lfsr ∧ (crossing interval s).link.silence = s.link.silence ∧
    (crossing interval s).link.restartOwed = s.link.restartOwed ∧ (crossing interval s).od = s.od ∧
    (crossing interval s).ssu.peers = s.ssu.peers ∧ (crossing interval s).ssu.listenIn = s.ssu.listenIn ∧
    (crossing interval s).ssu.period = s.ssu.period ∧ (crossing interval s).cr = s.cr ∧
    (crossing interval s).sgc = s.sgc ∧ (crossing interval s).sdu = s.sdu ∧
    (crossing interval s).re.slotA = s.re.slotA ∧ (crossing interval s).re.slotB = s.re.slotB ∧
    (crossing interval s).re.running = s.re.running ∧ (crossing interval s).re.queued = s.re.queued ∧
    (crossing interval s).re.context = s.re.context ∧ (crossing interval s).re.repeats = s.re.repeats ∧
    (crossing interval s).pu = s.pu := by
  unfold crossing; (repeat' split) <;> simp

@[simp] theorem enterMainsAbsent_keeps (s : State) :
    (enterMainsAbsent s).pending = s.pending ∧ (enterMainsAbsent s).run = s.run ∧
    (enterMainsAbsent s).config = s.config ∧ (enterMainsAbsent s).store = s.store ∧
    (enterMainsAbsent s).second = s.second ∧ (enterMainsAbsent s).freeUses = s.freeUses ∧
    (enterMainsAbsent s).link = s.link ∧ (enterMainsAbsent s).od = s.od ∧ (enterMainsAbsent s).ssu = s.ssu ∧
    (enterMainsAbsent s).lpd.shed = s.lpd.shed ∧ (enterMainsAbsent s).mu = s.mu ∧ (enterMainsAbsent s).cr = s.cr ∧
    (enterMainsAbsent s).sgc = s.sgc ∧ (enterMainsAbsent s).sdu = s.sdu ∧ (enterMainsAbsent s).re = s.re ∧
    (enterMainsAbsent s).pu = s.pu := by
  unfold enterMainsAbsent; (repeat' split) <;> simp

end Sys2Proof.Machine
end

