-- ==== Sys2Proof/Laws/ProgramLaws.lean ====
section
/-! SUPPORT. What the program slots leave as it is: for each operation, every field of State it cannot change. -/

namespace Sys2Proof.Machine

@[simp] theorem setSlot_keeps (i : SlotId) (x : Slot) (s : State) :
    (setSlot i x s).pending = s.pending ∧ (setSlot i x s).run = s.run ∧ (setSlot i x s).config = s.config ∧
    (setSlot i x s).store = s.store ∧ (setSlot i x s).second = s.second ∧ (setSlot i x s).freeUses = s.freeUses ∧
    (setSlot i x s).link = s.link ∧ (setSlot i x s).od = s.od ∧ (setSlot i x s).ssu = s.ssu ∧
    (setSlot i x s).lpd = s.lpd ∧ (setSlot i x s).mu = s.mu ∧ (setSlot i x s).cr = s.cr ∧
    (setSlot i x s).sgc = s.sgc ∧ (setSlot i x s).sdu = s.sdu ∧ (setSlot i x s).pu = s.pu := by
  unfold setSlot; (repeat' split) <;> simp

@[simp] theorem openSlot_keeps (i : SlotId) (count tag : Nat) (s : State) :
    (openSlot i count tag s).pending = s.pending ∧ (openSlot i count tag s).run = s.run ∧
    (openSlot i count tag s).config = s.config ∧ (openSlot i count tag s).store = s.store ∧
    (openSlot i count tag s).second = s.second ∧ (openSlot i count tag s).freeUses = s.freeUses ∧
    (openSlot i count tag s).link = s.link ∧ (openSlot i count tag s).od = s.od ∧
    (openSlot i count tag s).ssu = s.ssu ∧ (openSlot i count tag s).lpd = s.lpd ∧
    (openSlot i count tag s).mu = s.mu ∧ (openSlot i count tag s).cr = s.cr ∧ (openSlot i count tag s).sgc = s.sgc ∧
    (openSlot i count tag s).sdu = s.sdu ∧ (openSlot i count tag s).pu = s.pu := by
  unfold openSlot; (repeat' split) <;> simp

@[simp] theorem storeStage_keeps (i : SlotId) (k : Fin 24) (r : StageRecord) (s : State) :
    (storeStage i k r s).pending = s.pending ∧ (storeStage i k r s).run = s.run ∧
    (storeStage i k r s).config = s.config ∧ (storeStage i k r s).store = s.store ∧
    (storeStage i k r s).second = s.second ∧ (storeStage i k r s).freeUses = s.freeUses ∧
    (storeStage i k r s).link = s.link ∧ (storeStage i k r s).od = s.od ∧ (storeStage i k r s).ssu = s.ssu ∧
    (storeStage i k r s).lpd = s.lpd ∧ (storeStage i k r s).mu = s.mu ∧ (storeStage i k r s).cr = s.cr ∧
    (storeStage i k r s).sgc = s.sgc ∧ (storeStage i k r s).sdu = s.sdu ∧ (storeStage i k r s).pu = s.pu := by
  unfold storeStage; (repeat' split) <;> simp

@[simp] theorem closeSlot_keeps (i : SlotId) (s : State) :
    (closeSlot i s).pending = s.pending ∧ (closeSlot i s).run = s.run ∧ (closeSlot i s).config = s.config ∧
    (closeSlot i s).store = s.store ∧ (closeSlot i s).second = s.second ∧ (closeSlot i s).freeUses = s.freeUses ∧
    (closeSlot i s).link = s.link ∧ (closeSlot i s).od.power = s.od.power ∧
    (closeSlot i s).od.restartPending = s.od.restartPending ∧ (closeSlot i s).od.cycle = s.od.cycle ∧
    (closeSlot i s).od.cycleTimer = s.od.cycleTimer ∧ (closeSlot i s).od.eventsTimer = s.od.eventsTimer ∧
    (closeSlot i s).od.diagTimer = s.od.diagTimer ∧ (closeSlot i s).ssu = s.ssu ∧ (closeSlot i s).lpd = s.lpd ∧
    (closeSlot i s).mu = s.mu ∧ (closeSlot i s).cr = s.cr ∧ (closeSlot i s).sgc = s.sgc ∧
    (closeSlot i s).sdu = s.sdu ∧ (closeSlot i s).pu = s.pu := by
  unfold closeSlot; dsimp only; (repeat' split) <;> simp

@[simp] theorem emptySlot_keeps (i : SlotId) (s : State) :
    (emptySlot i s).pending = s.pending ∧ (emptySlot i s).run = s.run ∧ (emptySlot i s).config = s.config ∧
    (emptySlot i s).store = s.store ∧ (emptySlot i s).second = s.second ∧ (emptySlot i s).freeUses = s.freeUses ∧
    (emptySlot i s).link = s.link ∧ (emptySlot i s).od = s.od ∧ (emptySlot i s).ssu = s.ssu ∧
    (emptySlot i s).lpd = s.lpd ∧ (emptySlot i s).mu = s.mu ∧ (emptySlot i s).cr = s.cr ∧
    (emptySlot i s).sgc = s.sgc ∧ (emptySlot i s).sdu = s.sdu ∧ (emptySlot i s).pu = s.pu := by
  unfold emptySlot; (repeat' split) <;> simp

end Sys2Proof.Machine
end

