-- ==== Sys2Proof/Laws/RecipeLaws.lean ====
section
/-! SUPPORT. What the running recipe leave as it is: for each operation, every field of State it cannot change. -/

namespace Sys2Proof.Machine

@[simp] theorem writeStage_keeps (r : Request) (s : State) :
    (writeStage r s).pending = s.pending ∧ (writeStage r s).run = s.run ∧ (writeStage r s).config = s.config ∧
    (writeStage r s).store = s.store ∧ (writeStage r s).second = s.second ∧ (writeStage r s).freeUses = s.freeUses ∧
    (writeStage r s).link = s.link ∧ (writeStage r s).od.power = s.od.power ∧
    (writeStage r s).od.restartPending = s.od.restartPending ∧ (writeStage r s).od.cycle = s.od.cycle ∧
    (writeStage r s).od.cycleTimer = s.od.cycleTimer ∧ (writeStage r s).od.eventsTimer = s.od.eventsTimer ∧
    (writeStage r s).od.diagTimer = s.od.diagTimer ∧ (writeStage r s).ssu.peers = s.ssu.peers ∧
    (writeStage r s).ssu.claim = s.ssu.claim ∧ (writeStage r s).ssu.announced = s.ssu.announced ∧
    (writeStage r s).ssu.raise = s.ssu.raise ∧ (writeStage r s).ssu.lastA = s.ssu.lastA ∧
    (writeStage r s).ssu.lastW = s.ssu.lastW ∧ (writeStage r s).ssu.lastFo = s.ssu.lastFo ∧
    (writeStage r s).ssu.contention = s.ssu.contention ∧ (writeStage r s).ssu.listenIn = s.ssu.listenIn ∧
    (writeStage r s).ssu.period = s.ssu.period ∧ (writeStage r s).lpd.drive = s.lpd.drive ∧
    (writeStage r s).lpd.half = s.lpd.half ∧ (writeStage r s).lpd.pool = s.lpd.pool ∧
    (writeStage r s).lpd.shed = s.lpd.shed ∧ (writeStage r s).lpd.gates = s.lpd.gates ∧
    (writeStage r s).lpd.sinceCrossing = s.lpd.sinceCrossing ∧ (writeStage r s).mu = s.mu ∧
    (writeStage r s).sgc.user = s.sgc.user ∧ (writeStage r s).sgc.derate = s.sgc.derate ∧
    (writeStage r s).sdu.account = s.sdu.account ∧ (writeStage r s).sdu.hardness = s.sdu.hardness ∧
    (writeStage r s).sdu.mark = s.sdu.mark ∧ (writeStage r s).sdu.phase = s.sdu.phase ∧
    (writeStage r s).sdu.lockingFrom = s.sdu.lockingFrom ∧ (writeStage r s).sdu.soakCount = s.sdu.soakCount ∧
    (writeStage r s).sdu.rinseCycle = s.sdu.rinseCycle ∧ (writeStage r s).sdu.rinseStep = s.sdu.rinseStep ∧
    (writeStage r s).sdu.heatingTime = s.sdu.heatingTime ∧ (writeStage r s).sdu.drained = s.sdu.drained ∧
    (writeStage r s).sdu.retry = s.sdu.retry ∧ (writeStage r s).sdu.failures = s.sdu.failures ∧
    (writeStage r s).re.slotA = s.re.slotA ∧ (writeStage r s).re.slotB = s.re.slotB ∧
    (writeStage r s).re.running = s.re.running ∧ (writeStage r s).re.queued = s.re.queued ∧
    (writeStage r s).re.context = s.re.context ∧ (writeStage r s).re.repeats = s.re.repeats ∧
    (writeStage r s).pu = s.pu := by
  unfold writeStage; (repeat' split) <;> simp

@[simp] theorem enterStage_keeps (i : Nat) (st : Stage) (s : State) :
    (enterStage i st s).pending = s.pending ∧ (enterStage i st s).run = s.run ∧
    (enterStage i st s).config = s.config ∧ (enterStage i st s).store = s.store ∧
    (enterStage i st s).second = s.second ∧ (enterStage i st s).freeUses = s.freeUses ∧
    (enterStage i st s).link = s.link ∧ (enterStage i st s).od.power = s.od.power ∧
    (enterStage i st s).od.restartPending = s.od.restartPending ∧ (enterStage i st s).od.cycle = s.od.cycle ∧
    (enterStage i st s).od.cycleTimer = s.od.cycleTimer ∧ (enterStage i st s).od.eventsTimer = s.od.eventsTimer ∧
    (enterStage i st s).od.diagTimer = s.od.diagTimer ∧ (enterStage i st s).ssu.peers = s.ssu.peers ∧
    (enterStage i st s).ssu.claim = s.ssu.claim ∧ (enterStage i st s).ssu.announced = s.ssu.announced ∧
    (enterStage i st s).ssu.raise = s.ssu.raise ∧ (enterStage i st s).ssu.lastA = s.ssu.lastA ∧
    (enterStage i st s).ssu.lastW = s.ssu.lastW ∧ (enterStage i st s).ssu.lastFo = s.ssu.lastFo ∧
    (enterStage i st s).ssu.contention = s.ssu.contention ∧ (enterStage i st s).ssu.listenIn = s.ssu.listenIn ∧
    (enterStage i st s).ssu.period = s.ssu.period ∧ (enterStage i st s).lpd.drive = s.lpd.drive ∧
    (enterStage i st s).lpd.half = s.lpd.half ∧ (enterStage i st s).lpd.pool = s.lpd.pool ∧
    (enterStage i st s).lpd.shed = s.lpd.shed ∧ (enterStage i st s).lpd.gates = s.lpd.gates ∧
    (enterStage i st s).lpd.sinceCrossing = s.lpd.sinceCrossing ∧ (enterStage i st s).mu = s.mu ∧
    (enterStage i st s).sgc.user = s.sgc.user ∧ (enterStage i st s).sgc.derate = s.sgc.derate ∧
    (enterStage i st s).sdu.account = s.sdu.account ∧ (enterStage i st s).sdu.hardness = s.sdu.hardness ∧
    (enterStage i st s).sdu.mark = s.sdu.mark ∧ (enterStage i st s).sdu.phase = s.sdu.phase ∧
    (enterStage i st s).sdu.lockingFrom = s.sdu.lockingFrom ∧ (enterStage i st s).sdu.soakCount = s.sdu.soakCount ∧
    (enterStage i st s).sdu.rinseCycle = s.sdu.rinseCycle ∧ (enterStage i st s).sdu.rinseStep = s.sdu.rinseStep ∧
    (enterStage i st s).sdu.heatingTime = s.sdu.heatingTime ∧ (enterStage i st s).sdu.drained = s.sdu.drained ∧
    (enterStage i st s).sdu.retry = s.sdu.retry ∧ (enterStage i st s).sdu.failures = s.sdu.failures ∧
    (enterStage i st s).re.slotA = s.re.slotA ∧ (enterStage i st s).re.slotB = s.re.slotB ∧
    (enterStage i st s).re.running = s.re.running ∧ (enterStage i st s).re.queued = s.re.queued ∧
    (enterStage i st s).re.repeats = s.re.repeats ∧ (enterStage i st s).pu = s.pu := by
  unfold enterStage; (repeat' split) <;> simp

@[simp] theorem markSlot_keeps (i : SlotId) (st : SlotState) (s : State) :
    (markSlot i st s).pending = s.pending ∧ (markSlot i st s).run = s.run ∧ (markSlot i st s).config = s.config ∧
    (markSlot i st s).store = s.store ∧ (markSlot i st s).second = s.second ∧
    (markSlot i st s).freeUses = s.freeUses ∧ (markSlot i st s).link = s.link ∧ (markSlot i st s).od = s.od ∧
    (markSlot i st s).ssu = s.ssu ∧ (markSlot i st s).lpd = s.lpd ∧ (markSlot i st s).mu = s.mu ∧
    (markSlot i st s).cr = s.cr ∧ (markSlot i st s).sgc = s.sgc ∧ (markSlot i st s).sdu = s.sdu ∧
    (markSlot i st s).pu = s.pu := by
  unfold markSlot; (repeat' split) <;> simp

@[simp] theorem dropRun_keeps (s : State) :
    (dropRun s).pending = s.pending ∧ (dropRun s).run = s.run ∧ (dropRun s).config = s.config ∧
    (dropRun s).store = s.store ∧ (dropRun s).second = s.second ∧ (dropRun s).freeUses = s.freeUses ∧
    (dropRun s).link = s.link ∧ (dropRun s).od = s.od ∧ (dropRun s).ssu = s.ssu ∧ (dropRun s).lpd = s.lpd ∧
    (dropRun s).mu = s.mu ∧ (dropRun s).cr = s.cr ∧ (dropRun s).sgc = s.sgc ∧ (dropRun s).sdu = s.sdu ∧
    (dropRun s).re.slotA = s.re.slotA ∧ (dropRun s).re.slotB = s.re.slotB ∧ (dropRun s).re.running = s.re.running ∧
    (dropRun s).re.queued = s.re.queued ∧ (dropRun s).pu = s.pu := by
  unfold dropRun; (repeat' split) <;> simp

@[simp] theorem firstPrompt_keeps (s : State) :
    (firstPrompt s).pending = s.pending ∧ (firstPrompt s).run = s.run ∧ (firstPrompt s).config = s.config ∧
    (firstPrompt s).store = s.store ∧ (firstPrompt s).second = s.second ∧ (firstPrompt s).freeUses = s.freeUses ∧
    (firstPrompt s).link = s.link ∧ (firstPrompt s).od.power = s.od.power ∧
    (firstPrompt s).od.restartPending = s.od.restartPending ∧ (firstPrompt s).od.cycle = s.od.cycle ∧
    (firstPrompt s).od.cycleTimer = s.od.cycleTimer ∧ (firstPrompt s).od.eventsTimer = s.od.eventsTimer ∧
    (firstPrompt s).od.diagTimer = s.od.diagTimer ∧ (firstPrompt s).ssu.peers = s.ssu.peers ∧
    (firstPrompt s).ssu.claim = s.ssu.claim ∧ (firstPrompt s).ssu.announced = s.ssu.announced ∧
    (firstPrompt s).ssu.raise = s.ssu.raise ∧ (firstPrompt s).ssu.lastA = s.ssu.lastA ∧
    (firstPrompt s).ssu.lastW = s.ssu.lastW ∧ (firstPrompt s).ssu.lastFo = s.ssu.lastFo ∧
    (firstPrompt s).ssu.contention = s.ssu.contention ∧ (firstPrompt s).ssu.listenIn = s.ssu.listenIn ∧
    (firstPrompt s).ssu.period = s.ssu.period ∧ (firstPrompt s).lpd.drive = s.lpd.drive ∧
    (firstPrompt s).lpd.half = s.lpd.half ∧ (firstPrompt s).lpd.pool = s.lpd.pool ∧
    (firstPrompt s).lpd.shed = s.lpd.shed ∧ (firstPrompt s).lpd.gates = s.lpd.gates ∧
    (firstPrompt s).lpd.sinceCrossing = s.lpd.sinceCrossing ∧ (firstPrompt s).mu = s.mu ∧
    (firstPrompt s).sgc.user = s.sgc.user ∧ (firstPrompt s).sgc.derate = s.sgc.derate ∧
    (firstPrompt s).sdu.account = s.sdu.account ∧ (firstPrompt s).sdu.hardness = s.sdu.hardness ∧
    (firstPrompt s).sdu.mark = s.sdu.mark ∧ (firstPrompt s).sdu.phase = s.sdu.phase ∧
    (firstPrompt s).sdu.lockingFrom = s.sdu.lockingFrom ∧ (firstPrompt s).sdu.soakCount = s.sdu.soakCount ∧
    (firstPrompt s).sdu.rinseCycle = s.sdu.rinseCycle ∧ (firstPrompt s).sdu.rinseStep = s.sdu.rinseStep ∧
    (firstPrompt s).sdu.heatingTime = s.sdu.heatingTime ∧ (firstPrompt s).sdu.drained = s.sdu.drained ∧
    (firstPrompt s).sdu.retry = s.sdu.retry ∧ (firstPrompt s).sdu.failures = s.sdu.failures ∧
    (firstPrompt s).re.slotA = s.re.slotA ∧ (firstPrompt s).re.slotB = s.re.slotB ∧
    (firstPrompt s).re.running = s.re.running ∧ (firstPrompt s).re.queued = s.re.queued ∧
    (firstPrompt s).re.context = s.re.context ∧ (firstPrompt s).re.repeats = s.re.repeats ∧
    (firstPrompt s).pu = s.pu := by
  unfold firstPrompt; (repeat' split) <;> simp

@[simp] theorem runSlot_keeps (i : SlotId) (s : State) :
    (runSlot i s).pending = s.pending ∧ (runSlot i s).run = s.run ∧ (runSlot i s).config = s.config ∧
    (runSlot i s).store = s.store ∧ (runSlot i s).second = s.second ∧ (runSlot i s).freeUses = s.freeUses ∧
    (runSlot i s).link = s.link ∧ (runSlot i s).od.power = s.od.power ∧
    (runSlot i s).od.restartPending = s.od.restartPending ∧ (runSlot i s).od.cycle = s.od.cycle ∧
    (runSlot i s).od.cycleTimer = s.od.cycleTimer ∧ (runSlot i s).od.eventsTimer = s.od.eventsTimer ∧
    (runSlot i s).od.diagTimer = s.od.diagTimer ∧ (runSlot i s).ssu.peers = s.ssu.peers ∧
    (runSlot i s).ssu.claim = s.ssu.claim ∧ (runSlot i s).ssu.announced = s.ssu.announced ∧
    (runSlot i s).ssu.raise = s.ssu.raise ∧ (runSlot i s).ssu.lastA = s.ssu.lastA ∧
    (runSlot i s).ssu.lastW = s.ssu.lastW ∧ (runSlot i s).ssu.lastFo = s.ssu.lastFo ∧
    (runSlot i s).ssu.contention = s.ssu.contention ∧ (runSlot i s).ssu.listenIn = s.ssu.listenIn ∧
    (runSlot i s).ssu.period = s.ssu.period ∧ (runSlot i s).lpd.drive = s.lpd.drive ∧
    (runSlot i s).lpd.half = s.lpd.half ∧ (runSlot i s).lpd.pool = s.lpd.pool ∧
    (runSlot i s).lpd.shed = s.lpd.shed ∧ (runSlot i s).lpd.gates = s.lpd.gates ∧
    (runSlot i s).lpd.sinceCrossing = s.lpd.sinceCrossing ∧ (runSlot i s).mu = s.mu ∧
    (runSlot i s).sgc.user = s.sgc.user ∧ (runSlot i s).sgc.derate = s.sgc.derate ∧
    (runSlot i s).sdu.account = s.sdu.account ∧ (runSlot i s).sdu.hardness = s.sdu.hardness ∧
    (runSlot i s).sdu.mark = s.sdu.mark ∧ (runSlot i s).sdu.phase = s.sdu.phase ∧
    (runSlot i s).sdu.lockingFrom = s.sdu.lockingFrom ∧ (runSlot i s).sdu.soakCount = s.sdu.soakCount ∧
    (runSlot i s).sdu.rinseCycle = s.sdu.rinseCycle ∧ (runSlot i s).sdu.rinseStep = s.sdu.rinseStep ∧
    (runSlot i s).sdu.heatingTime = s.sdu.heatingTime ∧ (runSlot i s).sdu.drained = s.sdu.drained ∧
    (runSlot i s).sdu.retry = s.sdu.retry ∧ (runSlot i s).sdu.failures = s.sdu.failures ∧ (runSlot i s).pu = s.pu := by
  unfold runSlot; (repeat' split) <;> simp

@[simp] theorem finishProgram_keeps (s : State) :
    (finishProgram s).pending = s.pending ∧ (finishProgram s).run = s.run ∧ (finishProgram s).config = s.config ∧
    (finishProgram s).store = s.store ∧ (finishProgram s).second = s.second ∧
    (finishProgram s).freeUses = s.freeUses ∧ (finishProgram s).link = s.link ∧
    (finishProgram s).od.power = s.od.power ∧ (finishProgram s).od.restartPending = s.od.restartPending ∧
    (finishProgram s).od.cycle = s.od.cycle ∧ (finishProgram s).od.cycleTimer = s.od.cycleTimer ∧
    (finishProgram s).od.eventsTimer = s.od.eventsTimer ∧ (finishProgram s).od.diagTimer = s.od.diagTimer ∧
    (finishProgram s).ssu = s.ssu ∧ (finishProgram s).lpd = s.lpd ∧ (finishProgram s).mu = s.mu ∧
    (finishProgram s).cr = s.cr ∧ (finishProgram s).sgc = s.sgc ∧ (finishProgram s).sdu = s.sdu ∧
    (finishProgram s).pu = s.pu := by
  unfold finishProgram; (repeat' split) <;> simp

@[simp] theorem reach_keeps (n k : Nat) (s : State) :
    (reach n k s).pending = s.pending ∧ (reach n k s).run = s.run ∧ (reach n k s).config = s.config ∧
    (reach n k s).store = s.store ∧ (reach n k s).second = s.second ∧ (reach n k s).freeUses = s.freeUses ∧
    (reach n k s).link = s.link ∧ (reach n k s).od.power = s.od.power ∧
    (reach n k s).od.restartPending = s.od.restartPending ∧ (reach n k s).od.cycle = s.od.cycle ∧
    (reach n k s).od.cycleTimer = s.od.cycleTimer ∧ (reach n k s).od.eventsTimer = s.od.eventsTimer ∧
    (reach n k s).od.diagTimer = s.od.diagTimer ∧ (reach n k s).ssu.peers = s.ssu.peers ∧
    (reach n k s).ssu.claim = s.ssu.claim ∧ (reach n k s).ssu.announced = s.ssu.announced ∧
    (reach n k s).ssu.raise = s.ssu.raise ∧ (reach n k s).ssu.lastA = s.ssu.lastA ∧
    (reach n k s).ssu.lastW = s.ssu.lastW ∧ (reach n k s).ssu.lastFo = s.ssu.lastFo ∧
    (reach n k s).ssu.contention = s.ssu.contention ∧ (reach n k s).ssu.listenIn = s.ssu.listenIn ∧
    (reach n k s).ssu.period = s.ssu.period ∧ (reach n k s).lpd.drive = s.lpd.drive ∧
    (reach n k s).lpd.half = s.lpd.half ∧ (reach n k s).lpd.pool = s.lpd.pool ∧
    (reach n k s).lpd.shed = s.lpd.shed ∧ (reach n k s).lpd.gates = s.lpd.gates ∧
    (reach n k s).lpd.sinceCrossing = s.lpd.sinceCrossing ∧ (reach n k s).mu = s.mu ∧
    (reach n k s).sgc.user = s.sgc.user ∧ (reach n k s).sgc.derate = s.sgc.derate ∧
    (reach n k s).sdu.account = s.sdu.account ∧ (reach n k s).sdu.hardness = s.sdu.hardness ∧
    (reach n k s).sdu.mark = s.sdu.mark ∧ (reach n k s).sdu.phase = s.sdu.phase ∧
    (reach n k s).sdu.lockingFrom = s.sdu.lockingFrom ∧ (reach n k s).sdu.soakCount = s.sdu.soakCount ∧
    (reach n k s).sdu.rinseCycle = s.sdu.rinseCycle ∧ (reach n k s).sdu.rinseStep = s.sdu.rinseStep ∧
    (reach n k s).sdu.heatingTime = s.sdu.heatingTime ∧ (reach n k s).sdu.drained = s.sdu.drained ∧
    (reach n k s).sdu.retry = s.sdu.retry ∧ (reach n k s).sdu.failures = s.sdu.failures ∧ (reach n k s).pu = s.pu := by
  induction n generalizing k s with
  | zero => simp [reach]
  | succ n ih => unfold reach; dsimp only; (repeat' split) <;> simp [ih]

@[simp] theorem reachIndex_keeps (k : Nat) (s : State) :
    (reachIndex k s).pending = s.pending ∧ (reachIndex k s).run = s.run ∧ (reachIndex k s).config = s.config ∧
    (reachIndex k s).store = s.store ∧ (reachIndex k s).second = s.second ∧ (reachIndex k s).freeUses = s.freeUses ∧
    (reachIndex k s).link = s.link ∧ (reachIndex k s).od.power = s.od.power ∧
    (reachIndex k s).od.restartPending = s.od.restartPending ∧ (reachIndex k s).od.cycle = s.od.cycle ∧
    (reachIndex k s).od.cycleTimer = s.od.cycleTimer ∧ (reachIndex k s).od.eventsTimer = s.od.eventsTimer ∧
    (reachIndex k s).od.diagTimer = s.od.diagTimer ∧ (reachIndex k s).ssu.peers = s.ssu.peers ∧
    (reachIndex k s).ssu.claim = s.ssu.claim ∧ (reachIndex k s).ssu.announced = s.ssu.announced ∧
    (reachIndex k s).ssu.raise = s.ssu.raise ∧ (reachIndex k s).ssu.lastA = s.ssu.lastA ∧
    (reachIndex k s).ssu.lastW = s.ssu.lastW ∧ (reachIndex k s).ssu.lastFo = s.ssu.lastFo ∧
    (reachIndex k s).ssu.contention = s.ssu.contention ∧ (reachIndex k s).ssu.listenIn = s.ssu.listenIn ∧
    (reachIndex k s).ssu.period = s.ssu.period ∧ (reachIndex k s).lpd.drive = s.lpd.drive ∧
    (reachIndex k s).lpd.half = s.lpd.half ∧ (reachIndex k s).lpd.pool = s.lpd.pool ∧
    (reachIndex k s).lpd.shed = s.lpd.shed ∧ (reachIndex k s).lpd.gates = s.lpd.gates ∧
    (reachIndex k s).lpd.sinceCrossing = s.lpd.sinceCrossing ∧ (reachIndex k s).mu = s.mu ∧
    (reachIndex k s).sgc.user = s.sgc.user ∧ (reachIndex k s).sgc.derate = s.sgc.derate ∧
    (reachIndex k s).sdu.account = s.sdu.account ∧ (reachIndex k s).sdu.hardness = s.sdu.hardness ∧
    (reachIndex k s).sdu.mark = s.sdu.mark ∧ (reachIndex k s).sdu.phase = s.sdu.phase ∧
    (reachIndex k s).sdu.lockingFrom = s.sdu.lockingFrom ∧ (reachIndex k s).sdu.soakCount = s.sdu.soakCount ∧
    (reachIndex k s).sdu.rinseCycle = s.sdu.rinseCycle ∧ (reachIndex k s).sdu.rinseStep = s.sdu.rinseStep ∧
    (reachIndex k s).sdu.heatingTime = s.sdu.heatingTime ∧ (reachIndex k s).sdu.drained = s.sdu.drained ∧
    (reachIndex k s).sdu.retry = s.sdu.retry ∧ (reachIndex k s).sdu.failures = s.sdu.failures ∧
    (reachIndex k s).pu = s.pu := by
  unfold reachIndex; (repeat' split) <;> simp

@[simp] theorem endStage_keeps (s : State) :
    (endStage s).pending = s.pending ∧ (endStage s).run = s.run ∧ (endStage s).config = s.config ∧
    (endStage s).store = s.store ∧ (endStage s).second = s.second ∧ (endStage s).freeUses = s.freeUses ∧
    (endStage s).link = s.link ∧ (endStage s).od.power = s.od.power ∧
    (endStage s).od.restartPending = s.od.restartPending ∧ (endStage s).od.cycle = s.od.cycle ∧
    (endStage s).od.cycleTimer = s.od.cycleTimer ∧ (endStage s).od.eventsTimer = s.od.eventsTimer ∧
    (endStage s).od.diagTimer = s.od.diagTimer ∧ (endStage s).ssu.peers = s.ssu.peers ∧
    (endStage s).ssu.claim = s.ssu.claim ∧ (endStage s).ssu.announced = s.ssu.announced ∧
    (endStage s).ssu.raise = s.ssu.raise ∧ (endStage s).ssu.lastA = s.ssu.lastA ∧
    (endStage s).ssu.lastW = s.ssu.lastW ∧ (endStage s).ssu.lastFo = s.ssu.lastFo ∧
    (endStage s).ssu.contention = s.ssu.contention ∧ (endStage s).ssu.listenIn = s.ssu.listenIn ∧
    (endStage s).ssu.period = s.ssu.period ∧ (endStage s).lpd.drive = s.lpd.drive ∧
    (endStage s).lpd.half = s.lpd.half ∧ (endStage s).lpd.pool = s.lpd.pool ∧ (endStage s).lpd.shed = s.lpd.shed ∧
    (endStage s).lpd.gates = s.lpd.gates ∧ (endStage s).lpd.sinceCrossing = s.lpd.sinceCrossing ∧
    (endStage s).mu = s.mu ∧ (endStage s).sgc.user = s.sgc.user ∧ (endStage s).sgc.derate = s.sgc.derate ∧
    (endStage s).sdu.account = s.sdu.account ∧ (endStage s).sdu.hardness = s.sdu.hardness ∧
    (endStage s).sdu.mark = s.sdu.mark ∧ (endStage s).sdu.phase = s.sdu.phase ∧
    (endStage s).sdu.lockingFrom = s.sdu.lockingFrom ∧ (endStage s).sdu.soakCount = s.sdu.soakCount ∧
    (endStage s).sdu.rinseCycle = s.sdu.rinseCycle ∧ (endStage s).sdu.rinseStep = s.sdu.rinseStep ∧
    (endStage s).sdu.heatingTime = s.sdu.heatingTime ∧ (endStage s).sdu.drained = s.sdu.drained ∧
    (endStage s).sdu.retry = s.sdu.retry ∧ (endStage s).sdu.failures = s.sdu.failures ∧ (endStage s).pu = s.pu := by
  unfold endStage; (repeat' split) <;> simp

@[simp] theorem startRecipe_keeps (i : SlotId) (s : State) :
    (startRecipe i s).pending = s.pending ∧ (startRecipe i s).run = s.run ∧ (startRecipe i s).config = s.config ∧
    (startRecipe i s).store = s.store ∧ (startRecipe i s).second = s.second ∧
    (startRecipe i s).freeUses = s.freeUses ∧ (startRecipe i s).link = s.link ∧
    (startRecipe i s).od.power = s.od.power ∧ (startRecipe i s).od.restartPending = s.od.restartPending ∧
    (startRecipe i s).od.cycle = s.od.cycle ∧ (startRecipe i s).od.cycleTimer = s.od.cycleTimer ∧
    (startRecipe i s).od.eventsTimer = s.od.eventsTimer ∧ (startRecipe i s).od.diagTimer = s.od.diagTimer ∧
    (startRecipe i s).ssu.peers = s.ssu.peers ∧ (startRecipe i s).ssu.claim = s.ssu.claim ∧
    (startRecipe i s).ssu.announced = s.ssu.announced ∧ (startRecipe i s).ssu.raise = s.ssu.raise ∧
    (startRecipe i s).ssu.lastA = s.ssu.lastA ∧ (startRecipe i s).ssu.lastW = s.ssu.lastW ∧
    (startRecipe i s).ssu.lastFo = s.ssu.lastFo ∧ (startRecipe i s).ssu.contention = s.ssu.contention ∧
    (startRecipe i s).ssu.listenIn = s.ssu.listenIn ∧ (startRecipe i s).ssu.period = s.ssu.period ∧
    (startRecipe i s).lpd.drive = s.lpd.drive ∧ (startRecipe i s).lpd.half = s.lpd.half ∧
    (startRecipe i s).lpd.pool = s.lpd.pool ∧ (startRecipe i s).lpd.shed = s.lpd.shed ∧
    (startRecipe i s).lpd.gates = s.lpd.gates ∧ (startRecipe i s).lpd.sinceCrossing = s.lpd.sinceCrossing ∧
    (startRecipe i s).mu = s.mu ∧ (startRecipe i s).sgc.user = s.sgc.user ∧
    (startRecipe i s).sgc.derate = s.sgc.derate ∧ (startRecipe i s).sdu.account = s.sdu.account ∧
    (startRecipe i s).sdu.hardness = s.sdu.hardness ∧ (startRecipe i s).sdu.mark = s.sdu.mark ∧
    (startRecipe i s).sdu.phase = s.sdu.phase ∧ (startRecipe i s).sdu.lockingFrom = s.sdu.lockingFrom ∧
    (startRecipe i s).sdu.soakCount = s.sdu.soakCount ∧ (startRecipe i s).sdu.rinseCycle = s.sdu.rinseCycle ∧
    (startRecipe i s).sdu.rinseStep = s.sdu.rinseStep ∧ (startRecipe i s).sdu.heatingTime = s.sdu.heatingTime ∧
    (startRecipe i s).sdu.drained = s.sdu.drained ∧ (startRecipe i s).sdu.retry = s.sdu.retry ∧
    (startRecipe i s).sdu.failures = s.sdu.failures ∧ (startRecipe i s).pu = s.pu := by
  unfold startRecipe; (repeat' split) <;> simp

@[simp] theorem abortRecipe_keeps (s : State) :
    (abortRecipe s).pending = s.pending ∧ (abortRecipe s).run = s.run ∧ (abortRecipe s).config = s.config ∧
    (abortRecipe s).store = s.store ∧ (abortRecipe s).second = s.second ∧ (abortRecipe s).freeUses = s.freeUses ∧
    (abortRecipe s).link = s.link ∧ (abortRecipe s).od.power = s.od.power ∧
    (abortRecipe s).od.restartPending = s.od.restartPending ∧ (abortRecipe s).od.cycle = s.od.cycle ∧
    (abortRecipe s).od.cycleTimer = s.od.cycleTimer ∧ (abortRecipe s).od.eventsTimer = s.od.eventsTimer ∧
    (abortRecipe s).od.diagTimer = s.od.diagTimer ∧ (abortRecipe s).ssu.peers = s.ssu.peers ∧
    (abortRecipe s).ssu.claim = s.ssu.claim ∧ (abortRecipe s).ssu.announced = s.ssu.announced ∧
    (abortRecipe s).ssu.raise = s.ssu.raise ∧ (abortRecipe s).ssu.lastA = s.ssu.lastA ∧
    (abortRecipe s).ssu.lastW = s.ssu.lastW ∧ (abortRecipe s).ssu.lastFo = s.ssu.lastFo ∧
    (abortRecipe s).ssu.contention = s.ssu.contention ∧ (abortRecipe s).ssu.listenIn = s.ssu.listenIn ∧
    (abortRecipe s).ssu.period = s.ssu.period ∧ (abortRecipe s).lpd.drive = s.lpd.drive ∧
    (abortRecipe s).lpd.half = s.lpd.half ∧ (abortRecipe s).lpd.pool = s.lpd.pool ∧
    (abortRecipe s).lpd.shed = s.lpd.shed ∧ (abortRecipe s).lpd.gates = s.lpd.gates ∧
    (abortRecipe s).lpd.sinceCrossing = s.lpd.sinceCrossing ∧ (abortRecipe s).mu = s.mu ∧
    (abortRecipe s).sgc.user = s.sgc.user ∧ (abortRecipe s).sgc.derate = s.sgc.derate ∧
    (abortRecipe s).sdu.account = s.sdu.account ∧ (abortRecipe s).sdu.hardness = s.sdu.hardness ∧
    (abortRecipe s).sdu.mark = s.sdu.mark ∧ (abortRecipe s).sdu.phase = s.sdu.phase ∧
    (abortRecipe s).sdu.lockingFrom = s.sdu.lockingFrom ∧ (abortRecipe s).sdu.soakCount = s.sdu.soakCount ∧
    (abortRecipe s).sdu.rinseCycle = s.sdu.rinseCycle ∧ (abortRecipe s).sdu.rinseStep = s.sdu.rinseStep ∧
    (abortRecipe s).sdu.heatingTime = s.sdu.heatingTime ∧ (abortRecipe s).sdu.drained = s.sdu.drained ∧
    (abortRecipe s).sdu.retry = s.sdu.retry ∧ (abortRecipe s).sdu.failures = s.sdu.failures ∧
    (abortRecipe s).pu = s.pu := by
  unfold abortRecipe; (repeat' split) <;> simp

@[simp] theorem stageTick_keeps (s : State) :
    (stageTick s).pending = s.pending ∧ (stageTick s).run = s.run ∧ (stageTick s).config = s.config ∧
    (stageTick s).store = s.store ∧ (stageTick s).second = s.second ∧ (stageTick s).freeUses = s.freeUses ∧
    (stageTick s).link = s.link ∧ (stageTick s).od.power = s.od.power ∧
    (stageTick s).od.restartPending = s.od.restartPending ∧ (stageTick s).od.cycle = s.od.cycle ∧
    (stageTick s).od.cycleTimer = s.od.cycleTimer ∧ (stageTick s).od.eventsTimer = s.od.eventsTimer ∧
    (stageTick s).od.diagTimer = s.od.diagTimer ∧ (stageTick s).ssu.peers = s.ssu.peers ∧
    (stageTick s).ssu.claim = s.ssu.claim ∧ (stageTick s).ssu.announced = s.ssu.announced ∧
    (stageTick s).ssu.raise = s.ssu.raise ∧ (stageTick s).ssu.lastA = s.ssu.lastA ∧
    (stageTick s).ssu.lastW = s.ssu.lastW ∧ (stageTick s).ssu.lastFo = s.ssu.lastFo ∧
    (stageTick s).ssu.contention = s.ssu.contention ∧ (stageTick s).ssu.listenIn = s.ssu.listenIn ∧
    (stageTick s).ssu.period = s.ssu.period ∧ (stageTick s).lpd.drive = s.lpd.drive ∧
    (stageTick s).lpd.half = s.lpd.half ∧ (stageTick s).lpd.pool = s.lpd.pool ∧
    (stageTick s).lpd.shed = s.lpd.shed ∧ (stageTick s).lpd.gates = s.lpd.gates ∧
    (stageTick s).lpd.sinceCrossing = s.lpd.sinceCrossing ∧ (stageTick s).mu = s.mu ∧
    (stageTick s).sgc.user = s.sgc.user ∧ (stageTick s).sgc.derate = s.sgc.derate ∧
    (stageTick s).sdu.account = s.sdu.account ∧ (stageTick s).sdu.hardness = s.sdu.hardness ∧
    (stageTick s).sdu.mark = s.sdu.mark ∧ (stageTick s).sdu.phase = s.sdu.phase ∧
    (stageTick s).sdu.lockingFrom = s.sdu.lockingFrom ∧ (stageTick s).sdu.soakCount = s.sdu.soakCount ∧
    (stageTick s).sdu.rinseCycle = s.sdu.rinseCycle ∧ (stageTick s).sdu.rinseStep = s.sdu.rinseStep ∧
    (stageTick s).sdu.heatingTime = s.sdu.heatingTime ∧ (stageTick s).sdu.drained = s.sdu.drained ∧
    (stageTick s).sdu.retry = s.sdu.retry ∧ (stageTick s).sdu.failures = s.sdu.failures ∧ (stageTick s).pu = s.pu := by
  unfold stageTick; dsimp only; (repeat' split) <;> simp

@[simp] theorem probePublication_keeps (s : State) :
    (probePublication s).pending = s.pending ∧ (probePublication s).run = s.run ∧
    (probePublication s).config = s.config ∧ (probePublication s).store = s.store ∧
    (probePublication s).second = s.second ∧ (probePublication s).freeUses = s.freeUses ∧
    (probePublication s).link = s.link ∧ (probePublication s).od = s.od ∧ (probePublication s).ssu = s.ssu ∧
    (probePublication s).lpd = s.lpd ∧ (probePublication s).mu = s.mu ∧ (probePublication s).cr = s.cr ∧
    (probePublication s).sgc = s.sgc ∧ (probePublication s).sdu = s.sdu ∧
    (probePublication s).re.slotA = s.re.slotA ∧ (probePublication s).re.slotB = s.re.slotB ∧
    (probePublication s).re.running = s.re.running ∧ (probePublication s).re.queued = s.re.queued ∧
    (probePublication s).re.context = s.re.context ∧ (probePublication s).re.repeats = s.re.repeats ∧
    (probePublication s).pu = s.pu := by
  unfold probePublication; (repeat' split) <;> simp

@[simp] theorem judgeTripHold_keeps (s : State) :
    (judgeTripHold s).pending = s.pending ∧ (judgeTripHold s).run = s.run ∧ (judgeTripHold s).config = s.config ∧
    (judgeTripHold s).store = s.store ∧ (judgeTripHold s).second = s.second ∧
    (judgeTripHold s).freeUses = s.freeUses ∧ (judgeTripHold s).link = s.link ∧
    (judgeTripHold s).od.power = s.od.power ∧ (judgeTripHold s).od.restartPending = s.od.restartPending ∧
    (judgeTripHold s).od.cycle = s.od.cycle ∧ (judgeTripHold s).od.cycleTimer = s.od.cycleTimer ∧
    (judgeTripHold s).od.eventsTimer = s.od.eventsTimer ∧ (judgeTripHold s).od.diagTimer = s.od.diagTimer ∧
    (judgeTripHold s).ssu.peers = s.ssu.peers ∧ (judgeTripHold s).ssu.claim = s.ssu.claim ∧
    (judgeTripHold s).ssu.announced = s.ssu.announced ∧ (judgeTripHold s).ssu.raise = s.ssu.raise ∧
    (judgeTripHold s).ssu.lastA = s.ssu.lastA ∧ (judgeTripHold s).ssu.lastW = s.ssu.lastW ∧
    (judgeTripHold s).ssu.lastFo = s.ssu.lastFo ∧ (judgeTripHold s).ssu.contention = s.ssu.contention ∧
    (judgeTripHold s).ssu.listenIn = s.ssu.listenIn ∧ (judgeTripHold s).ssu.period = s.ssu.period ∧
    (judgeTripHold s).lpd.drive = s.lpd.drive ∧ (judgeTripHold s).lpd.half = s.lpd.half ∧
    (judgeTripHold s).lpd.pool = s.lpd.pool ∧ (judgeTripHold s).lpd.shed = s.lpd.shed ∧
    (judgeTripHold s).lpd.gates = s.lpd.gates ∧ (judgeTripHold s).lpd.sinceCrossing = s.lpd.sinceCrossing ∧
    (judgeTripHold s).mu = s.mu ∧ (judgeTripHold s).sgc.user = s.sgc.user ∧
    (judgeTripHold s).sgc.derate = s.sgc.derate ∧ (judgeTripHold s).sdu.account = s.sdu.account ∧
    (judgeTripHold s).sdu.hardness = s.sdu.hardness ∧ (judgeTripHold s).sdu.mark = s.sdu.mark ∧
    (judgeTripHold s).sdu.phase = s.sdu.phase ∧ (judgeTripHold s).sdu.lockingFrom = s.sdu.lockingFrom ∧
    (judgeTripHold s).sdu.soakCount = s.sdu.soakCount ∧ (judgeTripHold s).sdu.rinseCycle = s.sdu.rinseCycle ∧
    (judgeTripHold s).sdu.rinseStep = s.sdu.rinseStep ∧ (judgeTripHold s).sdu.heatingTime = s.sdu.heatingTime ∧
    (judgeTripHold s).sdu.drained = s.sdu.drained ∧ (judgeTripHold s).sdu.retry = s.sdu.retry ∧
    (judgeTripHold s).sdu.failures = s.sdu.failures ∧ (judgeTripHold s).re.slotA = s.re.slotA ∧
    (judgeTripHold s).re.slotB = s.re.slotB ∧ (judgeTripHold s).re.running = s.re.running ∧
    (judgeTripHold s).re.queued = s.re.queued ∧ (judgeTripHold s).re.context = s.re.context ∧
    (judgeTripHold s).re.repeats = s.re.repeats ∧ (judgeTripHold s).pu = s.pu := by
  unfold judgeTripHold; (repeat' split) <;> simp

end Sys2Proof.Machine
end

