-- ==== Sys2Proof/Laws/PowerLaws.lean ====
section
/-! SUPPORT. What the moves of several blocks leave as it is: for each operation, every field of State it cannot change. -/

namespace Sys2Proof.Machine

@[simp] theorem powerChanged_keeps (s : State) :
    (powerChanged s).pending = s.pending ∧ (powerChanged s).run = s.run ∧ (powerChanged s).config = s.config ∧
    (powerChanged s).store = s.store ∧ (powerChanged s).second = s.second ∧ (powerChanged s).freeUses = s.freeUses ∧
    (powerChanged s).link = s.link ∧ (powerChanged s).od.power = s.od.power ∧
    (powerChanged s).od.restartPending = s.od.restartPending ∧ (powerChanged s).od.cycle = s.od.cycle ∧
    (powerChanged s).od.cycleTimer = s.od.cycleTimer ∧ (powerChanged s).od.eventsTimer = s.od.eventsTimer ∧
    (powerChanged s).od.diagTimer = s.od.diagTimer ∧ (powerChanged s).ssu = s.ssu ∧
    (powerChanged s).lpd.drive = s.lpd.drive ∧ (powerChanged s).lpd.half = s.lpd.half ∧
    (powerChanged s).lpd.loads.top = s.lpd.loads.top ∧ (powerChanged s).lpd.loads.bottom = s.lpd.loads.bottom ∧
    (powerChanged s).lpd.loads.ring = s.lpd.loads.ring ∧ (powerChanged s).lpd.pool = s.lpd.pool ∧
    (powerChanged s).lpd.shed = s.lpd.shed ∧ (powerChanged s).lpd.gates = s.lpd.gates ∧
    (powerChanged s).lpd.sinceCrossing = s.lpd.sinceCrossing ∧ (powerChanged s).mu = s.mu ∧
    (powerChanged s).cr.owner = s.cr.owner ∧ (powerChanged s).cr.request = s.cr.request ∧
    (powerChanged s).cr.temperature = s.cr.temperature ∧ (powerChanged s).cr.humidity = s.cr.humidity ∧
    (powerChanged s).cr.ventOpen = s.cr.ventOpen ∧ (powerChanged s).sgc.user = s.sgc.user ∧
    (powerChanged s).sgc.steamWanted = s.sgc.steamWanted ∧ (powerChanged s).sgc.steamDemand = s.sgc.steamDemand ∧
    (powerChanged s).sgc.derate = s.sgc.derate ∧ (powerChanged s).sgc.pumpDrive = s.sgc.pumpDrive ∧
    (powerChanged s).sdu = s.sdu ∧ (powerChanged s).re.slotA = s.re.slotA ∧ (powerChanged s).re.slotB = s.re.slotB ∧
    (powerChanged s).re.running = s.re.running ∧ (powerChanged s).re.queued = s.re.queued ∧
    (powerChanged s).re.context = s.re.context ∧ (powerChanged s).re.repeats = s.re.repeats ∧
    (powerChanged s).pu = s.pu := by
  simp [powerChanged]

@[simp] theorem wakeFromStandby_keeps (s : State) :
    (wakeFromStandby s).pending = s.pending ∧ (wakeFromStandby s).run = s.run ∧
    (wakeFromStandby s).config = s.config ∧ (wakeFromStandby s).store = s.store ∧
    (wakeFromStandby s).second = s.second ∧ (wakeFromStandby s).freeUses = s.freeUses ∧
    (wakeFromStandby s).link.rx = s.link.rx ∧ (wakeFromStandby s).link.tx = s.link.tx ∧
    (wakeFromStandby s).link.confirmation = s.link.confirmation ∧ (wakeFromStandby s).link.latch = s.link.latch ∧
    (wakeFromStandby s).link.lost = s.link.lost ∧ (wakeFromStandby s).link.lfsr = s.link.lfsr ∧
    (wakeFromStandby s).link.restartOwed = s.link.restartOwed ∧
    (wakeFromStandby s).od.restartPending = s.od.restartPending ∧ (wakeFromStandby s).od.cycle = s.od.cycle ∧
    (wakeFromStandby s).od.cycleTimer = s.od.cycleTimer ∧ (wakeFromStandby s).od.eventsTimer = s.od.eventsTimer ∧
    (wakeFromStandby s).od.diagTimer = s.od.diagTimer ∧ (wakeFromStandby s).ssu.peers = s.ssu.peers ∧
    (wakeFromStandby s).ssu.claim = s.ssu.claim ∧ (wakeFromStandby s).ssu.listenIn = s.ssu.listenIn ∧
    (wakeFromStandby s).ssu.period = s.ssu.period ∧ (wakeFromStandby s).lpd.drive = s.lpd.drive ∧
    (wakeFromStandby s).lpd.half = s.lpd.half ∧ (wakeFromStandby s).lpd.pool = s.lpd.pool ∧
    (wakeFromStandby s).lpd.shed = s.lpd.shed ∧ (wakeFromStandby s).lpd.gates = s.lpd.gates ∧
    (wakeFromStandby s).lpd.sinceCrossing = s.lpd.sinceCrossing ∧
    (wakeFromStandby s).lpd.loads.top = s.lpd.loads.top ∧
    (wakeFromStandby s).lpd.loads.bottom = s.lpd.loads.bottom ∧
    (wakeFromStandby s).lpd.loads.ring = s.lpd.loads.ring ∧ (wakeFromStandby s).mu = s.mu ∧
    (wakeFromStandby s).cr.owner = s.cr.owner ∧ (wakeFromStandby s).cr.request = s.cr.request ∧
    (wakeFromStandby s).cr.temperature = s.cr.temperature ∧ (wakeFromStandby s).cr.humidity = s.cr.humidity ∧
    (wakeFromStandby s).cr.ventOpen = s.cr.ventOpen ∧ (wakeFromStandby s).sgc.steamWanted = s.sgc.steamWanted ∧
    (wakeFromStandby s).sgc.steamDemand = s.sgc.steamDemand ∧ (wakeFromStandby s).sdu.hardness = s.sdu.hardness ∧
    (wakeFromStandby s).sdu.soakCount = s.sdu.soakCount ∧ (wakeFromStandby s).sdu.retry = s.sdu.retry ∧
    (wakeFromStandby s).sdu.failures = s.sdu.failures ∧ (wakeFromStandby s).re.slotA = s.re.slotA ∧
    (wakeFromStandby s).re.slotB = s.re.slotB ∧ (wakeFromStandby s).re.running = s.re.running ∧
    (wakeFromStandby s).re.queued = s.re.queued ∧ (wakeFromStandby s).re.context = s.re.context ∧
    (wakeFromStandby s).re.repeats = s.re.repeats ∧
    (wakeFromStandby s).pu.trips.cavityOvertemp = s.pu.trips.cavityOvertemp ∧
    (wakeFromStandby s).pu.trips.boilerDry = s.pu.trips.boilerDry ∧
    (wakeFromStandby s).pu.trips.sensor = s.pu.trips.sensor := by
  simp [wakeFromStandby]

@[simp] theorem wakeFromWindDown_keeps (s : State) :
    (wakeFromWindDown s).pending = s.pending ∧ (wakeFromWindDown s).run = s.run ∧
    (wakeFromWindDown s).config = s.config ∧ (wakeFromWindDown s).store = s.store ∧
    (wakeFromWindDown s).second = s.second ∧ (wakeFromWindDown s).freeUses = s.freeUses ∧
    (wakeFromWindDown s).link.rx = s.link.rx ∧ (wakeFromWindDown s).link.tx = s.link.tx ∧
    (wakeFromWindDown s).link.confirmation = s.link.confirmation ∧ (wakeFromWindDown s).link.latch = s.link.latch ∧
    (wakeFromWindDown s).link.lost = s.link.lost ∧ (wakeFromWindDown s).link.lfsr = s.link.lfsr ∧
    (wakeFromWindDown s).link.restartOwed = s.link.restartOwed ∧
    (wakeFromWindDown s).od.restartPending = s.od.restartPending ∧ (wakeFromWindDown s).od.cycle = s.od.cycle ∧
    (wakeFromWindDown s).od.cycleTimer = s.od.cycleTimer ∧ (wakeFromWindDown s).od.eventsTimer = s.od.eventsTimer ∧
    (wakeFromWindDown s).od.diagTimer = s.od.diagTimer ∧ (wakeFromWindDown s).ssu.peers = s.ssu.peers ∧
    (wakeFromWindDown s).ssu.claim = s.ssu.claim ∧ (wakeFromWindDown s).ssu.listenIn = s.ssu.listenIn ∧
    (wakeFromWindDown s).ssu.period = s.ssu.period ∧ (wakeFromWindDown s).lpd.drive = s.lpd.drive ∧
    (wakeFromWindDown s).lpd.half = s.lpd.half ∧ (wakeFromWindDown s).lpd.pool = s.lpd.pool ∧
    (wakeFromWindDown s).lpd.shed = s.lpd.shed ∧ (wakeFromWindDown s).lpd.gates = s.lpd.gates ∧
    (wakeFromWindDown s).lpd.sinceCrossing = s.lpd.sinceCrossing ∧
    (wakeFromWindDown s).lpd.loads.top = s.lpd.loads.top ∧
    (wakeFromWindDown s).lpd.loads.bottom = s.lpd.loads.bottom ∧
    (wakeFromWindDown s).lpd.loads.ring = s.lpd.loads.ring ∧ (wakeFromWindDown s).mu = s.mu ∧
    (wakeFromWindDown s).cr.owner = s.cr.owner ∧ (wakeFromWindDown s).cr.request = s.cr.request ∧
    (wakeFromWindDown s).cr.temperature = s.cr.temperature ∧ (wakeFromWindDown s).cr.humidity = s.cr.humidity ∧
    (wakeFromWindDown s).cr.ventOpen = s.cr.ventOpen ∧ (wakeFromWindDown s).sgc.steamWanted = s.sgc.steamWanted ∧
    (wakeFromWindDown s).sgc.steamDemand = s.sgc.steamDemand ∧ (wakeFromWindDown s).sdu.hardness = s.sdu.hardness ∧
    (wakeFromWindDown s).sdu.soakCount = s.sdu.soakCount ∧ (wakeFromWindDown s).sdu.retry = s.sdu.retry ∧
    (wakeFromWindDown s).sdu.failures = s.sdu.failures ∧ (wakeFromWindDown s).re.slotA = s.re.slotA ∧
    (wakeFromWindDown s).re.slotB = s.re.slotB ∧ (wakeFromWindDown s).re.running = s.re.running ∧
    (wakeFromWindDown s).re.queued = s.re.queued ∧ (wakeFromWindDown s).re.context = s.re.context ∧
    (wakeFromWindDown s).re.repeats = s.re.repeats ∧
    (wakeFromWindDown s).pu.trips.cavityOvertemp = s.pu.trips.cavityOvertemp ∧
    (wakeFromWindDown s).pu.trips.boilerDry = s.pu.trips.boilerDry ∧
    (wakeFromWindDown s).pu.trips.sensor = s.pu.trips.sensor := by
  simp [wakeFromWindDown]

@[simp] theorem wakeUp_keeps (s : State) :
    (wakeUp s).pending = s.pending ∧ (wakeUp s).run = s.run ∧ (wakeUp s).config = s.config ∧
    (wakeUp s).store = s.store ∧ (wakeUp s).second = s.second ∧ (wakeUp s).freeUses = s.freeUses ∧
    (wakeUp s).link.rx = s.link.rx ∧ (wakeUp s).link.tx = s.link.tx ∧
    (wakeUp s).link.confirmation = s.link.confirmation ∧ (wakeUp s).link.latch = s.link.latch ∧
    (wakeUp s).link.lost = s.link.lost ∧ (wakeUp s).link.lfsr = s.link.lfsr ∧
    (wakeUp s).link.restartOwed = s.link.restartOwed ∧ (wakeUp s).od.restartPending = s.od.restartPending ∧
    (wakeUp s).od.cycle = s.od.cycle ∧ (wakeUp s).od.cycleTimer = s.od.cycleTimer ∧
    (wakeUp s).od.eventsTimer = s.od.eventsTimer ∧ (wakeUp s).od.diagTimer = s.od.diagTimer ∧
    (wakeUp s).ssu.peers = s.ssu.peers ∧ (wakeUp s).ssu.claim = s.ssu.claim ∧
    (wakeUp s).ssu.listenIn = s.ssu.listenIn ∧ (wakeUp s).ssu.period = s.ssu.period ∧
    (wakeUp s).lpd.drive = s.lpd.drive ∧ (wakeUp s).lpd.half = s.lpd.half ∧ (wakeUp s).lpd.pool = s.lpd.pool ∧
    (wakeUp s).lpd.shed = s.lpd.shed ∧ (wakeUp s).lpd.gates = s.lpd.gates ∧
    (wakeUp s).lpd.sinceCrossing = s.lpd.sinceCrossing ∧ (wakeUp s).lpd.loads.top = s.lpd.loads.top ∧
    (wakeUp s).lpd.loads.bottom = s.lpd.loads.bottom ∧ (wakeUp s).lpd.loads.ring = s.lpd.loads.ring ∧
    (wakeUp s).mu = s.mu ∧ (wakeUp s).cr.owner = s.cr.owner ∧ (wakeUp s).cr.request = s.cr.request ∧
    (wakeUp s).cr.temperature = s.cr.temperature ∧ (wakeUp s).cr.humidity = s.cr.humidity ∧
    (wakeUp s).cr.ventOpen = s.cr.ventOpen ∧ (wakeUp s).sgc.steamWanted = s.sgc.steamWanted ∧
    (wakeUp s).sgc.steamDemand = s.sgc.steamDemand ∧ (wakeUp s).sdu.hardness = s.sdu.hardness ∧
    (wakeUp s).sdu.soakCount = s.sdu.soakCount ∧ (wakeUp s).sdu.retry = s.sdu.retry ∧
    (wakeUp s).sdu.failures = s.sdu.failures ∧ (wakeUp s).re.slotA = s.re.slotA ∧ (wakeUp s).re.slotB = s.re.slotB ∧
    (wakeUp s).re.running = s.re.running ∧ (wakeUp s).re.queued = s.re.queued ∧
    (wakeUp s).re.context = s.re.context ∧ (wakeUp s).re.repeats = s.re.repeats ∧
    (wakeUp s).pu.trips.cavityOvertemp = s.pu.trips.cavityOvertemp ∧
    (wakeUp s).pu.trips.boilerDry = s.pu.trips.boilerDry ∧ (wakeUp s).pu.trips.sensor = s.pu.trips.sensor := by
  unfold wakeUp; (repeat' split) <;> simp

@[simp] theorem windDown_keeps (s : State) :
    (windDown s).pending = s.pending ∧ (windDown s).run = s.run ∧ (windDown s).config = s.config ∧
    (windDown s).store = s.store ∧ (windDown s).second = s.second ∧ (windDown s).freeUses = s.freeUses ∧
    (windDown s).link.rx = s.link.rx ∧ (windDown s).link.tx = s.link.tx ∧
    (windDown s).link.confirmation = s.link.confirmation ∧ (windDown s).link.latch = s.link.latch ∧
    (windDown s).link.lost = s.link.lost ∧ (windDown s).link.lfsr = s.link.lfsr ∧
    (windDown s).link.restartOwed = s.link.restartOwed ∧ (windDown s).od.restartPending = s.od.restartPending ∧
    (windDown s).od.cycle = s.od.cycle ∧ (windDown s).od.cycleTimer = s.od.cycleTimer ∧
    (windDown s).od.eventsTimer = s.od.eventsTimer ∧ (windDown s).od.diagTimer = s.od.diagTimer ∧
    (windDown s).ssu.peers = s.ssu.peers ∧ (windDown s).ssu.claim = s.ssu.claim ∧
    (windDown s).ssu.listenIn = s.ssu.listenIn ∧ (windDown s).ssu.period = s.ssu.period ∧
    (windDown s).lpd.drive = s.lpd.drive ∧ (windDown s).lpd.half = s.lpd.half ∧
    (windDown s).lpd.loads.top = s.lpd.loads.top ∧ (windDown s).lpd.loads.bottom = s.lpd.loads.bottom ∧
    (windDown s).lpd.loads.ring = s.lpd.loads.ring ∧ (windDown s).lpd.pool = s.lpd.pool ∧
    (windDown s).lpd.shed = s.lpd.shed ∧ (windDown s).lpd.gates = s.lpd.gates ∧
    (windDown s).lpd.sinceCrossing = s.lpd.sinceCrossing ∧ (windDown s).mu = s.mu ∧
    (windDown s).cr.owner = s.cr.owner ∧ (windDown s).cr.request = s.cr.request ∧
    (windDown s).cr.temperature = s.cr.temperature ∧ (windDown s).cr.humidity = s.cr.humidity ∧
    (windDown s).cr.ventOpen = s.cr.ventOpen ∧ (windDown s).sgc.user = s.sgc.user ∧
    (windDown s).sgc.steamWanted = s.sgc.steamWanted ∧ (windDown s).sgc.steamDemand = s.sgc.steamDemand ∧
    (windDown s).sgc.derate = s.sgc.derate ∧ (windDown s).sgc.pumpDrive = s.sgc.pumpDrive ∧
    (windDown s).sdu = s.sdu ∧ (windDown s).re.slotA = s.re.slotA ∧ (windDown s).re.slotB = s.re.slotB ∧
    (windDown s).re.running = s.re.running ∧ (windDown s).re.queued = s.re.queued ∧
    (windDown s).re.context = s.re.context ∧ (windDown s).re.repeats = s.re.repeats ∧ (windDown s).pu = s.pu := by
  simp [windDown]

@[simp] theorem enterStandby_keeps (s : State) :
    (enterStandby s).pending = s.pending ∧ (enterStandby s).run = s.run ∧ (enterStandby s).config = s.config ∧
    (enterStandby s).store = s.store ∧ (enterStandby s).second = s.second ∧ (enterStandby s).freeUses = s.freeUses ∧
    (enterStandby s).link.rx = s.link.rx ∧ (enterStandby s).link.tx = s.link.tx ∧
    (enterStandby s).link.confirmation = s.link.confirmation ∧ (enterStandby s).link.latch = s.link.latch ∧
    (enterStandby s).link.lost = s.link.lost ∧ (enterStandby s).link.lfsr = s.link.lfsr ∧
    (enterStandby s).link.silence = s.link.silence ∧ (enterStandby s).link.restartOwed = s.link.restartOwed ∧
    (enterStandby s).od.restartPending = s.od.restartPending ∧ (enterStandby s).od.cycle = s.od.cycle ∧
    (enterStandby s).od.cycleTimer = s.od.cycleTimer ∧ (enterStandby s).od.eventsTimer = s.od.eventsTimer ∧
    (enterStandby s).od.diagTimer = s.od.diagTimer ∧ (enterStandby s).ssu.peers = s.ssu.peers ∧
    (enterStandby s).ssu.listenIn = s.ssu.listenIn ∧ (enterStandby s).ssu.period = s.ssu.period ∧
    (enterStandby s).lpd.drive = s.lpd.drive ∧ (enterStandby s).lpd.half = s.lpd.half ∧
    (enterStandby s).lpd.loads.top = s.lpd.loads.top ∧ (enterStandby s).lpd.loads.bottom = s.lpd.loads.bottom ∧
    (enterStandby s).lpd.loads.ring = s.lpd.loads.ring ∧ (enterStandby s).lpd.pool = s.lpd.pool ∧
    (enterStandby s).lpd.shed = s.lpd.shed ∧ (enterStandby s).lpd.gates = s.lpd.gates ∧
    (enterStandby s).lpd.sinceCrossing = s.lpd.sinceCrossing ∧ (enterStandby s).mu = s.mu ∧
    (enterStandby s).cr.owner = s.cr.owner ∧ (enterStandby s).cr.request = s.cr.request ∧
    (enterStandby s).cr.temperature = s.cr.temperature ∧ (enterStandby s).cr.humidity = s.cr.humidity ∧
    (enterStandby s).cr.ventOpen = s.cr.ventOpen ∧ (enterStandby s).sgc.user = s.sgc.user ∧
    (enterStandby s).sgc.steamWanted = s.sgc.steamWanted ∧ (enterStandby s).sgc.steamDemand = s.sgc.steamDemand ∧
    (enterStandby s).sgc.derate = s.sgc.derate ∧ (enterStandby s).sgc.pumpDrive = s.sgc.pumpDrive ∧
    (enterStandby s).sdu = s.sdu ∧ (enterStandby s).re.slotA = s.re.slotA ∧ (enterStandby s).re.slotB = s.re.slotB ∧
    (enterStandby s).re.running = s.re.running ∧ (enterStandby s).re.queued = s.re.queued ∧
    (enterStandby s).re.context = s.re.context ∧ (enterStandby s).re.repeats = s.re.repeats ∧
    (enterStandby s).pu = s.pu := by
  simp [enterStandby]

@[simp] theorem endWindDown_keeps (s : State) :
    (endWindDown s).pending = s.pending ∧ (endWindDown s).run = s.run ∧ (endWindDown s).config = s.config ∧
    (endWindDown s).store = s.store ∧ (endWindDown s).second = s.second ∧ (endWindDown s).freeUses = s.freeUses ∧
    (endWindDown s).link.rx = s.link.rx ∧ (endWindDown s).link.tx = s.link.tx ∧
    (endWindDown s).link.confirmation = s.link.confirmation ∧ (endWindDown s).link.latch = s.link.latch ∧
    (endWindDown s).link.lost = s.link.lost ∧ (endWindDown s).link.lfsr = s.link.lfsr ∧
    (endWindDown s).link.silence = s.link.silence ∧ (endWindDown s).link.restartOwed = s.link.restartOwed ∧
    (endWindDown s).od.restartPending = s.od.restartPending ∧ (endWindDown s).od.cycle = s.od.cycle ∧
    (endWindDown s).od.cycleTimer = s.od.cycleTimer ∧ (endWindDown s).od.eventsTimer = s.od.eventsTimer ∧
    (endWindDown s).od.diagTimer = s.od.diagTimer ∧ (endWindDown s).ssu.peers = s.ssu.peers ∧
    (endWindDown s).ssu.listenIn = s.ssu.listenIn ∧ (endWindDown s).ssu.period = s.ssu.period ∧
    (endWindDown s).lpd.drive = s.lpd.drive ∧ (endWindDown s).lpd.half = s.lpd.half ∧
    (endWindDown s).lpd.loads.top = s.lpd.loads.top ∧ (endWindDown s).lpd.loads.bottom = s.lpd.loads.bottom ∧
    (endWindDown s).lpd.loads.ring = s.lpd.loads.ring ∧ (endWindDown s).lpd.pool = s.lpd.pool ∧
    (endWindDown s).lpd.shed = s.lpd.shed ∧ (endWindDown s).lpd.gates = s.lpd.gates ∧
    (endWindDown s).lpd.sinceCrossing = s.lpd.sinceCrossing ∧ (endWindDown s).mu = s.mu ∧
    (endWindDown s).cr.owner = s.cr.owner ∧ (endWindDown s).cr.request = s.cr.request ∧
    (endWindDown s).cr.temperature = s.cr.temperature ∧ (endWindDown s).cr.humidity = s.cr.humidity ∧
    (endWindDown s).cr.ventOpen = s.cr.ventOpen ∧ (endWindDown s).sgc.user = s.sgc.user ∧
    (endWindDown s).sgc.steamWanted = s.sgc.steamWanted ∧ (endWindDown s).sgc.steamDemand = s.sgc.steamDemand ∧
    (endWindDown s).sgc.derate = s.sgc.derate ∧ (endWindDown s).sgc.pumpDrive = s.sgc.pumpDrive ∧
    (endWindDown s).sdu = s.sdu ∧ (endWindDown s).re.slotA = s.re.slotA ∧ (endWindDown s).re.slotB = s.re.slotB ∧
    (endWindDown s).re.running = s.re.running ∧ (endWindDown s).re.queued = s.re.queued ∧
    (endWindDown s).re.context = s.re.context ∧ (endWindDown s).re.repeats = s.re.repeats ∧
    (endWindDown s).pu = s.pu := by
  unfold endWindDown; (repeat' split) <;> simp

@[simp] theorem conclude_keeps (s : State) :
    (conclude s).pending = s.pending ∧ (conclude s).run = s.run ∧ (conclude s).config = s.config ∧
    (conclude s).store = s.store ∧ (conclude s).second = s.second ∧ (conclude s).freeUses = s.freeUses ∧
    (conclude s).link.rx = s.link.rx ∧ (conclude s).link.tx = s.link.tx ∧
    (conclude s).link.confirmation = s.link.confirmation ∧ (conclude s).link.latch = s.link.latch ∧
    (conclude s).link.lost = s.link.lost ∧ (conclude s).link.lfsr = s.link.lfsr ∧
    (conclude s).link.silence = s.link.silence ∧ (conclude s).link.restartOwed = s.link.restartOwed ∧
    (conclude s).od.restartPending = s.od.restartPending ∧ (conclude s).od.cycle = s.od.cycle ∧
    (conclude s).od.cycleTimer = s.od.cycleTimer ∧ (conclude s).od.diagTimer = s.od.diagTimer ∧
    (conclude s).ssu.peers = s.ssu.peers ∧ (conclude s).ssu.listenIn = s.ssu.listenIn ∧
    (conclude s).ssu.period = s.ssu.period ∧ (conclude s).lpd.drive = s.lpd.drive ∧
    (conclude s).lpd.half = s.lpd.half ∧ (conclude s).lpd.loads.top = s.lpd.loads.top ∧
    (conclude s).lpd.loads.bottom = s.lpd.loads.bottom ∧ (conclude s).lpd.loads.ring = s.lpd.loads.ring ∧
    (conclude s).lpd.pool = s.lpd.pool ∧ (conclude s).lpd.shed = s.lpd.shed ∧ (conclude s).lpd.gates = s.lpd.gates ∧
    (conclude s).lpd.sinceCrossing = s.lpd.sinceCrossing ∧ (conclude s).mu = s.mu ∧
    (conclude s).cr.owner = s.cr.owner ∧ (conclude s).cr.request = s.cr.request ∧
    (conclude s).cr.temperature = s.cr.temperature ∧ (conclude s).cr.humidity = s.cr.humidity ∧
    (conclude s).cr.ventOpen = s.cr.ventOpen ∧ (conclude s).sgc.user = s.sgc.user ∧
    (conclude s).sgc.steamWanted = s.sgc.steamWanted ∧ (conclude s).sgc.steamDemand = s.sgc.steamDemand ∧
    (conclude s).sgc.derate = s.sgc.derate ∧ (conclude s).sgc.pumpDrive = s.sgc.pumpDrive ∧
    (conclude s).sdu = s.sdu ∧ (conclude s).re.slotA = s.re.slotA ∧ (conclude s).re.slotB = s.re.slotB ∧
    (conclude s).re.running = s.re.running ∧ (conclude s).re.queued = s.re.queued ∧
    (conclude s).re.context = s.re.context ∧ (conclude s).re.repeats = s.re.repeats ∧ (conclude s).pu = s.pu := by
  simp [conclude]

@[simp] theorem consoleLost_keeps (s : State) :
    (consoleLost s).pending = s.pending ∧ (consoleLost s).run = s.run ∧ (consoleLost s).config = s.config ∧
    (consoleLost s).store = s.store ∧ (consoleLost s).second = s.second ∧ (consoleLost s).freeUses = s.freeUses ∧
    (consoleLost s).link.rx = s.link.rx ∧ (consoleLost s).link.tx = s.link.tx ∧
    (consoleLost s).link.confirmation = s.link.confirmation ∧ (consoleLost s).link.latch = s.link.latch ∧
    (consoleLost s).link.lost = s.link.lost ∧ (consoleLost s).link.lfsr = s.link.lfsr ∧
    (consoleLost s).link.restartOwed = s.link.restartOwed ∧
    (consoleLost s).od.restartPending = s.od.restartPending ∧ (consoleLost s).od.cycle = s.od.cycle ∧
    (consoleLost s).od.cycleTimer = s.od.cycleTimer ∧ (consoleLost s).od.eventsTimer = s.od.eventsTimer ∧
    (consoleLost s).od.diagTimer = s.od.diagTimer ∧ (consoleLost s).ssu.peers = s.ssu.peers ∧
    (consoleLost s).ssu.claim = s.ssu.claim ∧ (consoleLost s).ssu.listenIn = s.ssu.listenIn ∧
    (consoleLost s).ssu.period = s.ssu.period ∧ (consoleLost s).lpd.drive = s.lpd.drive ∧
    (consoleLost s).lpd.half = s.lpd.half ∧ (consoleLost s).lpd.pool = s.lpd.pool ∧
    (consoleLost s).lpd.shed = s.lpd.shed ∧ (consoleLost s).lpd.gates = s.lpd.gates ∧
    (consoleLost s).lpd.sinceCrossing = s.lpd.sinceCrossing ∧ (consoleLost s).mu = s.mu ∧
    (consoleLost s).sdu.hardness = s.sdu.hardness ∧ (consoleLost s).sdu.soakCount = s.sdu.soakCount ∧
    (consoleLost s).sdu.retry = s.sdu.retry ∧ (consoleLost s).sdu.failures = s.sdu.failures ∧
    (consoleLost s).pu.trips.cavityOvertemp = s.pu.trips.cavityOvertemp ∧
    (consoleLost s).pu.trips.boilerDry = s.pu.trips.boilerDry ∧ (consoleLost s).pu.trips.sensor = s.pu.trips.sensor := by
  unfold consoleLost; dsimp only; (repeat' split) <;> simp

@[simp] theorem unlockTrip_keeps (s : State) :
    (unlockTrip s).pending = s.pending ∧ (unlockTrip s).run = s.run ∧ (unlockTrip s).config = s.config ∧
    (unlockTrip s).store = s.store ∧ (unlockTrip s).second = s.second ∧ (unlockTrip s).freeUses = s.freeUses ∧
    (unlockTrip s).link = s.link ∧ (unlockTrip s).od.power = s.od.power ∧
    (unlockTrip s).od.restartPending = s.od.restartPending ∧ (unlockTrip s).od.cycle = s.od.cycle ∧
    (unlockTrip s).od.cycleTimer = s.od.cycleTimer ∧ (unlockTrip s).od.eventsTimer = s.od.eventsTimer ∧
    (unlockTrip s).od.diagTimer = s.od.diagTimer ∧ (unlockTrip s).ssu.peers = s.ssu.peers ∧
    (unlockTrip s).ssu.claim = s.ssu.claim ∧ (unlockTrip s).ssu.announced = s.ssu.announced ∧
    (unlockTrip s).ssu.raise = s.ssu.raise ∧ (unlockTrip s).ssu.lastA = s.ssu.lastA ∧
    (unlockTrip s).ssu.lastW = s.ssu.lastW ∧ (unlockTrip s).ssu.lastFo = s.ssu.lastFo ∧
    (unlockTrip s).ssu.contention = s.ssu.contention ∧ (unlockTrip s).ssu.listenIn = s.ssu.listenIn ∧
    (unlockTrip s).ssu.period = s.ssu.period ∧ (unlockTrip s).lpd.drive = s.lpd.drive ∧
    (unlockTrip s).lpd.half = s.lpd.half ∧ (unlockTrip s).lpd.pool = s.lpd.pool ∧
    (unlockTrip s).lpd.shed = s.lpd.shed ∧ (unlockTrip s).lpd.gates = s.lpd.gates ∧
    (unlockTrip s).lpd.sinceCrossing = s.lpd.sinceCrossing ∧ (unlockTrip s).lpd.loads.top = s.lpd.loads.top ∧
    (unlockTrip s).lpd.loads.bottom = s.lpd.loads.bottom ∧ (unlockTrip s).lpd.loads.ring = s.lpd.loads.ring ∧
    (unlockTrip s).mu = s.mu ∧ (unlockTrip s).cr = s.cr ∧ (unlockTrip s).sgc.steamWanted = s.sgc.steamWanted ∧
    (unlockTrip s).sgc.steamDemand = s.sgc.steamDemand ∧ (unlockTrip s).sdu.hardness = s.sdu.hardness ∧
    (unlockTrip s).sdu.soakCount = s.sdu.soakCount ∧ (unlockTrip s).sdu.retry = s.sdu.retry ∧
    (unlockTrip s).sdu.failures = s.sdu.failures ∧ (unlockTrip s).re.slotA = s.re.slotA ∧
    (unlockTrip s).re.slotB = s.re.slotB ∧ (unlockTrip s).re.running = s.re.running ∧
    (unlockTrip s).re.queued = s.re.queued ∧ (unlockTrip s).re.context = s.re.context ∧
    (unlockTrip s).re.repeats = s.re.repeats ∧ (unlockTrip s).pu.trips.cavityOvertemp = s.pu.trips.cavityOvertemp ∧
    (unlockTrip s).pu.trips.boilerDry = s.pu.trips.boilerDry ∧ (unlockTrip s).pu.trips.sensor = s.pu.trips.sensor := by
  simp [unlockTrip]

@[simp] theorem releaseBoiler_keeps (s : State) :
    (releaseBoiler s).pending = s.pending ∧ (releaseBoiler s).run = s.run ∧ (releaseBoiler s).config = s.config ∧
    (releaseBoiler s).store = s.store ∧ (releaseBoiler s).second = s.second ∧
    (releaseBoiler s).freeUses = s.freeUses ∧ (releaseBoiler s).link = s.link ∧
    (releaseBoiler s).od.power = s.od.power ∧ (releaseBoiler s).od.restartPending = s.od.restartPending ∧
    (releaseBoiler s).od.cycle = s.od.cycle ∧ (releaseBoiler s).od.cycleTimer = s.od.cycleTimer ∧
    (releaseBoiler s).od.eventsTimer = s.od.eventsTimer ∧ (releaseBoiler s).od.diagTimer = s.od.diagTimer ∧
    (releaseBoiler s).ssu.peers = s.ssu.peers ∧ (releaseBoiler s).ssu.claim = s.ssu.claim ∧
    (releaseBoiler s).ssu.announced = s.ssu.announced ∧ (releaseBoiler s).ssu.raise = s.ssu.raise ∧
    (releaseBoiler s).ssu.lastA = s.ssu.lastA ∧ (releaseBoiler s).ssu.lastW = s.ssu.lastW ∧
    (releaseBoiler s).ssu.lastFo = s.ssu.lastFo ∧ (releaseBoiler s).ssu.contention = s.ssu.contention ∧
    (releaseBoiler s).ssu.listenIn = s.ssu.listenIn ∧ (releaseBoiler s).ssu.period = s.ssu.period ∧
    (releaseBoiler s).lpd.drive = s.lpd.drive ∧ (releaseBoiler s).lpd.half = s.lpd.half ∧
    (releaseBoiler s).lpd.pool = s.lpd.pool ∧ (releaseBoiler s).lpd.shed = s.lpd.shed ∧
    (releaseBoiler s).lpd.gates = s.lpd.gates ∧ (releaseBoiler s).lpd.sinceCrossing = s.lpd.sinceCrossing ∧
    (releaseBoiler s).lpd.loads.top = s.lpd.loads.top ∧ (releaseBoiler s).lpd.loads.bottom = s.lpd.loads.bottom ∧
    (releaseBoiler s).lpd.loads.ring = s.lpd.loads.ring ∧ (releaseBoiler s).mu = s.mu ∧
    (releaseBoiler s).cr = s.cr ∧ (releaseBoiler s).sdu.hardness = s.sdu.hardness ∧
    (releaseBoiler s).sdu.soakCount = s.sdu.soakCount ∧ (releaseBoiler s).sdu.retry = s.sdu.retry ∧
    (releaseBoiler s).sdu.failures = s.sdu.failures ∧ (releaseBoiler s).re.slotA = s.re.slotA ∧
    (releaseBoiler s).re.slotB = s.re.slotB ∧ (releaseBoiler s).re.running = s.re.running ∧
    (releaseBoiler s).re.queued = s.re.queued ∧ (releaseBoiler s).re.context = s.re.context ∧
    (releaseBoiler s).re.repeats = s.re.repeats ∧
    (releaseBoiler s).pu.trips.cavityOvertemp = s.pu.trips.cavityOvertemp ∧
    (releaseBoiler s).pu.trips.boilerDry = s.pu.trips.boilerDry ∧
    (releaseBoiler s).pu.trips.sensor = s.pu.trips.sensor := by
  unfold releaseBoiler; (repeat' split) <;> simp

@[simp] theorem tellRemoved_keeps (k : Trip) (s : State) :
    (tellRemoved k s).pending = s.pending ∧ (tellRemoved k s).run = s.run ∧ (tellRemoved k s).config = s.config ∧
    (tellRemoved k s).store = s.store ∧ (tellRemoved k s).second = s.second ∧
    (tellRemoved k s).freeUses = s.freeUses ∧ (tellRemoved k s).link = s.link ∧
    (tellRemoved k s).od.power = s.od.power ∧ (tellRemoved k s).od.restartPending = s.od.restartPending ∧
    (tellRemoved k s).od.cycle = s.od.cycle ∧ (tellRemoved k s).od.cycleTimer = s.od.cycleTimer ∧
    (tellRemoved k s).od.eventsTimer = s.od.eventsTimer ∧ (tellRemoved k s).od.diagTimer = s.od.diagTimer ∧
    (tellRemoved k s).ssu.peers = s.ssu.peers ∧ (tellRemoved k s).ssu.claim = s.ssu.claim ∧
    (tellRemoved k s).ssu.announced = s.ssu.announced ∧ (tellRemoved k s).ssu.raise = s.ssu.raise ∧
    (tellRemoved k s).ssu.lastA = s.ssu.lastA ∧ (tellRemoved k s).ssu.lastW = s.ssu.lastW ∧
    (tellRemoved k s).ssu.lastFo = s.ssu.lastFo ∧ (tellRemoved k s).ssu.contention = s.ssu.contention ∧
    (tellRemoved k s).ssu.listenIn = s.ssu.listenIn ∧ (tellRemoved k s).ssu.period = s.ssu.period ∧
    (tellRemoved k s).lpd.drive = s.lpd.drive ∧ (tellRemoved k s).lpd.half = s.lpd.half ∧
    (tellRemoved k s).lpd.pool = s.lpd.pool ∧ (tellRemoved k s).lpd.shed = s.lpd.shed ∧
    (tellRemoved k s).lpd.gates = s.lpd.gates ∧ (tellRemoved k s).lpd.sinceCrossing = s.lpd.sinceCrossing ∧
    (tellRemoved k s).mu = s.mu ∧ (tellRemoved k s).sdu.hardness = s.sdu.hardness ∧
    (tellRemoved k s).sdu.soakCount = s.sdu.soakCount ∧ (tellRemoved k s).sdu.retry = s.sdu.retry ∧
    (tellRemoved k s).sdu.failures = s.sdu.failures ∧ (tellRemoved k s).re.slotA = s.re.slotA ∧
    (tellRemoved k s).re.slotB = s.re.slotB ∧ (tellRemoved k s).re.running = s.re.running ∧
    (tellRemoved k s).re.queued = s.re.queued ∧ (tellRemoved k s).re.context = s.re.context ∧
    (tellRemoved k s).re.repeats = s.re.repeats ∧
    (tellRemoved k s).pu.trips.cavityOvertemp = s.pu.trips.cavityOvertemp ∧
    (tellRemoved k s).pu.trips.boilerDry = s.pu.trips.boilerDry ∧
    (tellRemoved k s).pu.trips.sensor = s.pu.trips.sensor := by
  unfold tellRemoved; (repeat' split) <;> simp

@[simp] theorem clearOne_keeps (k : Trip) (s : State) :
    (clearOne k s).pending = s.pending ∧ (clearOne k s).run = s.run ∧ (clearOne k s).config = s.config ∧
    (clearOne k s).store = s.store ∧ (clearOne k s).second = s.second ∧ (clearOne k s).freeUses = s.freeUses ∧
    (clearOne k s).link = s.link ∧ (clearOne k s).od.power = s.od.power ∧
    (clearOne k s).od.restartPending = s.od.restartPending ∧ (clearOne k s).od.cycle = s.od.cycle ∧
    (clearOne k s).od.cycleTimer = s.od.cycleTimer ∧ (clearOne k s).od.eventsTimer = s.od.eventsTimer ∧
    (clearOne k s).od.diagTimer = s.od.diagTimer ∧ (clearOne k s).ssu.peers = s.ssu.peers ∧
    (clearOne k s).ssu.claim = s.ssu.claim ∧ (clearOne k s).ssu.announced = s.ssu.announced ∧
    (clearOne k s).ssu.raise = s.ssu.raise ∧ (clearOne k s).ssu.lastA = s.ssu.lastA ∧
    (clearOne k s).ssu.lastW = s.ssu.lastW ∧ (clearOne k s).ssu.lastFo = s.ssu.lastFo ∧
    (clearOne k s).ssu.contention = s.ssu.contention ∧ (clearOne k s).ssu.listenIn = s.ssu.listenIn ∧
    (clearOne k s).ssu.period = s.ssu.period ∧ (clearOne k s).lpd.drive = s.lpd.drive ∧
    (clearOne k s).lpd.half = s.lpd.half ∧ (clearOne k s).lpd.pool = s.lpd.pool ∧
    (clearOne k s).lpd.shed = s.lpd.shed ∧ (clearOne k s).lpd.gates = s.lpd.gates ∧
    (clearOne k s).lpd.sinceCrossing = s.lpd.sinceCrossing ∧ (clearOne k s).mu = s.mu ∧
    (clearOne k s).sdu.hardness = s.sdu.hardness ∧ (clearOne k s).sdu.soakCount = s.sdu.soakCount ∧
    (clearOne k s).sdu.retry = s.sdu.retry ∧ (clearOne k s).sdu.failures = s.sdu.failures ∧
    (clearOne k s).re.slotA = s.re.slotA ∧ (clearOne k s).re.slotB = s.re.slotB ∧
    (clearOne k s).re.running = s.re.running ∧ (clearOne k s).re.queued = s.re.queued ∧
    (clearOne k s).re.context = s.re.context ∧ (clearOne k s).re.repeats = s.re.repeats := by
  unfold clearOne; (repeat' split) <;> simp

@[simp] theorem clearTrips_keeps (s : State) :
    (clearTrips s).pending = s.pending ∧ (clearTrips s).run = s.run ∧ (clearTrips s).config = s.config ∧
    (clearTrips s).store = s.store ∧ (clearTrips s).second = s.second ∧ (clearTrips s).freeUses = s.freeUses ∧
    (clearTrips s).link = s.link ∧ (clearTrips s).od.power = s.od.power ∧
    (clearTrips s).od.restartPending = s.od.restartPending ∧ (clearTrips s).od.cycle = s.od.cycle ∧
    (clearTrips s).od.cycleTimer = s.od.cycleTimer ∧ (clearTrips s).od.eventsTimer = s.od.eventsTimer ∧
    (clearTrips s).od.diagTimer = s.od.diagTimer ∧ (clearTrips s).ssu.peers = s.ssu.peers ∧
    (clearTrips s).ssu.claim = s.ssu.claim ∧ (clearTrips s).ssu.announced = s.ssu.announced ∧
    (clearTrips s).ssu.raise = s.ssu.raise ∧ (clearTrips s).ssu.lastA = s.ssu.lastA ∧
    (clearTrips s).ssu.lastW = s.ssu.lastW ∧ (clearTrips s).ssu.lastFo = s.ssu.lastFo ∧
    (clearTrips s).ssu.contention = s.ssu.contention ∧ (clearTrips s).ssu.listenIn = s.ssu.listenIn ∧
    (clearTrips s).ssu.period = s.ssu.period ∧ (clearTrips s).lpd.drive = s.lpd.drive ∧
    (clearTrips s).lpd.half = s.lpd.half ∧ (clearTrips s).lpd.pool = s.lpd.pool ∧
    (clearTrips s).lpd.shed = s.lpd.shed ∧ (clearTrips s).lpd.gates = s.lpd.gates ∧
    (clearTrips s).lpd.sinceCrossing = s.lpd.sinceCrossing ∧ (clearTrips s).mu = s.mu ∧
    (clearTrips s).sdu.hardness = s.sdu.hardness ∧ (clearTrips s).sdu.soakCount = s.sdu.soakCount ∧
    (clearTrips s).sdu.retry = s.sdu.retry ∧ (clearTrips s).sdu.failures = s.sdu.failures ∧
    (clearTrips s).re.slotA = s.re.slotA ∧ (clearTrips s).re.slotB = s.re.slotB ∧
    (clearTrips s).re.running = s.re.running ∧ (clearTrips s).re.queued = s.re.queued ∧
    (clearTrips s).re.context = s.re.context ∧ (clearTrips s).re.repeats = s.re.repeats := by
  simp [clearTrips]

@[simp] theorem restartLink_keeps (s : State) :
    (restartLink s).pending = s.pending ∧ (restartLink s).run = s.run ∧ (restartLink s).config = s.config ∧
    (restartLink s).store = s.store ∧ (restartLink s).second = s.second ∧ (restartLink s).freeUses = s.freeUses ∧
    (restartLink s).link.confirmation = s.link.confirmation ∧ (restartLink s).link.lfsr = s.link.lfsr ∧
    (restartLink s).od = s.od ∧ (restartLink s).ssu = s.ssu ∧ (restartLink s).lpd = s.lpd ∧
    (restartLink s).mu = s.mu ∧ (restartLink s).cr = s.cr ∧ (restartLink s).sgc = s.sgc ∧
    (restartLink s).sdu = s.sdu ∧ (restartLink s).re = s.re ∧ (restartLink s).pu = s.pu := by
  simp [restartLink]

@[simp] theorem restartDecoder_keeps (s : State) :
    (restartDecoder s).pending = s.pending ∧ (restartDecoder s).run = s.run ∧ (restartDecoder s).config = s.config ∧
    (restartDecoder s).store = s.store ∧ (restartDecoder s).second = s.second ∧
    (restartDecoder s).freeUses = s.freeUses ∧ (restartDecoder s).link = s.link ∧ (restartDecoder s).ssu = s.ssu ∧
    (restartDecoder s).lpd = s.lpd ∧ (restartDecoder s).mu = s.mu ∧ (restartDecoder s).cr = s.cr ∧
    (restartDecoder s).sgc = s.sgc ∧ (restartDecoder s).sdu = s.sdu ∧ (restartDecoder s).re = s.re ∧
    (restartDecoder s).pu = s.pu := by
  simp [restartDecoder]

@[simp] theorem restartSupply_keeps (s : State) :
    (restartSupply s).pending = s.pending ∧ (restartSupply s).run = s.run ∧ (restartSupply s).config = s.config ∧
    (restartSupply s).store = s.store ∧ (restartSupply s).second = s.second ∧
    (restartSupply s).freeUses = s.freeUses ∧ (restartSupply s).link = s.link ∧ (restartSupply s).od = s.od ∧
    (restartSupply s).ssu.peers = s.ssu.peers ∧ (restartSupply s).ssu.listenIn = s.ssu.listenIn ∧
    (restartSupply s).lpd = s.lpd ∧ (restartSupply s).mu = s.mu ∧ (restartSupply s).cr = s.cr ∧
    (restartSupply s).sgc = s.sgc ∧ (restartSupply s).sdu = s.sdu ∧ (restartSupply s).re = s.re ∧
    (restartSupply s).pu = s.pu := by
  unfold restartSupply; (repeat' split) <;> simp

@[simp] theorem restartPlanner_keeps (s : State) :
    (restartPlanner s).pending = s.pending ∧ (restartPlanner s).run = s.run ∧ (restartPlanner s).config = s.config ∧
    (restartPlanner s).store = s.store ∧ (restartPlanner s).second = s.second ∧
    (restartPlanner s).freeUses = s.freeUses ∧ (restartPlanner s).link = s.link ∧ (restartPlanner s).od = s.od ∧
    (restartPlanner s).ssu = s.ssu ∧ (restartPlanner s).lpd.drive = s.lpd.drive ∧
    (restartPlanner s).lpd.sinceCrossing = s.lpd.sinceCrossing ∧ (restartPlanner s).mu = s.mu ∧
    (restartPlanner s).cr = s.cr ∧ (restartPlanner s).sgc = s.sgc ∧ (restartPlanner s).sdu = s.sdu ∧
    (restartPlanner s).re = s.re ∧ (restartPlanner s).pu = s.pu := by
  simp [restartPlanner]

@[simp] theorem restartBoiler_keeps (s : State) :
    (restartBoiler s).pending = s.pending ∧ (restartBoiler s).run = s.run ∧ (restartBoiler s).config = s.config ∧
    (restartBoiler s).store = s.store ∧ (restartBoiler s).second = s.second ∧
    (restartBoiler s).freeUses = s.freeUses ∧ (restartBoiler s).link = s.link ∧ (restartBoiler s).od = s.od ∧
    (restartBoiler s).ssu = s.ssu ∧ (restartBoiler s).lpd = s.lpd ∧ (restartBoiler s).mu = s.mu ∧
    (restartBoiler s).cr = s.cr ∧ (restartBoiler s).sdu = s.sdu ∧ (restartBoiler s).re = s.re ∧
    (restartBoiler s).pu = s.pu := by
  unfold restartBoiler; (repeat' split) <;> simp

@[simp] theorem restartScale_keeps (s : State) :
    (restartScale s).pending = s.pending ∧ (restartScale s).run = s.run ∧ (restartScale s).config = s.config ∧
    (restartScale s).store = s.store ∧ (restartScale s).second = s.second ∧ (restartScale s).freeUses = s.freeUses ∧
    (restartScale s).link = s.link ∧ (restartScale s).od.power = s.od.power ∧
    (restartScale s).od.restartPending = s.od.restartPending ∧ (restartScale s).od.cycle = s.od.cycle ∧
    (restartScale s).od.cycleTimer = s.od.cycleTimer ∧ (restartScale s).od.eventsTimer = s.od.eventsTimer ∧
    (restartScale s).od.diagTimer = s.od.diagTimer ∧ (restartScale s).ssu = s.ssu ∧
    (restartScale s).lpd.drive = s.lpd.drive ∧ (restartScale s).lpd.half = s.lpd.half ∧
    (restartScale s).lpd.pool = s.lpd.pool ∧ (restartScale s).lpd.shed = s.lpd.shed ∧
    (restartScale s).lpd.gates = s.lpd.gates ∧ (restartScale s).lpd.sinceCrossing = s.lpd.sinceCrossing ∧
    (restartScale s).mu = s.mu ∧ (restartScale s).cr = s.cr ∧ (restartScale s).sgc.state = s.sgc.state ∧
    (restartScale s).sgc.steamWanted = s.sgc.steamWanted ∧ (restartScale s).sgc.steamDemand = s.sgc.steamDemand ∧
    (restartScale s).sgc.pulses = s.sgc.pulses ∧ (restartScale s).sgc.pulseTimer = s.sgc.pulseTimer ∧
    (restartScale s).sgc.pumpDrive = s.sgc.pumpDrive ∧ (restartScale s).sgc.wait = s.sgc.wait ∧
    (restartScale s).sgc.limitMark = s.sgc.limitMark ∧ (restartScale s).sgc.coolTime = s.sgc.coolTime ∧
    (restartScale s).sgc.drainCount = s.sgc.drainCount ∧ (restartScale s).sdu.hardness = s.sdu.hardness ∧
    (restartScale s).sdu.mark = s.sdu.mark ∧ (restartScale s).sdu.writing = s.sdu.writing ∧
    (restartScale s).sdu.writeTimer = s.sdu.writeTimer ∧
    (restartScale s).sdu.rewritePending = s.sdu.rewritePending ∧ (restartScale s).sdu.retry = s.sdu.retry ∧
    (restartScale s).re = s.re ∧ (restartScale s).pu = s.pu := by
  simp [restartScale]

@[simp] theorem restartProtection_keeps (s : State) :
    (restartProtection s).pending = s.pending ∧ (restartProtection s).run = s.run ∧
    (restartProtection s).config = s.config ∧ (restartProtection s).store = s.store ∧
    (restartProtection s).second = s.second ∧ (restartProtection s).freeUses = s.freeUses ∧
    (restartProtection s).link = s.link ∧ (restartProtection s).od = s.od ∧ (restartProtection s).ssu = s.ssu ∧
    (restartProtection s).lpd = s.lpd ∧ (restartProtection s).mu = s.mu ∧ (restartProtection s).cr = s.cr ∧
    (restartProtection s).sgc = s.sgc ∧ (restartProtection s).sdu = s.sdu ∧ (restartProtection s).re = s.re ∧
    (restartProtection s).pu.trips = s.pu.trips := by
  unfold restartProtection; (repeat' split) <;> simp

@[simp] theorem restartBlocks_keeps (s : State) :
    (restartBlocks s).pending = s.pending ∧ (restartBlocks s).run = s.run ∧ (restartBlocks s).config = s.config ∧
    (restartBlocks s).store = s.store ∧ (restartBlocks s).second = s.second ∧
    (restartBlocks s).freeUses = s.freeUses ∧ (restartBlocks s).link = s.link ∧
    (restartBlocks s).ssu.peers = s.ssu.peers ∧ (restartBlocks s).ssu.listenIn = s.ssu.listenIn ∧
    (restartBlocks s).lpd.drive = s.lpd.drive ∧ (restartBlocks s).lpd.sinceCrossing = s.lpd.sinceCrossing ∧
    (restartBlocks s).sdu.hardness = s.sdu.hardness ∧ (restartBlocks s).sdu.mark = s.sdu.mark ∧
    (restartBlocks s).sdu.writing = s.sdu.writing ∧ (restartBlocks s).sdu.writeTimer = s.sdu.writeTimer ∧
    (restartBlocks s).sdu.rewritePending = s.sdu.rewritePending ∧ (restartBlocks s).sdu.retry = s.sdu.retry ∧
    (restartBlocks s).pu.trips = s.pu.trips := by
  simp [restartBlocks]

@[simp] theorem restartEffect_keeps (s : State) :
    (restartEffect s).pending = s.pending ∧ (restartEffect s).run = s.run ∧ (restartEffect s).config = s.config ∧
    (restartEffect s).store = s.store ∧ (restartEffect s).second = s.second ∧
    (restartEffect s).freeUses = s.freeUses ∧ (restartEffect s).link.confirmation = s.link.confirmation ∧
    (restartEffect s).link.lfsr = s.link.lfsr ∧ (restartEffect s).ssu.peers = s.ssu.peers ∧
    (restartEffect s).ssu.listenIn = s.ssu.listenIn ∧ (restartEffect s).lpd.drive = s.lpd.drive ∧
    (restartEffect s).lpd.sinceCrossing = s.lpd.sinceCrossing ∧ (restartEffect s).sdu.hardness = s.sdu.hardness ∧
    (restartEffect s).sdu.mark = s.sdu.mark ∧ (restartEffect s).sdu.writing = s.sdu.writing ∧
    (restartEffect s).sdu.writeTimer = s.sdu.writeTimer ∧
    (restartEffect s).sdu.rewritePending = s.sdu.rewritePending ∧ (restartEffect s).sdu.retry = s.sdu.retry ∧
    (restartEffect s).pu.trips = s.pu.trips := by
  simp [restartEffect]

@[simp] theorem restartInListenIn_keeps (s : State) :
    (restartInListenIn s).pending = s.pending ∧ (restartInListenIn s).run = s.run ∧
    (restartInListenIn s).config = s.config ∧ (restartInListenIn s).store = s.store ∧
    (restartInListenIn s).second = s.second ∧ (restartInListenIn s).freeUses = s.freeUses ∧
    (restartInListenIn s).link.rx = s.link.rx ∧ (restartInListenIn s).link.tx = s.link.tx ∧
    (restartInListenIn s).link.queue = s.link.queue ∧
    (restartInListenIn s).link.confirmation = s.link.confirmation ∧
    (restartInListenIn s).link.counters = s.link.counters ∧ (restartInListenIn s).link.latch = s.link.latch ∧
    (restartInListenIn s).link.lost = s.link.lost ∧ (restartInListenIn s).link.lfsr = s.link.lfsr ∧
    (restartInListenIn s).link.silence = s.link.silence ∧ (restartInListenIn s).ssu.peers = s.ssu.peers ∧
    (restartInListenIn s).ssu.listenIn = s.ssu.listenIn ∧ (restartInListenIn s).lpd.drive = s.lpd.drive ∧
    (restartInListenIn s).lpd.sinceCrossing = s.lpd.sinceCrossing ∧
    (restartInListenIn s).sdu.hardness = s.sdu.hardness ∧ (restartInListenIn s).sdu.mark = s.sdu.mark ∧
    (restartInListenIn s).sdu.writing = s.sdu.writing ∧ (restartInListenIn s).sdu.writeTimer = s.sdu.writeTimer ∧
    (restartInListenIn s).sdu.rewritePending = s.sdu.rewritePending ∧
    (restartInListenIn s).sdu.retry = s.sdu.retry ∧ (restartInListenIn s).pu.trips = s.pu.trips := by
  simp [restartInListenIn]

@[simp] theorem beginRestart_keeps (s : State) :
    (beginRestart s).pending = s.pending ∧ (beginRestart s).run = s.run ∧ (beginRestart s).config = s.config ∧
    (beginRestart s).store = s.store ∧ (beginRestart s).second = s.second ∧ (beginRestart s).freeUses = s.freeUses ∧
    (beginRestart s).link.confirmation = s.link.confirmation ∧ (beginRestart s).link.lfsr = s.link.lfsr ∧
    (beginRestart s).ssu.peers = s.ssu.peers ∧ (beginRestart s).ssu.listenIn = s.ssu.listenIn ∧
    (beginRestart s).lpd.drive = s.lpd.drive ∧ (beginRestart s).lpd.sinceCrossing = s.lpd.sinceCrossing ∧
    (beginRestart s).sdu.hardness = s.sdu.hardness ∧ (beginRestart s).sdu.mark = s.sdu.mark ∧
    (beginRestart s).sdu.writing = s.sdu.writing ∧ (beginRestart s).sdu.writeTimer = s.sdu.writeTimer ∧
    (beginRestart s).sdu.rewritePending = s.sdu.rewritePending ∧ (beginRestart s).sdu.retry = s.sdu.retry ∧
    (beginRestart s).pu.trips = s.pu.trips := by
  unfold beginRestart; dsimp only; (repeat' split) <;> simp

@[simp] theorem acceptRestart_keeps (s : State) :
    (acceptRestart s).pending = s.pending ∧ (acceptRestart s).run = s.run ∧ (acceptRestart s).config = s.config ∧
    (acceptRestart s).store = s.store ∧ (acceptRestart s).second = s.second ∧
    (acceptRestart s).freeUses = s.freeUses ∧ (acceptRestart s).link.confirmation = s.link.confirmation ∧
    (acceptRestart s).link.lfsr = s.link.lfsr ∧ (acceptRestart s).ssu.peers = s.ssu.peers ∧
    (acceptRestart s).ssu.listenIn = s.ssu.listenIn ∧ (acceptRestart s).lpd.drive = s.lpd.drive ∧
    (acceptRestart s).lpd.sinceCrossing = s.lpd.sinceCrossing ∧ (acceptRestart s).sdu.hardness = s.sdu.hardness ∧
    (acceptRestart s).sdu.mark = s.sdu.mark ∧ (acceptRestart s).sdu.writing = s.sdu.writing ∧
    (acceptRestart s).sdu.writeTimer = s.sdu.writeTimer ∧
    (acceptRestart s).sdu.rewritePending = s.sdu.rewritePending ∧ (acceptRestart s).sdu.retry = s.sdu.retry ∧
    (acceptRestart s).pu.trips = s.pu.trips := by
  unfold acceptRestart; (repeat' split) <;> simp

@[simp] theorem startScaleValid_keeps (account hardness : Nat) (m : Mark) (s : State) :
    (startScaleValid account hardness m s).pending = s.pending ∧
    (startScaleValid account hardness m s).run = s.run ∧ (startScaleValid account hardness m s).config = s.config ∧
    (startScaleValid account hardness m s).store = s.store ∧
    (startScaleValid account hardness m s).second = s.second ∧
    (startScaleValid account hardness m s).freeUses = s.freeUses ∧
    (startScaleValid account hardness m s).link = s.link ∧
    (startScaleValid account hardness m s).od.power = s.od.power ∧
    (startScaleValid account hardness m s).od.restartPending = s.od.restartPending ∧
    (startScaleValid account hardness m s).od.cycle = s.od.cycle ∧
    (startScaleValid account hardness m s).od.cycleTimer = s.od.cycleTimer ∧
    (startScaleValid account hardness m s).od.eventsTimer = s.od.eventsTimer ∧
    (startScaleValid account hardness m s).od.diagTimer = s.od.diagTimer ∧
    (startScaleValid account hardness m s).ssu = s.ssu ∧
    (startScaleValid account hardness m s).lpd.drive = s.lpd.drive ∧
    (startScaleValid account hardness m s).lpd.half = s.lpd.half ∧
    (startScaleValid account hardness m s).lpd.pool = s.lpd.pool ∧
    (startScaleValid account hardness m s).lpd.shed = s.lpd.shed ∧
    (startScaleValid account hardness m s).lpd.gates = s.lpd.gates ∧
    (startScaleValid account hardness m s).lpd.sinceCrossing = s.lpd.sinceCrossing ∧
    (startScaleValid account hardness m s).mu = s.mu ∧ (startScaleValid account hardness m s).cr = s.cr ∧
    (startScaleValid account hardness m s).sgc.state = s.sgc.state ∧
    (startScaleValid account hardness m s).sgc.steamWanted = s.sgc.steamWanted ∧
    (startScaleValid account hardness m s).sgc.steamDemand = s.sgc.steamDemand ∧
    (startScaleValid account hardness m s).sgc.pulses = s.sgc.pulses ∧
    (startScaleValid account hardness m s).sgc.pulseTimer = s.sgc.pulseTimer ∧
    (startScaleValid account hardness m s).sgc.pumpDrive = s.sgc.pumpDrive ∧
    (startScaleValid account hardness m s).sgc.wait = s.sgc.wait ∧
    (startScaleValid account hardness m s).sgc.limitMark = s.sgc.limitMark ∧
    (startScaleValid account hardness m s).sgc.coolTime = s.sgc.coolTime ∧
    (startScaleValid account hardness m s).sgc.drainCount = s.sgc.drainCount ∧
    (startScaleValid account hardness m s).sdu.meteringSum = s.sdu.meteringSum ∧
    (startScaleValid account hardness m s).sdu.lockingFrom = s.sdu.lockingFrom ∧
    (startScaleValid account hardness m s).sdu.soakCount = s.sdu.soakCount ∧
    (startScaleValid account hardness m s).sdu.rinseCycle = s.sdu.rinseCycle ∧
    (startScaleValid account hardness m s).sdu.rinseStep = s.sdu.rinseStep ∧
    (startScaleValid account hardness m s).sdu.heatingTime = s.sdu.heatingTime ∧
    (startScaleValid account hardness m s).sdu.drained = s.sdu.drained ∧
    (startScaleValid account hardness m s).sdu.writing = s.sdu.writing ∧
    (startScaleValid account hardness m s).sdu.writeTimer = s.sdu.writeTimer ∧
    (startScaleValid account hardness m s).sdu.rewritePending = s.sdu.rewritePending ∧
    (startScaleValid account hardness m s).sdu.retry = s.sdu.retry ∧
    (startScaleValid account hardness m s).sdu.failures = s.sdu.failures ∧
    (startScaleValid account hardness m s).re = s.re ∧ (startScaleValid account hardness m s).pu = s.pu := by
  simp [startScaleValid]

@[simp] theorem startScaleLost_keeps (s : State) :
    (startScaleLost s).pending = s.pending ∧ (startScaleLost s).run = s.run ∧ (startScaleLost s).config = s.config ∧
    (startScaleLost s).store = s.store ∧ (startScaleLost s).second = s.second ∧
    (startScaleLost s).freeUses = s.freeUses ∧ (startScaleLost s).link = s.link ∧
    (startScaleLost s).od.power = s.od.power ∧ (startScaleLost s).od.restartPending = s.od.restartPending ∧
    (startScaleLost s).od.cycle = s.od.cycle ∧ (startScaleLost s).od.cycleTimer = s.od.cycleTimer ∧
    (startScaleLost s).od.eventsTimer = s.od.eventsTimer ∧ (startScaleLost s).od.diagTimer = s.od.diagTimer ∧
    (startScaleLost s).ssu = s.ssu ∧ (startScaleLost s).lpd.drive = s.lpd.drive ∧
    (startScaleLost s).lpd.half = s.lpd.half ∧ (startScaleLost s).lpd.pool = s.lpd.pool ∧
    (startScaleLost s).lpd.shed = s.lpd.shed ∧ (startScaleLost s).lpd.gates = s.lpd.gates ∧
    (startScaleLost s).lpd.sinceCrossing = s.lpd.sinceCrossing ∧ (startScaleLost s).mu = s.mu ∧
    (startScaleLost s).cr = s.cr ∧ (startScaleLost s).sgc.state = s.sgc.state ∧
    (startScaleLost s).sgc.steamWanted = s.sgc.steamWanted ∧
    (startScaleLost s).sgc.steamDemand = s.sgc.steamDemand ∧ (startScaleLost s).sgc.pulses = s.sgc.pulses ∧
    (startScaleLost s).sgc.pulseTimer = s.sgc.pulseTimer ∧ (startScaleLost s).sgc.pumpDrive = s.sgc.pumpDrive ∧
    (startScaleLost s).sgc.wait = s.sgc.wait ∧ (startScaleLost s).sgc.limitMark = s.sgc.limitMark ∧
    (startScaleLost s).sgc.coolTime = s.sgc.coolTime ∧ (startScaleLost s).sgc.drainCount = s.sgc.drainCount ∧
    (startScaleLost s).sdu.meteringSum = s.sdu.meteringSum ∧
    (startScaleLost s).sdu.lockingFrom = s.sdu.lockingFrom ∧ (startScaleLost s).sdu.soakCount = s.sdu.soakCount ∧
    (startScaleLost s).sdu.rinseCycle = s.sdu.rinseCycle ∧ (startScaleLost s).sdu.rinseStep = s.sdu.rinseStep ∧
    (startScaleLost s).sdu.heatingTime = s.sdu.heatingTime ∧ (startScaleLost s).sdu.drained = s.sdu.drained ∧
    (startScaleLost s).sdu.retry = s.sdu.retry ∧ (startScaleLost s).sdu.failures = s.sdu.failures ∧
    (startScaleLost s).re = s.re ∧ (startScaleLost s).pu = s.pu := by
  simp [startScaleLost]

@[simp] theorem powerUp_keeps (store : StoredRecord) (s : State) :
    (powerUp store s).pending = s.pending ∧ (powerUp store s).freeUses = s.freeUses := by
  simp [powerUp]

@[simp] theorem startBlocks_keeps (c : ConfigCopy) (found : Option StoredRecord) (s : State) :
    (startBlocks c found s).pending = s.pending ∧ (startBlocks c found s).store = s.store ∧
    (startBlocks c found s).second = s.second ∧ (startBlocks c found s).freeUses = s.freeUses ∧
    (startBlocks c found s).link.rx = s.link.rx ∧ (startBlocks c found s).link.tx = s.link.tx ∧
    (startBlocks c found s).link.confirmation = s.link.confirmation ∧
    (startBlocks c found s).link.latch = s.link.latch ∧ (startBlocks c found s).link.lost = s.link.lost ∧
    (startBlocks c found s).link.silence = s.link.silence ∧
    (startBlocks c found s).link.restartOwed = s.link.restartOwed ∧ (startBlocks c found s).od.power = s.od.power ∧
    (startBlocks c found s).od.restartPending = s.od.restartPending ∧
    (startBlocks c found s).od.cycle = s.od.cycle ∧ (startBlocks c found s).od.cycleTimer = s.od.cycleTimer ∧
    (startBlocks c found s).od.diagTimer = s.od.diagTimer ∧ (startBlocks c found s).ssu.peers = s.ssu.peers ∧
    (startBlocks c found s).ssu.claim = s.ssu.claim ∧ (startBlocks c found s).ssu.announced = s.ssu.announced ∧
    (startBlocks c found s).ssu.raise = s.ssu.raise ∧ (startBlocks c found s).ssu.lastA = s.ssu.lastA ∧
    (startBlocks c found s).ssu.lastW = s.ssu.lastW ∧ (startBlocks c found s).ssu.lastFo = s.ssu.lastFo ∧
    (startBlocks c found s).ssu.contention = s.ssu.contention ∧
    (startBlocks c found s).ssu.starved = s.ssu.starved ∧
    (startBlocks c found s).ssu.entryTimer = s.ssu.entryTimer ∧
    (startBlocks c found s).ssu.exitTimer = s.ssu.exitTimer ∧ (startBlocks c found s).ssu.period = s.ssu.period ∧
    (startBlocks c found s).lpd.drive = s.lpd.drive ∧ (startBlocks c found s).lpd.half = s.lpd.half ∧
    (startBlocks c found s).lpd.pool = s.lpd.pool ∧ (startBlocks c found s).lpd.shed = s.lpd.shed ∧
    (startBlocks c found s).lpd.gates = s.lpd.gates ∧
    (startBlocks c found s).lpd.sinceCrossing = s.lpd.sinceCrossing ∧ (startBlocks c found s).mu = s.mu ∧
    (startBlocks c found s).cr = s.cr ∧ (startBlocks c found s).sgc.state = s.sgc.state ∧
    (startBlocks c found s).sgc.steamWanted = s.sgc.steamWanted ∧
    (startBlocks c found s).sgc.steamDemand = s.sgc.steamDemand ∧
    (startBlocks c found s).sgc.pulses = s.sgc.pulses ∧ (startBlocks c found s).sgc.pulseTimer = s.sgc.pulseTimer ∧
    (startBlocks c found s).sgc.pumpDrive = s.sgc.pumpDrive ∧ (startBlocks c found s).sgc.wait = s.sgc.wait ∧
    (startBlocks c found s).sgc.limitMark = s.sgc.limitMark ∧
    (startBlocks c found s).sgc.coolTime = s.sgc.coolTime ∧
    (startBlocks c found s).sgc.drainCount = s.sgc.drainCount ∧
    (startBlocks c found s).sdu.meteringSum = s.sdu.meteringSum ∧
    (startBlocks c found s).sdu.lockingFrom = s.sdu.lockingFrom ∧
    (startBlocks c found s).sdu.soakCount = s.sdu.soakCount ∧
    (startBlocks c found s).sdu.rinseCycle = s.sdu.rinseCycle ∧
    (startBlocks c found s).sdu.rinseStep = s.sdu.rinseStep ∧
    (startBlocks c found s).sdu.heatingTime = s.sdu.heatingTime ∧
    (startBlocks c found s).sdu.drained = s.sdu.drained ∧ (startBlocks c found s).sdu.retry = s.sdu.retry ∧
    (startBlocks c found s).sdu.failures = s.sdu.failures ∧ (startBlocks c found s).re = s.re ∧
    (startBlocks c found s).pu = s.pu := by
  unfold startBlocks; (repeat' split) <;> simp

@[simp] theorem powerFails_keeps (left : StoredRecord) (s : State) :
    (powerFails left s).pending = s.pending ∧ (powerFails left s).freeUses = s.freeUses := by
  unfold powerFails; (repeat' split) <;> simp

end Sys2Proof.Machine
end

