-- ==== Sys2Proof/Laws/OrderLaws.lean ====
section
/-! SUPPORT. What what the orders apply leave as it is: for each operation, every field of State it cannot change. -/

namespace Sys2Proof.Machine

@[simp] theorem answer_keeps (c : Confirmation) (s : State) :
    (answer c s).pending = s.pending ∧ (answer c s).run = s.run ∧ (answer c s).config = s.config ∧
    (answer c s).store = s.store ∧ (answer c s).second = s.second ∧ (answer c s).freeUses = s.freeUses ∧
    (answer c s).link.rx = s.link.rx ∧ (answer c s).link.tx = s.link.tx ∧ (answer c s).link.queue = s.link.queue ∧
    (answer c s).link.counters = s.link.counters ∧ (answer c s).link.latch = s.link.latch ∧
    (answer c s).link.lost = s.link.lost ∧ (answer c s).link.lfsr = s.link.lfsr ∧
    (answer c s).link.silence = s.link.silence ∧ (answer c s).link.restartOwed = s.link.restartOwed ∧
    (answer c s).od = s.od ∧ (answer c s).ssu = s.ssu ∧ (answer c s).lpd = s.lpd ∧ (answer c s).mu = s.mu ∧
    (answer c s).cr = s.cr ∧ (answer c s).sgc = s.sgc ∧ (answer c s).sdu = s.sdu ∧ (answer c s).re = s.re ∧
    (answer c s).pu = s.pu := by
  simp [answer]

@[simp] theorem goToSleep_keeps (s : State) :
    (goToSleep s).pending = s.pending ∧ (goToSleep s).run = s.run ∧ (goToSleep s).config = s.config ∧
    (goToSleep s).store = s.store ∧ (goToSleep s).second = s.second ∧ (goToSleep s).freeUses = s.freeUses ∧
    (goToSleep s).link.rx = s.link.rx ∧ (goToSleep s).link.tx = s.link.tx ∧
    (goToSleep s).link.confirmation = s.link.confirmation ∧ (goToSleep s).link.latch = s.link.latch ∧
    (goToSleep s).link.lost = s.link.lost ∧ (goToSleep s).link.lfsr = s.link.lfsr ∧
    (goToSleep s).link.restartOwed = s.link.restartOwed ∧ (goToSleep s).od.restartPending = s.od.restartPending ∧
    (goToSleep s).od.cycle = s.od.cycle ∧ (goToSleep s).od.cycleTimer = s.od.cycleTimer ∧
    (goToSleep s).od.diagTimer = s.od.diagTimer ∧ (goToSleep s).ssu.peers = s.ssu.peers ∧
    (goToSleep s).ssu.listenIn = s.ssu.listenIn ∧ (goToSleep s).ssu.period = s.ssu.period ∧
    (goToSleep s).lpd.drive = s.lpd.drive ∧ (goToSleep s).lpd.half = s.lpd.half ∧
    (goToSleep s).lpd.pool = s.lpd.pool ∧ (goToSleep s).lpd.shed = s.lpd.shed ∧
    (goToSleep s).lpd.gates = s.lpd.gates ∧ (goToSleep s).lpd.sinceCrossing = s.lpd.sinceCrossing ∧
    (goToSleep s).mu = s.mu ∧ (goToSleep s).sgc.user = s.sgc.user ∧ (goToSleep s).sgc.derate = s.sgc.derate ∧
    (goToSleep s).sdu.account = s.sdu.account ∧ (goToSleep s).sdu.hardness = s.sdu.hardness ∧
    (goToSleep s).sdu.mark = s.sdu.mark ∧ (goToSleep s).sdu.phase = s.sdu.phase ∧
    (goToSleep s).sdu.lockingFrom = s.sdu.lockingFrom ∧ (goToSleep s).sdu.soakCount = s.sdu.soakCount ∧
    (goToSleep s).sdu.rinseCycle = s.sdu.rinseCycle ∧ (goToSleep s).sdu.rinseStep = s.sdu.rinseStep ∧
    (goToSleep s).sdu.heatingTime = s.sdu.heatingTime ∧ (goToSleep s).sdu.drained = s.sdu.drained ∧
    (goToSleep s).sdu.retry = s.sdu.retry ∧ (goToSleep s).sdu.failures = s.sdu.failures ∧
    (goToSleep s).re.slotA = s.re.slotA ∧ (goToSleep s).re.slotB = s.re.slotB ∧
    (goToSleep s).re.running = s.re.running ∧ (goToSleep s).re.queued = s.re.queued ∧
    (goToSleep s).re.context = s.re.context ∧ (goToSleep s).re.repeats = s.re.repeats ∧ (goToSleep s).pu = s.pu := by
  unfold goToSleep; (repeat' split) <;> simp

@[simp] theorem orderRestart_keeps (sender : Addr) (args : List Byte) (s : State) :
    (orderRestart sender args s).pending = s.pending ∧ (orderRestart sender args s).run = s.run ∧
    (orderRestart sender args s).config = s.config ∧ (orderRestart sender args s).store = s.store ∧
    (orderRestart sender args s).second = s.second ∧ (orderRestart sender args s).freeUses = s.freeUses ∧
    (orderRestart sender args s).link.lfsr = s.link.lfsr ∧ (orderRestart sender args s).ssu.peers = s.ssu.peers ∧
    (orderRestart sender args s).ssu.listenIn = s.ssu.listenIn ∧
    (orderRestart sender args s).lpd.drive = s.lpd.drive ∧
    (orderRestart sender args s).lpd.sinceCrossing = s.lpd.sinceCrossing ∧
    (orderRestart sender args s).sdu.hardness = s.sdu.hardness ∧
    (orderRestart sender args s).sdu.mark = s.sdu.mark ∧ (orderRestart sender args s).sdu.writing = s.sdu.writing ∧
    (orderRestart sender args s).sdu.writeTimer = s.sdu.writeTimer ∧
    (orderRestart sender args s).sdu.rewritePending = s.sdu.rewritePending ∧
    (orderRestart sender args s).sdu.retry = s.sdu.retry ∧ (orderRestart sender args s).pu.trips = s.pu.trips := by
  unfold orderRestart; (repeat' split) <;> simp

@[simp] theorem applyClimate_keeps (f : ClimateFields) (s : State) :
    (applyClimate f s).pending = s.pending ∧ (applyClimate f s).run = s.run ∧ (applyClimate f s).config = s.config ∧
    (applyClimate f s).store = s.store ∧ (applyClimate f s).second = s.second ∧
    (applyClimate f s).freeUses = s.freeUses ∧ (applyClimate f s).link.rx = s.link.rx ∧
    (applyClimate f s).link.tx = s.link.tx ∧ (applyClimate f s).link.confirmation = s.link.confirmation ∧
    (applyClimate f s).link.latch = s.link.latch ∧ (applyClimate f s).link.lost = s.link.lost ∧
    (applyClimate f s).link.lfsr = s.link.lfsr ∧ (applyClimate f s).link.silence = s.link.silence ∧
    (applyClimate f s).link.restartOwed = s.link.restartOwed ∧ (applyClimate f s).od.power = s.od.power ∧
    (applyClimate f s).od.restartPending = s.od.restartPending ∧ (applyClimate f s).od.cycle = s.od.cycle ∧
    (applyClimate f s).od.cycleTimer = s.od.cycleTimer ∧ (applyClimate f s).od.diagTimer = s.od.diagTimer ∧
    (applyClimate f s).ssu = s.ssu ∧ (applyClimate f s).lpd.drive = s.lpd.drive ∧
    (applyClimate f s).lpd.half = s.lpd.half ∧ (applyClimate f s).lpd.pool = s.lpd.pool ∧
    (applyClimate f s).lpd.shed = s.lpd.shed ∧ (applyClimate f s).lpd.gates = s.lpd.gates ∧
    (applyClimate f s).lpd.sinceCrossing = s.lpd.sinceCrossing ∧ (applyClimate f s).mu = s.mu ∧
    (applyClimate f s).sgc.user = s.sgc.user ∧ (applyClimate f s).sgc.derate = s.sgc.derate ∧
    (applyClimate f s).sdu.account = s.sdu.account ∧ (applyClimate f s).sdu.hardness = s.sdu.hardness ∧
    (applyClimate f s).sdu.mark = s.sdu.mark ∧ (applyClimate f s).sdu.phase = s.sdu.phase ∧
    (applyClimate f s).sdu.lockingFrom = s.sdu.lockingFrom ∧ (applyClimate f s).sdu.soakCount = s.sdu.soakCount ∧
    (applyClimate f s).sdu.rinseCycle = s.sdu.rinseCycle ∧ (applyClimate f s).sdu.rinseStep = s.sdu.rinseStep ∧
    (applyClimate f s).sdu.heatingTime = s.sdu.heatingTime ∧ (applyClimate f s).sdu.drained = s.sdu.drained ∧
    (applyClimate f s).sdu.retry = s.sdu.retry ∧ (applyClimate f s).sdu.failures = s.sdu.failures ∧
    (applyClimate f s).re.slotA = s.re.slotA ∧ (applyClimate f s).re.slotB = s.re.slotB ∧
    (applyClimate f s).re.running = s.re.running ∧ (applyClimate f s).re.queued = s.re.queued ∧
    (applyClimate f s).re.context = s.re.context ∧ (applyClimate f s).re.repeats = s.re.repeats ∧
    (applyClimate f s).pu = s.pu := by
  unfold applyClimate; (repeat' split) <;> simp

@[simp] theorem applyHardness_keeps (h : Nat) (s : State) :
    (applyHardness h s).pending = s.pending ∧ (applyHardness h s).run = s.run ∧
    (applyHardness h s).config = s.config ∧ (applyHardness h s).store = s.store ∧
    (applyHardness h s).second = s.second ∧ (applyHardness h s).freeUses = s.freeUses ∧
    (applyHardness h s).link.rx = s.link.rx ∧ (applyHardness h s).link.tx = s.link.tx ∧
    (applyHardness h s).link.confirmation = s.link.confirmation ∧ (applyHardness h s).link.latch = s.link.latch ∧
    (applyHardness h s).link.lost = s.link.lost ∧ (applyHardness h s).link.lfsr = s.link.lfsr ∧
    (applyHardness h s).link.silence = s.link.silence ∧ (applyHardness h s).link.restartOwed = s.link.restartOwed ∧
    (applyHardness h s).od.power = s.od.power ∧ (applyHardness h s).od.restartPending = s.od.restartPending ∧
    (applyHardness h s).od.cycle = s.od.cycle ∧ (applyHardness h s).od.cycleTimer = s.od.cycleTimer ∧
    (applyHardness h s).od.diagTimer = s.od.diagTimer ∧ (applyHardness h s).ssu = s.ssu ∧
    (applyHardness h s).lpd = s.lpd ∧ (applyHardness h s).mu = s.mu ∧ (applyHardness h s).cr = s.cr ∧
    (applyHardness h s).sgc = s.sgc ∧ (applyHardness h s).sdu.account = s.sdu.account ∧
    (applyHardness h s).sdu.mark = s.sdu.mark ∧ (applyHardness h s).sdu.meteringSum = s.sdu.meteringSum ∧
    (applyHardness h s).sdu.phase = s.sdu.phase ∧ (applyHardness h s).sdu.lockingFrom = s.sdu.lockingFrom ∧
    (applyHardness h s).sdu.soakCount = s.sdu.soakCount ∧ (applyHardness h s).sdu.rinseCycle = s.sdu.rinseCycle ∧
    (applyHardness h s).sdu.rinseStep = s.sdu.rinseStep ∧ (applyHardness h s).sdu.heatingTime = s.sdu.heatingTime ∧
    (applyHardness h s).sdu.drained = s.sdu.drained ∧ (applyHardness h s).sdu.retry = s.sdu.retry ∧
    (applyHardness h s).sdu.failures = s.sdu.failures ∧ (applyHardness h s).re = s.re ∧
    (applyHardness h s).pu = s.pu := by
  unfold applyHardness; dsimp only; (repeat' split) <;> simp

@[simp] theorem dropPeer_keeps (i : Fin 15) (s : State) :
    (dropPeer i s).pending = s.pending ∧ (dropPeer i s).run = s.run ∧ (dropPeer i s).config = s.config ∧
    (dropPeer i s).store = s.store ∧ (dropPeer i s).second = s.second ∧ (dropPeer i s).freeUses = s.freeUses ∧
    (dropPeer i s).link.rx = s.link.rx ∧ (dropPeer i s).link.tx = s.link.tx ∧
    (dropPeer i s).link.confirmation = s.link.confirmation ∧ (dropPeer i s).link.latch = s.link.latch ∧
    (dropPeer i s).link.lost = s.link.lost ∧ (dropPeer i s).link.lfsr = s.link.lfsr ∧
    (dropPeer i s).link.silence = s.link.silence ∧ (dropPeer i s).link.restartOwed = s.link.restartOwed ∧
    (dropPeer i s).od = s.od ∧ (dropPeer i s).ssu.claim = s.ssu.claim ∧
    (dropPeer i s).ssu.listenIn = s.ssu.listenIn ∧ (dropPeer i s).ssu.period = s.ssu.period ∧
    (dropPeer i s).lpd = s.lpd ∧ (dropPeer i s).mu = s.mu ∧ (dropPeer i s).cr = s.cr ∧ (dropPeer i s).sgc = s.sgc ∧
    (dropPeer i s).sdu = s.sdu ∧ (dropPeer i s).re.slotA = s.re.slotA ∧ (dropPeer i s).re.slotB = s.re.slotB ∧
    (dropPeer i s).re.running = s.re.running ∧ (dropPeer i s).re.queued = s.re.queued ∧
    (dropPeer i s).re.context = s.re.context ∧ (dropPeer i s).re.repeats = s.re.repeats ∧ (dropPeer i s).pu = s.pu := by
  unfold dropPeer; (repeat' split) <;> simp

@[simp] theorem startDescale_keeps (s : State) :
    (startDescale s).pending = s.pending ∧ (startDescale s).run = s.run ∧ (startDescale s).config = s.config ∧
    (startDescale s).store = s.store ∧ (startDescale s).second = s.second ∧ (startDescale s).freeUses = s.freeUses ∧
    (startDescale s).link = s.link ∧ (startDescale s).od.power = s.od.power ∧
    (startDescale s).od.restartPending = s.od.restartPending ∧ (startDescale s).od.cycle = s.od.cycle ∧
    (startDescale s).od.cycleTimer = s.od.cycleTimer ∧ (startDescale s).od.eventsTimer = s.od.eventsTimer ∧
    (startDescale s).od.diagTimer = s.od.diagTimer ∧ (startDescale s).ssu.peers = s.ssu.peers ∧
    (startDescale s).ssu.claim = s.ssu.claim ∧ (startDescale s).ssu.announced = s.ssu.announced ∧
    (startDescale s).ssu.raise = s.ssu.raise ∧ (startDescale s).ssu.lastA = s.ssu.lastA ∧
    (startDescale s).ssu.lastW = s.ssu.lastW ∧ (startDescale s).ssu.lastFo = s.ssu.lastFo ∧
    (startDescale s).ssu.contention = s.ssu.contention ∧ (startDescale s).ssu.listenIn = s.ssu.listenIn ∧
    (startDescale s).ssu.period = s.ssu.period ∧ (startDescale s).lpd.drive = s.lpd.drive ∧
    (startDescale s).lpd.half = s.lpd.half ∧ (startDescale s).lpd.pool = s.lpd.pool ∧
    (startDescale s).lpd.shed = s.lpd.shed ∧ (startDescale s).lpd.gates = s.lpd.gates ∧
    (startDescale s).lpd.sinceCrossing = s.lpd.sinceCrossing ∧ (startDescale s).lpd.loads.top = s.lpd.loads.top ∧
    (startDescale s).lpd.loads.bottom = s.lpd.loads.bottom ∧ (startDescale s).lpd.loads.ring = s.lpd.loads.ring ∧
    (startDescale s).mu = s.mu ∧ (startDescale s).cr = s.cr ∧ (startDescale s).sgc.steamWanted = s.sgc.steamWanted ∧
    (startDescale s).sgc.steamDemand = s.sgc.steamDemand ∧ (startDescale s).sdu.hardness = s.sdu.hardness ∧
    (startDescale s).sdu.soakCount = s.sdu.soakCount ∧ (startDescale s).sdu.retry = s.sdu.retry ∧
    (startDescale s).sdu.failures = s.sdu.failures ∧ (startDescale s).re.slotA = s.re.slotA ∧
    (startDescale s).re.slotB = s.re.slotB ∧ (startDescale s).re.running = s.re.running ∧
    (startDescale s).re.queued = s.re.queued ∧ (startDescale s).re.context = s.re.context ∧
    (startDescale s).re.repeats = s.re.repeats ∧
    (startDescale s).pu.trips.cavityOvertemp = s.pu.trips.cavityOvertemp ∧
    (startDescale s).pu.trips.boilerDry = s.pu.trips.boilerDry ∧
    (startDescale s).pu.trips.sensor = s.pu.trips.sensor := by
  simp [startDescale]

@[simp] theorem confirmDescale_keeps (c : ConfirmStep) (s : State) :
    (confirmDescale c s).pending = s.pending ∧ (confirmDescale c s).run = s.run ∧
    (confirmDescale c s).config = s.config ∧ (confirmDescale c s).store = s.store ∧
    (confirmDescale c s).second = s.second ∧ (confirmDescale c s).freeUses = s.freeUses ∧
    (confirmDescale c s).link = s.link ∧ (confirmDescale c s).od.power = s.od.power ∧
    (confirmDescale c s).od.restartPending = s.od.restartPending ∧ (confirmDescale c s).od.cycle = s.od.cycle ∧
    (confirmDescale c s).od.cycleTimer = s.od.cycleTimer ∧ (confirmDescale c s).od.eventsTimer = s.od.eventsTimer ∧
    (confirmDescale c s).od.diagTimer = s.od.diagTimer ∧ (confirmDescale c s).ssu.peers = s.ssu.peers ∧
    (confirmDescale c s).ssu.claim = s.ssu.claim ∧ (confirmDescale c s).ssu.announced = s.ssu.announced ∧
    (confirmDescale c s).ssu.raise = s.ssu.raise ∧ (confirmDescale c s).ssu.lastA = s.ssu.lastA ∧
    (confirmDescale c s).ssu.lastW = s.ssu.lastW ∧ (confirmDescale c s).ssu.lastFo = s.ssu.lastFo ∧
    (confirmDescale c s).ssu.contention = s.ssu.contention ∧ (confirmDescale c s).ssu.listenIn = s.ssu.listenIn ∧
    (confirmDescale c s).ssu.period = s.ssu.period ∧ (confirmDescale c s).lpd.drive = s.lpd.drive ∧
    (confirmDescale c s).lpd.half = s.lpd.half ∧ (confirmDescale c s).lpd.pool = s.lpd.pool ∧
    (confirmDescale c s).lpd.shed = s.lpd.shed ∧ (confirmDescale c s).lpd.gates = s.lpd.gates ∧
    (confirmDescale c s).lpd.sinceCrossing = s.lpd.sinceCrossing ∧
    (confirmDescale c s).lpd.loads.top = s.lpd.loads.top ∧
    (confirmDescale c s).lpd.loads.bottom = s.lpd.loads.bottom ∧
    (confirmDescale c s).lpd.loads.ring = s.lpd.loads.ring ∧ (confirmDescale c s).mu = s.mu ∧
    (confirmDescale c s).cr = s.cr ∧ (confirmDescale c s).sgc.steamWanted = s.sgc.steamWanted ∧
    (confirmDescale c s).sgc.steamDemand = s.sgc.steamDemand ∧ (confirmDescale c s).sdu.hardness = s.sdu.hardness ∧
    (confirmDescale c s).sdu.soakCount = s.sdu.soakCount ∧ (confirmDescale c s).sdu.retry = s.sdu.retry ∧
    (confirmDescale c s).sdu.failures = s.sdu.failures ∧ (confirmDescale c s).re.slotA = s.re.slotA ∧
    (confirmDescale c s).re.slotB = s.re.slotB ∧ (confirmDescale c s).re.running = s.re.running ∧
    (confirmDescale c s).re.queued = s.re.queued ∧ (confirmDescale c s).re.context = s.re.context ∧
    (confirmDescale c s).re.repeats = s.re.repeats ∧
    (confirmDescale c s).pu.trips.cavityOvertemp = s.pu.trips.cavityOvertemp ∧
    (confirmDescale c s).pu.trips.boilerDry = s.pu.trips.boilerDry ∧
    (confirmDescale c s).pu.trips.sensor = s.pu.trips.sensor := by
  unfold confirmDescale; (repeat' split) <;> simp

@[simp] theorem abortDescale_keeps (s : State) :
    (abortDescale s).pending = s.pending ∧ (abortDescale s).run = s.run ∧ (abortDescale s).config = s.config ∧
    (abortDescale s).store = s.store ∧ (abortDescale s).second = s.second ∧ (abortDescale s).freeUses = s.freeUses ∧
    (abortDescale s).link = s.link ∧ (abortDescale s).od.power = s.od.power ∧
    (abortDescale s).od.restartPending = s.od.restartPending ∧ (abortDescale s).od.cycle = s.od.cycle ∧
    (abortDescale s).od.cycleTimer = s.od.cycleTimer ∧ (abortDescale s).od.eventsTimer = s.od.eventsTimer ∧
    (abortDescale s).od.diagTimer = s.od.diagTimer ∧ (abortDescale s).ssu.peers = s.ssu.peers ∧
    (abortDescale s).ssu.claim = s.ssu.claim ∧ (abortDescale s).ssu.announced = s.ssu.announced ∧
    (abortDescale s).ssu.raise = s.ssu.raise ∧ (abortDescale s).ssu.lastA = s.ssu.lastA ∧
    (abortDescale s).ssu.lastW = s.ssu.lastW ∧ (abortDescale s).ssu.lastFo = s.ssu.lastFo ∧
    (abortDescale s).ssu.contention = s.ssu.contention ∧ (abortDescale s).ssu.listenIn = s.ssu.listenIn ∧
    (abortDescale s).ssu.period = s.ssu.period ∧ (abortDescale s).lpd.drive = s.lpd.drive ∧
    (abortDescale s).lpd.half = s.lpd.half ∧ (abortDescale s).lpd.pool = s.lpd.pool ∧
    (abortDescale s).lpd.shed = s.lpd.shed ∧ (abortDescale s).lpd.gates = s.lpd.gates ∧
    (abortDescale s).lpd.sinceCrossing = s.lpd.sinceCrossing ∧ (abortDescale s).lpd.loads.top = s.lpd.loads.top ∧
    (abortDescale s).lpd.loads.bottom = s.lpd.loads.bottom ∧ (abortDescale s).lpd.loads.ring = s.lpd.loads.ring ∧
    (abortDescale s).mu = s.mu ∧ (abortDescale s).cr = s.cr ∧ (abortDescale s).sgc.steamWanted = s.sgc.steamWanted ∧
    (abortDescale s).sgc.steamDemand = s.sgc.steamDemand ∧ (abortDescale s).sdu.hardness = s.sdu.hardness ∧
    (abortDescale s).sdu.soakCount = s.sdu.soakCount ∧ (abortDescale s).sdu.retry = s.sdu.retry ∧
    (abortDescale s).sdu.failures = s.sdu.failures ∧ (abortDescale s).re.slotA = s.re.slotA ∧
    (abortDescale s).re.slotB = s.re.slotB ∧ (abortDescale s).re.running = s.re.running ∧
    (abortDescale s).re.queued = s.re.queued ∧ (abortDescale s).re.context = s.re.context ∧
    (abortDescale s).re.repeats = s.re.repeats ∧
    (abortDescale s).pu.trips.cavityOvertemp = s.pu.trips.cavityOvertemp ∧
    (abortDescale s).pu.trips.boilerDry = s.pu.trips.boilerDry ∧
    (abortDescale s).pu.trips.sensor = s.pu.trips.sensor := by
  unfold abortDescale; (repeat' split) <;> simp

end Sys2Proof.Machine
end

