-- ==== Sys2Proof/Laws/LinkLaws.lean ====
section
/-! SUPPORT. What the link unit's events leave as it is: for each operation, every field of State it cannot change. -/

namespace Sys2Proof.Machine

@[simp] theorem acceptReport_keeps (r : Report) (s : State) :
    (acceptReport r s).pending = s.pending ∧ (acceptReport r s).run = s.run ∧ (acceptReport r s).config = s.config ∧
    (acceptReport r s).store = s.store ∧ (acceptReport r s).second = s.second ∧
    (acceptReport r s).freeUses = s.freeUses ∧ (acceptReport r s).link.rx = s.link.rx ∧
    (acceptReport r s).link.tx = s.link.tx ∧ (acceptReport r s).link.queue = s.link.queue ∧
    (acceptReport r s).link.confirmation = s.link.confirmation ∧
    (acceptReport r s).link.counters = s.link.counters ∧ (acceptReport r s).link.lfsr = s.link.lfsr ∧
    (acceptReport r s).link.silence = s.link.silence ∧ (acceptReport r s).link.restartOwed = s.link.restartOwed ∧
    (acceptReport r s).od.power = s.od.power ∧ (acceptReport r s).od.restartPending = s.od.restartPending ∧
    (acceptReport r s).od.cycle = s.od.cycle ∧ (acceptReport r s).od.cycleTimer = s.od.cycleTimer ∧
    (acceptReport r s).od.eventsTimer = s.od.eventsTimer ∧ (acceptReport r s).od.diagTimer = s.od.diagTimer ∧
    (acceptReport r s).ssu = s.ssu ∧ (acceptReport r s).lpd = s.lpd ∧ (acceptReport r s).mu = s.mu ∧
    (acceptReport r s).cr = s.cr ∧ (acceptReport r s).sgc = s.sgc ∧ (acceptReport r s).sdu = s.sdu ∧
    (acceptReport r s).re = s.re ∧ (acceptReport r s).pu = s.pu := by
  unfold acceptReport; (repeat' split) <;> simp

@[simp] theorem reportOutcome_keeps (accepted : Bool) (s : State) :
    (reportOutcome accepted s).pending = s.pending ∧ (reportOutcome accepted s).run = s.run ∧
    (reportOutcome accepted s).config = s.config ∧ (reportOutcome accepted s).store = s.store ∧
    (reportOutcome accepted s).second = s.second ∧ (reportOutcome accepted s).freeUses = s.freeUses ∧
    (reportOutcome accepted s).link.rx = s.link.rx ∧
    (reportOutcome accepted s).link.confirmation = s.link.confirmation ∧
    (reportOutcome accepted s).link.counters = s.link.counters ∧
    (reportOutcome accepted s).link.lfsr = s.link.lfsr ∧ (reportOutcome accepted s).link.silence = s.link.silence ∧
    (reportOutcome accepted s).link.restartOwed = s.link.restartOwed ∧
    (reportOutcome accepted s).od.power = s.od.power ∧
    (reportOutcome accepted s).od.restartPending = s.od.restartPending ∧
    (reportOutcome accepted s).od.cycle = s.od.cycle ∧ (reportOutcome accepted s).od.cycleTimer = s.od.cycleTimer ∧
    (reportOutcome accepted s).od.eventsTimer = s.od.eventsTimer ∧
    (reportOutcome accepted s).od.diagTimer = s.od.diagTimer ∧ (reportOutcome accepted s).ssu = s.ssu ∧
    (reportOutcome accepted s).lpd = s.lpd ∧ (reportOutcome accepted s).mu = s.mu ∧
    (reportOutcome accepted s).cr = s.cr ∧ (reportOutcome accepted s).sgc = s.sgc ∧
    (reportOutcome accepted s).sdu = s.sdu ∧ (reportOutcome accepted s).re = s.re ∧
    (reportOutcome accepted s).pu = s.pu := by
  unfold reportOutcome; (repeat' split) <;> simp

@[simp] theorem failReception_keeps (c : ReceptionFailure) (s : State) :
    (failReception c s).pending = s.pending ∧ (failReception c s).run = s.run ∧
    (failReception c s).config = s.config ∧ (failReception c s).store = s.store ∧
    (failReception c s).second = s.second ∧ (failReception c s).freeUses = s.freeUses ∧
    (failReception c s).link.tx = s.link.tx ∧ (failReception c s).link.queue = s.link.queue ∧
    (failReception c s).link.confirmation = s.link.confirmation ∧ (failReception c s).link.latch = s.link.latch ∧
    (failReception c s).link.lost = s.link.lost ∧ (failReception c s).link.lfsr = s.link.lfsr ∧
    (failReception c s).link.silence = s.link.silence ∧ (failReception c s).link.restartOwed = s.link.restartOwed ∧
    (failReception c s).od = s.od ∧ (failReception c s).ssu = s.ssu ∧ (failReception c s).lpd = s.lpd ∧
    (failReception c s).mu = s.mu ∧ (failReception c s).cr = s.cr ∧ (failReception c s).sgc = s.sgc ∧
    (failReception c s).sdu = s.sdu ∧ (failReception c s).re = s.re ∧ (failReception c s).pu = s.pu := by
  unfold failReception; (repeat' split) <;> simp

@[simp] theorem lineBecomesIdle_keeps (s : State) :
    (lineBecomesIdle s).pending = s.pending ∧ (lineBecomesIdle s).run = s.run ∧
    (lineBecomesIdle s).config = s.config ∧ (lineBecomesIdle s).store = s.store ∧
    (lineBecomesIdle s).second = s.second ∧ (lineBecomesIdle s).freeUses = s.freeUses ∧
    (lineBecomesIdle s).link.confirmation = s.link.confirmation ∧ (lineBecomesIdle s).link.lfsr = s.link.lfsr ∧
    (lineBecomesIdle s).link.silence = s.link.silence ∧ (lineBecomesIdle s).link.restartOwed = s.link.restartOwed ∧
    (lineBecomesIdle s).od.power = s.od.power ∧ (lineBecomesIdle s).od.restartPending = s.od.restartPending ∧
    (lineBecomesIdle s).od.cycle = s.od.cycle ∧ (lineBecomesIdle s).od.cycleTimer = s.od.cycleTimer ∧
    (lineBecomesIdle s).od.eventsTimer = s.od.eventsTimer ∧ (lineBecomesIdle s).od.diagTimer = s.od.diagTimer ∧
    (lineBecomesIdle s).ssu = s.ssu ∧ (lineBecomesIdle s).lpd = s.lpd ∧ (lineBecomesIdle s).mu = s.mu ∧
    (lineBecomesIdle s).cr = s.cr ∧ (lineBecomesIdle s).sgc = s.sgc ∧ (lineBecomesIdle s).sdu = s.sdu ∧
    (lineBecomesIdle s).re = s.re ∧ (lineBecomesIdle s).pu = s.pu := by
  unfold lineBecomesIdle; dsimp only; (repeat' split) <;> simp

@[simp] theorem endAttempt_keeps (idleBits : Nat) (s : State) :
    (endAttempt idleBits s).pending = s.pending ∧ (endAttempt idleBits s).run = s.run ∧
    (endAttempt idleBits s).config = s.config ∧ (endAttempt idleBits s).store = s.store ∧
    (endAttempt idleBits s).second = s.second ∧ (endAttempt idleBits s).freeUses = s.freeUses ∧
    (endAttempt idleBits s).link.rx = s.link.rx ∧ (endAttempt idleBits s).link.tx = s.link.tx ∧
    (endAttempt idleBits s).link.confirmation = s.link.confirmation ∧
    (endAttempt idleBits s).link.counters = s.link.counters ∧ (endAttempt idleBits s).link.latch = s.link.latch ∧
    (endAttempt idleBits s).link.lost = s.link.lost ∧ (endAttempt idleBits s).link.lfsr = s.link.lfsr ∧
    (endAttempt idleBits s).link.silence = s.link.silence ∧
    (endAttempt idleBits s).link.restartOwed = s.link.restartOwed ∧ (endAttempt idleBits s).od = s.od ∧
    (endAttempt idleBits s).ssu = s.ssu ∧ (endAttempt idleBits s).lpd = s.lpd ∧ (endAttempt idleBits s).mu = s.mu ∧
    (endAttempt idleBits s).cr = s.cr ∧ (endAttempt idleBits s).sgc = s.sgc ∧ (endAttempt idleBits s).sdu = s.sdu ∧
    (endAttempt idleBits s).re = s.re ∧ (endAttempt idleBits s).pu = s.pu := by
  unfold endAttempt; (repeat' split) <;> simp

@[simp] theorem startReception_keeps (idleBits : Nat) (s : State) :
    (startReception idleBits s).pending = s.pending ∧ (startReception idleBits s).run = s.run ∧
    (startReception idleBits s).config = s.config ∧ (startReception idleBits s).store = s.store ∧
    (startReception idleBits s).second = s.second ∧ (startReception idleBits s).freeUses = s.freeUses ∧
    (startReception idleBits s).link.tx = s.link.tx ∧
    (startReception idleBits s).link.confirmation = s.link.confirmation ∧
    (startReception idleBits s).link.counters = s.link.counters ∧
    (startReception idleBits s).link.latch = s.link.latch ∧ (startReception idleBits s).link.lost = s.link.lost ∧
    (startReception idleBits s).link.lfsr = s.link.lfsr ∧
    (startReception idleBits s).link.silence = s.link.silence ∧
    (startReception idleBits s).link.restartOwed = s.link.restartOwed ∧ (startReception idleBits s).od = s.od ∧
    (startReception idleBits s).ssu = s.ssu ∧ (startReception idleBits s).lpd = s.lpd ∧
    (startReception idleBits s).mu = s.mu ∧ (startReception idleBits s).cr = s.cr ∧
    (startReception idleBits s).sgc = s.sgc ∧ (startReception idleBits s).sdu = s.sdu ∧
    (startReception idleBits s).re = s.re ∧ (startReception idleBits s).pu = s.pu := by
  unfold startReception; (repeat' split) <;> simp

@[simp] theorem latchCorrection_keeps (syndrome : Nat) (t : Taken) (s : State) :
    (latchCorrection syndrome t s).pending = s.pending ∧ (latchCorrection syndrome t s).run = s.run ∧
    (latchCorrection syndrome t s).config = s.config ∧ (latchCorrection syndrome t s).store = s.store ∧
    (latchCorrection syndrome t s).second = s.second ∧ (latchCorrection syndrome t s).freeUses = s.freeUses ∧
    (latchCorrection syndrome t s).link.rx = s.link.rx ∧ (latchCorrection syndrome t s).link.tx = s.link.tx ∧
    (latchCorrection syndrome t s).link.queue = s.link.queue ∧
    (latchCorrection syndrome t s).link.confirmation = s.link.confirmation ∧
    (latchCorrection syndrome t s).link.counters = s.link.counters ∧
    (latchCorrection syndrome t s).link.lfsr = s.link.lfsr ∧
    (latchCorrection syndrome t s).link.silence = s.link.silence ∧
    (latchCorrection syndrome t s).link.restartOwed = s.link.restartOwed ∧
    (latchCorrection syndrome t s).od = s.od ∧ (latchCorrection syndrome t s).ssu = s.ssu ∧
    (latchCorrection syndrome t s).lpd = s.lpd ∧ (latchCorrection syndrome t s).mu = s.mu ∧
    (latchCorrection syndrome t s).cr = s.cr ∧ (latchCorrection syndrome t s).sgc = s.sgc ∧
    (latchCorrection syndrome t s).sdu = s.sdu ∧ (latchCorrection syndrome t s).re = s.re ∧
    (latchCorrection syndrome t s).pu = s.pu := by
  unfold latchCorrection; (repeat' split) <;> simp

@[simp] theorem noticeArrives_keeps (sender : Addr) (n : Notice) (s : State) :
    (noticeArrives sender n s).pending = s.pending ∧ (noticeArrives sender n s).run = s.run ∧
    (noticeArrives sender n s).config = s.config ∧ (noticeArrives sender n s).store = s.store ∧
    (noticeArrives sender n s).second = s.second ∧ (noticeArrives sender n s).freeUses = s.freeUses ∧
    (noticeArrives sender n s).link.rx = s.link.rx ∧ (noticeArrives sender n s).link.tx = s.link.tx ∧
    (noticeArrives sender n s).link.confirmation = s.link.confirmation ∧
    (noticeArrives sender n s).link.latch = s.link.latch ∧ (noticeArrives sender n s).link.lost = s.link.lost ∧
    (noticeArrives sender n s).link.lfsr = s.link.lfsr ∧ (noticeArrives sender n s).link.silence = s.link.silence ∧
    (noticeArrives sender n s).link.restartOwed = s.link.restartOwed ∧
    (noticeArrives sender n s).od.power = s.od.power ∧
    (noticeArrives sender n s).od.restartPending = s.od.restartPending ∧
    (noticeArrives sender n s).od.cycle = s.od.cycle ∧ (noticeArrives sender n s).od.cycleTimer = s.od.cycleTimer ∧
    (noticeArrives sender n s).od.diagTimer = s.od.diagTimer ∧ (noticeArrives sender n s).ssu.claim = s.ssu.claim ∧
    (noticeArrives sender n s).ssu.listenIn = s.ssu.listenIn ∧
    (noticeArrives sender n s).ssu.period = s.ssu.period ∧ (noticeArrives sender n s).lpd = s.lpd ∧
    (noticeArrives sender n s).mu = s.mu ∧ (noticeArrives sender n s).cr = s.cr ∧
    (noticeArrives sender n s).sgc = s.sgc ∧ (noticeArrives sender n s).sdu = s.sdu ∧
    (noticeArrives sender n s).re.slotA = s.re.slotA ∧ (noticeArrives sender n s).re.slotB = s.re.slotB ∧
    (noticeArrives sender n s).re.running = s.re.running ∧ (noticeArrives sender n s).re.queued = s.re.queued ∧
    (noticeArrives sender n s).re.context = s.re.context ∧ (noticeArrives sender n s).re.repeats = s.re.repeats ∧
    (noticeArrives sender n s).pu = s.pu := by
  unfold noticeArrives; (repeat' split) <;> simp

@[simp] theorem heardConsole_keeps (t : Taken) (s : State) :
    (heardConsole t s).pending = s.pending ∧ (heardConsole t s).run = s.run ∧ (heardConsole t s).config = s.config ∧
    (heardConsole t s).store = s.store ∧ (heardConsole t s).second = s.second ∧
    (heardConsole t s).freeUses = s.freeUses ∧ (heardConsole t s).link.rx = s.link.rx ∧
    (heardConsole t s).link.tx = s.link.tx ∧ (heardConsole t s).link.queue = s.link.queue ∧
    (heardConsole t s).link.confirmation = s.link.confirmation ∧
    (heardConsole t s).link.counters = s.link.counters ∧ (heardConsole t s).link.latch = s.link.latch ∧
    (heardConsole t s).link.lost = s.link.lost ∧ (heardConsole t s).link.lfsr = s.link.lfsr ∧
    (heardConsole t s).link.restartOwed = s.link.restartOwed ∧ (heardConsole t s).od = s.od ∧
    (heardConsole t s).ssu = s.ssu ∧ (heardConsole t s).lpd = s.lpd ∧ (heardConsole t s).mu = s.mu ∧
    (heardConsole t s).cr = s.cr ∧ (heardConsole t s).sgc = s.sgc ∧ (heardConsole t s).sdu = s.sdu ∧
    (heardConsole t s).re = s.re ∧ (heardConsole t s).pu = s.pu := by
  unfold heardConsole; (repeat' split) <;> simp

@[simp] theorem receptionFails_keeps (c : ReceptionFailure) (s : State) :
    (receptionFails c s).pending = s.pending ∧ (receptionFails c s).run = s.run ∧
    (receptionFails c s).config = s.config ∧ (receptionFails c s).store = s.store ∧
    (receptionFails c s).second = s.second ∧ (receptionFails c s).freeUses = s.freeUses ∧
    (receptionFails c s).link.tx = s.link.tx ∧ (receptionFails c s).link.queue = s.link.queue ∧
    (receptionFails c s).link.confirmation = s.link.confirmation ∧ (receptionFails c s).link.latch = s.link.latch ∧
    (receptionFails c s).link.lost = s.link.lost ∧ (receptionFails c s).link.lfsr = s.link.lfsr ∧
    (receptionFails c s).link.silence = s.link.silence ∧
    (receptionFails c s).link.restartOwed = s.link.restartOwed ∧ (receptionFails c s).od = s.od ∧
    (receptionFails c s).ssu = s.ssu ∧ (receptionFails c s).lpd = s.lpd ∧ (receptionFails c s).mu = s.mu ∧
    (receptionFails c s).cr = s.cr ∧ (receptionFails c s).sgc = s.sgc ∧ (receptionFails c s).sdu = s.sdu ∧
    (receptionFails c s).re = s.re ∧ (receptionFails c s).pu = s.pu := by
  unfold receptionFails; (repeat' split) <;> simp

@[simp] theorem confirmationGone_keeps (s : State) :
    (confirmationGone s).pending = s.pending ∧ (confirmationGone s).run = s.run ∧
    (confirmationGone s).config = s.config ∧ (confirmationGone s).store = s.store ∧
    (confirmationGone s).second = s.second ∧ (confirmationGone s).freeUses = s.freeUses ∧
    (confirmationGone s).link.lfsr = s.link.lfsr ∧ (confirmationGone s).od.power = s.od.power ∧
    (confirmationGone s).od.restartPending = s.od.restartPending ∧ (confirmationGone s).od.events = s.od.events ∧
    (confirmationGone s).od.cycle = s.od.cycle ∧ (confirmationGone s).od.cycleTimer = s.od.cycleTimer ∧
    (confirmationGone s).od.diagTimer = s.od.diagTimer ∧ (confirmationGone s).ssu = s.ssu ∧
    (confirmationGone s).lpd = s.lpd ∧ (confirmationGone s).mu = s.mu ∧ (confirmationGone s).cr = s.cr ∧
    (confirmationGone s).sgc = s.sgc ∧ (confirmationGone s).sdu = s.sdu ∧ (confirmationGone s).re = s.re ∧
    (confirmationGone s).pu = s.pu := by
  unfold confirmationGone; (repeat' split) <;> simp

@[simp] theorem beginFrame_keeps (idleBits : Nat) (s : State) :
    (beginFrame idleBits s).pending = s.pending ∧ (beginFrame idleBits s).run = s.run ∧
    (beginFrame idleBits s).config = s.config ∧ (beginFrame idleBits s).store = s.store ∧
    (beginFrame idleBits s).second = s.second ∧ (beginFrame idleBits s).freeUses = s.freeUses ∧
    (beginFrame idleBits s).link.confirmation = s.link.confirmation ∧
    (beginFrame idleBits s).link.counters = s.link.counters ∧ (beginFrame idleBits s).link.latch = s.link.latch ∧
    (beginFrame idleBits s).link.lost = s.link.lost ∧ (beginFrame idleBits s).link.lfsr = s.link.lfsr ∧
    (beginFrame idleBits s).link.silence = s.link.silence ∧
    (beginFrame idleBits s).link.restartOwed = s.link.restartOwed ∧ (beginFrame idleBits s).od = s.od ∧
    (beginFrame idleBits s).ssu = s.ssu ∧ (beginFrame idleBits s).lpd = s.lpd ∧ (beginFrame idleBits s).mu = s.mu ∧
    (beginFrame idleBits s).cr = s.cr ∧ (beginFrame idleBits s).sgc = s.sgc ∧ (beginFrame idleBits s).sdu = s.sdu ∧
    (beginFrame idleBits s).re = s.re ∧ (beginFrame idleBits s).pu = s.pu := by
  unfold beginFrame; (repeat' split) <;> simp

@[simp] theorem noticeLeft_keeps (f : Frame) (sent : Bool) (s : State) :
    (noticeLeft f sent s).pending = s.pending ∧ (noticeLeft f sent s).run = s.run ∧
    (noticeLeft f sent s).config = s.config ∧ (noticeLeft f sent s).store = s.store ∧
    (noticeLeft f sent s).second = s.second ∧ (noticeLeft f sent s).freeUses = s.freeUses ∧
    (noticeLeft f sent s).link.confirmation = s.link.confirmation ∧ (noticeLeft f sent s).link.lfsr = s.link.lfsr ∧
    (noticeLeft f sent s).ssu.peers = s.ssu.peers ∧ (noticeLeft f sent s).ssu.listenIn = s.ssu.listenIn ∧
    (noticeLeft f sent s).lpd.drive = s.lpd.drive ∧ (noticeLeft f sent s).lpd.sinceCrossing = s.lpd.sinceCrossing ∧
    (noticeLeft f sent s).sdu.hardness = s.sdu.hardness ∧ (noticeLeft f sent s).sdu.mark = s.sdu.mark ∧
    (noticeLeft f sent s).sdu.writing = s.sdu.writing ∧ (noticeLeft f sent s).sdu.writeTimer = s.sdu.writeTimer ∧
    (noticeLeft f sent s).sdu.rewritePending = s.sdu.rewritePending ∧
    (noticeLeft f sent s).sdu.retry = s.sdu.retry ∧ (noticeLeft f sent s).pu.trips = s.pu.trips := by
  unfold noticeLeft; (repeat' split) <;> simp

@[simp] theorem collide_keeps (s : State) :
    (collide s).pending = s.pending ∧ (collide s).run = s.run ∧ (collide s).config = s.config ∧
    (collide s).store = s.store ∧ (collide s).second = s.second ∧ (collide s).freeUses = s.freeUses ∧
    (collide s).link.confirmation = s.link.confirmation ∧ (collide s).ssu.peers = s.ssu.peers ∧
    (collide s).ssu.listenIn = s.ssu.listenIn ∧ (collide s).lpd.drive = s.lpd.drive ∧
    (collide s).lpd.sinceCrossing = s.lpd.sinceCrossing ∧ (collide s).sdu.hardness = s.sdu.hardness ∧
    (collide s).sdu.mark = s.sdu.mark ∧ (collide s).sdu.writing = s.sdu.writing ∧
    (collide s).sdu.writeTimer = s.sdu.writeTimer ∧ (collide s).sdu.rewritePending = s.sdu.rewritePending ∧
    (collide s).sdu.retry = s.sdu.retry ∧ (collide s).pu.trips = s.pu.trips := by
  unfold collide; (repeat' split) <;> simp

@[simp] theorem frameGone_keeps (s : State) :
    (frameGone s).pending = s.pending ∧ (frameGone s).run = s.run ∧ (frameGone s).config = s.config ∧
    (frameGone s).store = s.store ∧ (frameGone s).second = s.second ∧ (frameGone s).freeUses = s.freeUses ∧
    (frameGone s).link.confirmation = s.link.confirmation ∧ (frameGone s).link.lfsr = s.link.lfsr ∧
    (frameGone s).ssu.peers = s.ssu.peers ∧ (frameGone s).ssu.listenIn = s.ssu.listenIn ∧
    (frameGone s).lpd.drive = s.lpd.drive ∧ (frameGone s).lpd.sinceCrossing = s.lpd.sinceCrossing ∧
    (frameGone s).sdu.hardness = s.sdu.hardness ∧ (frameGone s).sdu.mark = s.sdu.mark ∧
    (frameGone s).sdu.writing = s.sdu.writing ∧ (frameGone s).sdu.writeTimer = s.sdu.writeTimer ∧
    (frameGone s).sdu.rewritePending = s.sdu.rewritePending ∧ (frameGone s).sdu.retry = s.sdu.retry ∧
    (frameGone s).pu.trips = s.pu.trips := by
  unfold frameGone; (repeat' split) <;> simp

@[simp] theorem hearConfirmation_keeps (char : Option Byte) (s : State) :
    (hearConfirmation char s).pending = s.pending ∧ (hearConfirmation char s).run = s.run ∧
    (hearConfirmation char s).config = s.config ∧ (hearConfirmation char s).store = s.store ∧
    (hearConfirmation char s).second = s.second ∧ (hearConfirmation char s).freeUses = s.freeUses ∧
    (hearConfirmation char s).link.rx = s.link.rx ∧
    (hearConfirmation char s).link.confirmation = s.link.confirmation ∧
    (hearConfirmation char s).link.counters = s.link.counters ∧ (hearConfirmation char s).link.lfsr = s.link.lfsr ∧
    (hearConfirmation char s).link.silence = s.link.silence ∧
    (hearConfirmation char s).link.restartOwed = s.link.restartOwed ∧
    (hearConfirmation char s).od.power = s.od.power ∧
    (hearConfirmation char s).od.restartPending = s.od.restartPending ∧
    (hearConfirmation char s).od.cycle = s.od.cycle ∧ (hearConfirmation char s).od.cycleTimer = s.od.cycleTimer ∧
    (hearConfirmation char s).od.eventsTimer = s.od.eventsTimer ∧
    (hearConfirmation char s).od.diagTimer = s.od.diagTimer ∧ (hearConfirmation char s).ssu = s.ssu ∧
    (hearConfirmation char s).lpd = s.lpd ∧ (hearConfirmation char s).mu = s.mu ∧
    (hearConfirmation char s).cr = s.cr ∧ (hearConfirmation char s).sgc = s.sgc ∧
    (hearConfirmation char s).sdu = s.sdu ∧ (hearConfirmation char s).re = s.re ∧
    (hearConfirmation char s).pu = s.pu := by
  simp [hearConfirmation]

end Sys2Proof.Machine
end

