-- ==== Sys2Proof/Laws/DriveLaws.lean ====
section
/-! SUPPORT. What the drive's events leave as it is: for each operation, every field of State it cannot change. -/

namespace Sys2Proof.Machine

@[simp] theorem abandonMeasure_keeps (s : State) :
    (abandonMeasure s).pending = s.pending ∧ (abandonMeasure s).run = s.run ∧ (abandonMeasure s).config = s.config ∧
    (abandonMeasure s).store = s.store ∧ (abandonMeasure s).second = s.second ∧
    (abandonMeasure s).freeUses = s.freeUses ∧ (abandonMeasure s).link = s.link ∧ (abandonMeasure s).od = s.od ∧
    (abandonMeasure s).ssu = s.ssu ∧ (abandonMeasure s).lpd.half = s.lpd.half ∧
    (abandonMeasure s).lpd.loads = s.lpd.loads ∧ (abandonMeasure s).lpd.pool = s.lpd.pool ∧
    (abandonMeasure s).lpd.shed = s.lpd.shed ∧ (abandonMeasure s).lpd.gates = s.lpd.gates ∧
    (abandonMeasure s).mu = s.mu ∧ (abandonMeasure s).cr = s.cr ∧ (abandonMeasure s).sgc = s.sgc ∧
    (abandonMeasure s).sdu = s.sdu ∧ (abandonMeasure s).re = s.re ∧ (abandonMeasure s).pu = s.pu := by
  unfold abandonMeasure; (repeat' split) <;> simp

@[simp] theorem mainsLost_keeps (s : State) :
    (mainsLost s).pending = s.pending ∧ (mainsLost s).run = s.run ∧ (mainsLost s).config = s.config ∧
    (mainsLost s).store = s.store ∧ (mainsLost s).second = s.second ∧ (mainsLost s).freeUses = s.freeUses ∧
    (mainsLost s).link = s.link ∧ (mainsLost s).od = s.od ∧ (mainsLost s).ssu = s.ssu ∧
    (mainsLost s).lpd.shed = s.lpd.shed ∧ (mainsLost s).mu = s.mu ∧ (mainsLost s).cr = s.cr ∧
    (mainsLost s).sgc = s.sgc ∧ (mainsLost s).sdu = s.sdu ∧ (mainsLost s).re = s.re ∧ (mainsLost s).pu = s.pu := by
  unfold mainsLost; (repeat' split) <;> simp

@[simp] theorem abandonRecovery_keeps (s : State) :
    (abandonRecovery s).pending = s.pending ∧ (abandonRecovery s).run = s.run ∧
    (abandonRecovery s).config = s.config ∧ (abandonRecovery s).store = s.store ∧
    (abandonRecovery s).second = s.second ∧ (abandonRecovery s).freeUses = s.freeUses ∧
    (abandonRecovery s).link = s.link ∧ (abandonRecovery s).od = s.od ∧ (abandonRecovery s).ssu = s.ssu ∧
    (abandonRecovery s).lpd.half = s.lpd.half ∧ (abandonRecovery s).lpd.loads = s.lpd.loads ∧
    (abandonRecovery s).lpd.pool = s.lpd.pool ∧ (abandonRecovery s).lpd.shed = s.lpd.shed ∧
    (abandonRecovery s).lpd.gates = s.lpd.gates ∧ (abandonRecovery s).mu = s.mu ∧ (abandonRecovery s).cr = s.cr ∧
    (abandonRecovery s).sgc = s.sgc ∧ (abandonRecovery s).sdu = s.sdu ∧ (abandonRecovery s).re = s.re ∧
    (abandonRecovery s).pu = s.pu := by
  unfold abandonRecovery; (repeat' split) <;> simp

end Sys2Proof.Machine
end

