-- ==== Sys2Proof/Laws/ProcessLaws.lean ====
section
/-! SUPPORT. What the processes' events leave as it is: for each operation, every field of State it cannot change. -/

namespace Sys2Proof.Machine

@[simp] theorem reactToPublication_keeps (firstLow firstFb : Bool) (s : State) :
    (reactToPublication firstLow firstFb s).pending = s.pending ∧
    (reactToPublication firstLow firstFb s).run = s.run ∧
    (reactToPublication firstLow firstFb s).config = s.config ∧
    (reactToPublication firstLow firstFb s).store = s.store ∧
    (reactToPublication firstLow firstFb s).second = s.second ∧
    (reactToPublication firstLow firstFb s).freeUses = s.freeUses ∧
    (reactToPublication firstLow firstFb s).link = s.link ∧
    (reactToPublication firstLow firstFb s).od.power = s.od.power ∧
    (reactToPublication firstLow firstFb s).od.restartPending = s.od.restartPending ∧
    (reactToPublication firstLow firstFb s).od.cycle = s.od.cycle ∧
    (reactToPublication firstLow firstFb s).od.cycleTimer = s.od.cycleTimer ∧
    (reactToPublication firstLow firstFb s).od.eventsTimer = s.od.eventsTimer ∧
    (reactToPublication firstLow firstFb s).od.diagTimer = s.od.diagTimer ∧
    (reactToPublication firstLow firstFb s).ssu.peers = s.ssu.peers ∧
    (reactToPublication firstLow firstFb s).ssu.claim = s.ssu.claim ∧
    (reactToPublication firstLow firstFb s).ssu.announced = s.ssu.announced ∧
    (reactToPublication firstLow firstFb s).ssu.raise = s.ssu.raise ∧
    (reactToPublication firstLow firstFb s).ssu.lastA = s.ssu.lastA ∧
    (reactToPublication firstLow firstFb s).ssu.lastW = s.ssu.lastW ∧
    (reactToPublication firstLow firstFb s).ssu.lastFo = s.ssu.lastFo ∧
    (reactToPublication firstLow firstFb s).ssu.contention = s.ssu.contention ∧
    (reactToPublication firstLow firstFb s).ssu.listenIn = s.ssu.listenIn ∧
    (reactToPublication firstLow firstFb s).ssu.period = s.ssu.period ∧
    (reactToPublication firstLow firstFb s).lpd.drive = s.lpd.drive ∧
    (reactToPublication firstLow firstFb s).lpd.half = s.lpd.half ∧
    (reactToPublication firstLow firstFb s).lpd.pool = s.lpd.pool ∧
    (reactToPublication firstLow firstFb s).lpd.shed = s.lpd.shed ∧
    (reactToPublication firstLow firstFb s).lpd.gates = s.lpd.gates ∧
    (reactToPublication firstLow firstFb s).lpd.sinceCrossing = s.lpd.sinceCrossing ∧
    (reactToPublication firstLow firstFb s).mu = s.mu ∧
    (reactToPublication firstLow firstFb s).sdu.hardness = s.sdu.hardness ∧
    (reactToPublication firstLow firstFb s).sdu.retry = s.sdu.retry ∧
    (reactToPublication firstLow firstFb s).sdu.failures = s.sdu.failures ∧
    (reactToPublication firstLow firstFb s).re.slotA = s.re.slotA ∧
    (reactToPublication firstLow firstFb s).re.slotB = s.re.slotB ∧
    (reactToPublication firstLow firstFb s).re.running = s.re.running ∧
    (reactToPublication firstLow firstFb s).re.queued = s.re.queued ∧
    (reactToPublication firstLow firstFb s).re.context = s.re.context ∧
    (reactToPublication firstLow firstFb s).re.repeats = s.re.repeats := by
  simp [reactToPublication]

@[simp] theorem samplingRound_keeps (x : Samples) (s : State) :
    (samplingRound x s).pending = s.pending ∧ (samplingRound x s).run = s.run ∧
    (samplingRound x s).config = s.config ∧ (samplingRound x s).store = s.store ∧
    (samplingRound x s).second = s.second ∧ (samplingRound x s).freeUses = s.freeUses ∧
    (samplingRound x s).link.rx = s.link.rx ∧ (samplingRound x s).link.tx = s.link.tx ∧
    (samplingRound x s).link.confirmation = s.link.confirmation ∧ (samplingRound x s).link.latch = s.link.latch ∧
    (samplingRound x s).link.lost = s.link.lost ∧ (samplingRound x s).link.lfsr = s.link.lfsr ∧
    (samplingRound x s).link.restartOwed = s.link.restartOwed ∧ (samplingRound x s).link.silence = s.link.silence ∧
    (samplingRound x s).od.restartPending = s.od.restartPending ∧ (samplingRound x s).od.cycle = s.od.cycle ∧
    (samplingRound x s).od.cycleTimer = s.od.cycleTimer ∧ (samplingRound x s).od.diagTimer = s.od.diagTimer ∧
    (samplingRound x s).ssu.peers = s.ssu.peers ∧ (samplingRound x s).ssu.listenIn = s.ssu.listenIn ∧
    (samplingRound x s).ssu.period = s.ssu.period ∧ (samplingRound x s).lpd.drive = s.lpd.drive ∧
    (samplingRound x s).lpd.half = s.lpd.half ∧ (samplingRound x s).lpd.pool = s.lpd.pool ∧
    (samplingRound x s).lpd.shed = s.lpd.shed ∧ (samplingRound x s).lpd.gates = s.lpd.gates ∧
    (samplingRound x s).lpd.sinceCrossing = s.lpd.sinceCrossing ∧ (samplingRound x s).mu.mains = s.mu.mains ∧
    (samplingRound x s).sdu.hardness = s.sdu.hardness ∧ (samplingRound x s).sdu.retry = s.sdu.retry ∧
    (samplingRound x s).sdu.failures = s.sdu.failures ∧ (samplingRound x s).re.slotA = s.re.slotA ∧
    (samplingRound x s).re.slotB = s.re.slotB ∧ (samplingRound x s).re.running = s.re.running ∧
    (samplingRound x s).re.queued = s.re.queued ∧ (samplingRound x s).re.context = s.re.context ∧
    (samplingRound x s).re.repeats = s.re.repeats := by
  simp [samplingRound, sampleAll]

@[simp] theorem disagreementPersists_keeps (s : State) :
    (disagreementPersists s).pending = s.pending ∧ (disagreementPersists s).run = s.run ∧
    (disagreementPersists s).config = s.config ∧ (disagreementPersists s).store = s.store ∧
    (disagreementPersists s).second = s.second ∧ (disagreementPersists s).freeUses = s.freeUses ∧
    (disagreementPersists s).link.rx = s.link.rx ∧ (disagreementPersists s).link.tx = s.link.tx ∧
    (disagreementPersists s).link.confirmation = s.link.confirmation ∧
    (disagreementPersists s).link.latch = s.link.latch ∧ (disagreementPersists s).link.lost = s.link.lost ∧
    (disagreementPersists s).link.lfsr = s.link.lfsr ∧ (disagreementPersists s).link.silence = s.link.silence ∧
    (disagreementPersists s).link.restartOwed = s.link.restartOwed ∧
    (disagreementPersists s).od.restartPending = s.od.restartPending ∧
    (disagreementPersists s).od.cycle = s.od.cycle ∧ (disagreementPersists s).od.cycleTimer = s.od.cycleTimer ∧
    (disagreementPersists s).od.diagTimer = s.od.diagTimer ∧ (disagreementPersists s).ssu.peers = s.ssu.peers ∧
    (disagreementPersists s).ssu.listenIn = s.ssu.listenIn ∧ (disagreementPersists s).ssu.period = s.ssu.period ∧
    (disagreementPersists s).lpd.drive = s.lpd.drive ∧ (disagreementPersists s).lpd.half = s.lpd.half ∧
    (disagreementPersists s).lpd.pool = s.lpd.pool ∧ (disagreementPersists s).lpd.shed = s.lpd.shed ∧
    (disagreementPersists s).lpd.gates = s.lpd.gates ∧
    (disagreementPersists s).lpd.sinceCrossing = s.lpd.sinceCrossing ∧
    (disagreementPersists s).mu.mains = s.mu.mains ∧ (disagreementPersists s).sgc.user = s.sgc.user ∧
    (disagreementPersists s).sgc.derate = s.sgc.derate ∧ (disagreementPersists s).sdu.account = s.sdu.account ∧
    (disagreementPersists s).sdu.hardness = s.sdu.hardness ∧ (disagreementPersists s).sdu.mark = s.sdu.mark ∧
    (disagreementPersists s).sdu.phase = s.sdu.phase ∧
    (disagreementPersists s).sdu.lockingFrom = s.sdu.lockingFrom ∧
    (disagreementPersists s).sdu.soakCount = s.sdu.soakCount ∧
    (disagreementPersists s).sdu.rinseCycle = s.sdu.rinseCycle ∧
    (disagreementPersists s).sdu.rinseStep = s.sdu.rinseStep ∧
    (disagreementPersists s).sdu.heatingTime = s.sdu.heatingTime ∧
    (disagreementPersists s).sdu.drained = s.sdu.drained ∧ (disagreementPersists s).sdu.retry = s.sdu.retry ∧
    (disagreementPersists s).sdu.failures = s.sdu.failures ∧ (disagreementPersists s).re.slotA = s.re.slotA ∧
    (disagreementPersists s).re.slotB = s.re.slotB ∧ (disagreementPersists s).re.running = s.re.running ∧
    (disagreementPersists s).re.queued = s.re.queued ∧ (disagreementPersists s).re.context = s.re.context ∧
    (disagreementPersists s).re.repeats = s.re.repeats ∧ (disagreementPersists s).pu.command = s.pu.command ∧
    (disagreementPersists s).pu.lock = s.pu.lock ∧ (disagreementPersists s).pu.travel = s.pu.travel := by
  unfold disagreementPersists; (repeat' split) <;> simp

@[simp] theorem fanSwitch_keeps (s : State) :
    (fanSwitch s).pending = s.pending ∧ (fanSwitch s).run = s.run ∧ (fanSwitch s).config = s.config ∧
    (fanSwitch s).store = s.store ∧ (fanSwitch s).second = s.second ∧ (fanSwitch s).freeUses = s.freeUses ∧
    (fanSwitch s).link = s.link ∧ (fanSwitch s).od = s.od ∧ (fanSwitch s).ssu = s.ssu ∧ (fanSwitch s).lpd = s.lpd ∧
    (fanSwitch s).mu = s.mu ∧ (fanSwitch s).cr.owner = s.cr.owner ∧ (fanSwitch s).cr.request = s.cr.request ∧
    (fanSwitch s).cr.temperature = s.cr.temperature ∧ (fanSwitch s).cr.humidity = s.cr.humidity ∧
    (fanSwitch s).cr.ventOpen = s.cr.ventOpen ∧ (fanSwitch s).sgc = s.sgc ∧ (fanSwitch s).sdu = s.sdu ∧
    (fanSwitch s).re = s.re ∧ (fanSwitch s).pu = s.pu := by
  unfold fanSwitch; (repeat' split) <;> simp

@[simp] theorem furtherPulse_keeps (s : State) :
    (furtherPulse s).pending = s.pending ∧ (furtherPulse s).run = s.run ∧ (furtherPulse s).config = s.config ∧
    (furtherPulse s).store = s.store ∧ (furtherPulse s).second = s.second ∧ (furtherPulse s).freeUses = s.freeUses ∧
    (furtherPulse s).link.rx = s.link.rx ∧ (furtherPulse s).link.tx = s.link.tx ∧
    (furtherPulse s).link.confirmation = s.link.confirmation ∧ (furtherPulse s).link.latch = s.link.latch ∧
    (furtherPulse s).link.lost = s.link.lost ∧ (furtherPulse s).link.lfsr = s.link.lfsr ∧
    (furtherPulse s).link.silence = s.link.silence ∧ (furtherPulse s).link.restartOwed = s.link.restartOwed ∧
    (furtherPulse s).od.power = s.od.power ∧ (furtherPulse s).od.restartPending = s.od.restartPending ∧
    (furtherPulse s).od.cycle = s.od.cycle ∧ (furtherPulse s).od.cycleTimer = s.od.cycleTimer ∧
    (furtherPulse s).od.diagTimer = s.od.diagTimer ∧ (furtherPulse s).ssu = s.ssu ∧
    (furtherPulse s).lpd.drive = s.lpd.drive ∧ (furtherPulse s).lpd.half = s.lpd.half ∧
    (furtherPulse s).lpd.loads.top = s.lpd.loads.top ∧ (furtherPulse s).lpd.loads.bottom = s.lpd.loads.bottom ∧
    (furtherPulse s).lpd.loads.ring = s.lpd.loads.ring ∧ (furtherPulse s).lpd.pool = s.lpd.pool ∧
    (furtherPulse s).lpd.shed = s.lpd.shed ∧ (furtherPulse s).lpd.gates = s.lpd.gates ∧
    (furtherPulse s).lpd.sinceCrossing = s.lpd.sinceCrossing ∧ (furtherPulse s).mu = s.mu ∧
    (furtherPulse s).cr = s.cr ∧ (furtherPulse s).sgc.user = s.sgc.user ∧
    (furtherPulse s).sgc.steamWanted = s.sgc.steamWanted ∧ (furtherPulse s).sgc.steamDemand = s.sgc.steamDemand ∧
    (furtherPulse s).sgc.derate = s.sgc.derate ∧ (furtherPulse s).sgc.coolTime = s.sgc.coolTime ∧
    (furtherPulse s).sgc.drainCount = s.sgc.drainCount ∧ (furtherPulse s).sdu.account = s.sdu.account ∧
    (furtherPulse s).sdu.hardness = s.sdu.hardness ∧ (furtherPulse s).sdu.mark = s.sdu.mark ∧
    (furtherPulse s).sdu.phase = s.sdu.phase ∧ (furtherPulse s).sdu.lockingFrom = s.sdu.lockingFrom ∧
    (furtherPulse s).sdu.soakCount = s.sdu.soakCount ∧ (furtherPulse s).sdu.rinseCycle = s.sdu.rinseCycle ∧
    (furtherPulse s).sdu.rinseStep = s.sdu.rinseStep ∧ (furtherPulse s).sdu.heatingTime = s.sdu.heatingTime ∧
    (furtherPulse s).sdu.drained = s.sdu.drained ∧ (furtherPulse s).sdu.writing = s.sdu.writing ∧
    (furtherPulse s).sdu.writeTimer = s.sdu.writeTimer ∧
    (furtherPulse s).sdu.rewritePending = s.sdu.rewritePending ∧ (furtherPulse s).sdu.retry = s.sdu.retry ∧
    (furtherPulse s).sdu.failures = s.sdu.failures ∧ (furtherPulse s).re.slotA = s.re.slotA ∧
    (furtherPulse s).re.slotB = s.re.slotB ∧ (furtherPulse s).re.running = s.re.running ∧
    (furtherPulse s).re.queued = s.re.queued ∧ (furtherPulse s).re.context = s.re.context ∧
    (furtherPulse s).re.repeats = s.re.repeats ∧ (furtherPulse s).pu = s.pu := by
  unfold furtherPulse; (repeat' split) <;> simp

@[simp] theorem pulseEnds_keeps (s : State) :
    (pulseEnds s).pending = s.pending ∧ (pulseEnds s).run = s.run ∧ (pulseEnds s).config = s.config ∧
    (pulseEnds s).store = s.store ∧ (pulseEnds s).second = s.second ∧ (pulseEnds s).freeUses = s.freeUses ∧
    (pulseEnds s).link = s.link ∧ (pulseEnds s).od = s.od ∧ (pulseEnds s).ssu = s.ssu ∧ (pulseEnds s).lpd = s.lpd ∧
    (pulseEnds s).mu = s.mu ∧ (pulseEnds s).cr = s.cr ∧ (pulseEnds s).sgc.state = s.sgc.state ∧
    (pulseEnds s).sgc.user = s.sgc.user ∧ (pulseEnds s).sgc.steamWanted = s.sgc.steamWanted ∧
    (pulseEnds s).sgc.steamDemand = s.sgc.steamDemand ∧ (pulseEnds s).sgc.derate = s.sgc.derate ∧
    (pulseEnds s).sgc.pulses = s.sgc.pulses ∧ (pulseEnds s).sgc.pulseTimer = s.sgc.pulseTimer ∧
    (pulseEnds s).sgc.wait = s.sgc.wait ∧ (pulseEnds s).sgc.limitMark = s.sgc.limitMark ∧
    (pulseEnds s).sgc.coolTime = s.sgc.coolTime ∧ (pulseEnds s).sgc.drainCount = s.sgc.drainCount ∧
    (pulseEnds s).sdu = s.sdu ∧ (pulseEnds s).re = s.re ∧ (pulseEnds s).pu = s.pu := by
  unfold pulseEnds; split <;> simp

@[simp] theorem waitEnds_keeps (s : State) :
    (waitEnds s).pending = s.pending ∧ (waitEnds s).run = s.run ∧ (waitEnds s).config = s.config ∧
    (waitEnds s).store = s.store ∧ (waitEnds s).second = s.second ∧ (waitEnds s).freeUses = s.freeUses ∧
    (waitEnds s).link.rx = s.link.rx ∧ (waitEnds s).link.tx = s.link.tx ∧
    (waitEnds s).link.confirmation = s.link.confirmation ∧ (waitEnds s).link.latch = s.link.latch ∧
    (waitEnds s).link.lost = s.link.lost ∧ (waitEnds s).link.lfsr = s.link.lfsr ∧
    (waitEnds s).link.restartOwed = s.link.restartOwed ∧ (waitEnds s).link.silence = s.link.silence ∧
    (waitEnds s).od.power = s.od.power ∧ (waitEnds s).od.restartPending = s.od.restartPending ∧
    (waitEnds s).od.cycle = s.od.cycle ∧ (waitEnds s).od.cycleTimer = s.od.cycleTimer ∧
    (waitEnds s).od.diagTimer = s.od.diagTimer ∧ (waitEnds s).ssu.peers = s.ssu.peers ∧
    (waitEnds s).ssu.claim = s.ssu.claim ∧ (waitEnds s).ssu.announced = s.ssu.announced ∧
    (waitEnds s).ssu.raise = s.ssu.raise ∧ (waitEnds s).ssu.lastA = s.ssu.lastA ∧
    (waitEnds s).ssu.lastW = s.ssu.lastW ∧ (waitEnds s).ssu.lastFo = s.ssu.lastFo ∧
    (waitEnds s).ssu.contention = s.ssu.contention ∧ (waitEnds s).ssu.listenIn = s.ssu.listenIn ∧
    (waitEnds s).ssu.period = s.ssu.period ∧ (waitEnds s).lpd.drive = s.lpd.drive ∧
    (waitEnds s).lpd.half = s.lpd.half ∧ (waitEnds s).lpd.pool = s.lpd.pool ∧ (waitEnds s).lpd.shed = s.lpd.shed ∧
    (waitEnds s).lpd.gates = s.lpd.gates ∧ (waitEnds s).lpd.sinceCrossing = s.lpd.sinceCrossing ∧
    (waitEnds s).lpd.loads.top = s.lpd.loads.top ∧ (waitEnds s).lpd.loads.bottom = s.lpd.loads.bottom ∧
    (waitEnds s).lpd.loads.ring = s.lpd.loads.ring ∧ (waitEnds s).mu = s.mu ∧ (waitEnds s).cr = s.cr ∧
    (waitEnds s).sgc.steamWanted = s.sgc.steamWanted ∧ (waitEnds s).sgc.steamDemand = s.sgc.steamDemand ∧
    (waitEnds s).sdu.hardness = s.sdu.hardness ∧ (waitEnds s).sdu.retry = s.sdu.retry ∧
    (waitEnds s).sdu.failures = s.sdu.failures ∧ (waitEnds s).re.slotA = s.re.slotA ∧
    (waitEnds s).re.slotB = s.re.slotB ∧ (waitEnds s).re.running = s.re.running ∧
    (waitEnds s).re.queued = s.re.queued ∧ (waitEnds s).re.context = s.re.context ∧
    (waitEnds s).re.repeats = s.re.repeats ∧ (waitEnds s).pu.trips.cavityOvertemp = s.pu.trips.cavityOvertemp ∧
    (waitEnds s).pu.trips.boilerDry = s.pu.trips.boilerDry ∧ (waitEnds s).pu.trips.sensor = s.pu.trips.sensor ∧
    (waitEnds s).sdu.soakCount = s.sdu.soakCount := by
  unfold waitEnds; (repeat' split) <;> simp

@[simp] theorem coolTimeEnds_keeps (s : State) :
    (coolTimeEnds s).pending = s.pending ∧ (coolTimeEnds s).run = s.run ∧ (coolTimeEnds s).config = s.config ∧
    (coolTimeEnds s).store = s.store ∧ (coolTimeEnds s).second = s.second ∧ (coolTimeEnds s).freeUses = s.freeUses ∧
    (coolTimeEnds s).link = s.link ∧ (coolTimeEnds s).od.power = s.od.power ∧
    (coolTimeEnds s).od.restartPending = s.od.restartPending ∧ (coolTimeEnds s).od.cycle = s.od.cycle ∧
    (coolTimeEnds s).od.cycleTimer = s.od.cycleTimer ∧ (coolTimeEnds s).od.eventsTimer = s.od.eventsTimer ∧
    (coolTimeEnds s).od.diagTimer = s.od.diagTimer ∧ (coolTimeEnds s).ssu = s.ssu ∧
    (coolTimeEnds s).lpd.drive = s.lpd.drive ∧ (coolTimeEnds s).lpd.half = s.lpd.half ∧
    (coolTimeEnds s).lpd.loads.top = s.lpd.loads.top ∧ (coolTimeEnds s).lpd.loads.bottom = s.lpd.loads.bottom ∧
    (coolTimeEnds s).lpd.loads.ring = s.lpd.loads.ring ∧ (coolTimeEnds s).lpd.pool = s.lpd.pool ∧
    (coolTimeEnds s).lpd.shed = s.lpd.shed ∧ (coolTimeEnds s).lpd.gates = s.lpd.gates ∧
    (coolTimeEnds s).lpd.sinceCrossing = s.lpd.sinceCrossing ∧ (coolTimeEnds s).mu = s.mu ∧
    (coolTimeEnds s).cr = s.cr ∧ (coolTimeEnds s).sgc.user = s.sgc.user ∧
    (coolTimeEnds s).sgc.steamWanted = s.sgc.steamWanted ∧ (coolTimeEnds s).sgc.steamDemand = s.sgc.steamDemand ∧
    (coolTimeEnds s).sgc.derate = s.sgc.derate ∧ (coolTimeEnds s).sgc.pumpDrive = s.sgc.pumpDrive ∧
    (coolTimeEnds s).sdu = s.sdu ∧ (coolTimeEnds s).re.slotA = s.re.slotA ∧ (coolTimeEnds s).re.slotB = s.re.slotB ∧
    (coolTimeEnds s).re.running = s.re.running ∧ (coolTimeEnds s).re.queued = s.re.queued ∧
    (coolTimeEnds s).re.context = s.re.context ∧ (coolTimeEnds s).re.repeats = s.re.repeats ∧
    (coolTimeEnds s).pu = s.pu := by
  unfold coolTimeEnds; (repeat' split) <;> simp

@[simp] theorem drainEnds_keeps (s : State) :
    (drainEnds s).pending = s.pending ∧ (drainEnds s).run = s.run ∧ (drainEnds s).config = s.config ∧
    (drainEnds s).store = s.store ∧ (drainEnds s).second = s.second ∧ (drainEnds s).freeUses = s.freeUses ∧
    (drainEnds s).link = s.link ∧ (drainEnds s).od.power = s.od.power ∧
    (drainEnds s).od.restartPending = s.od.restartPending ∧ (drainEnds s).od.cycle = s.od.cycle ∧
    (drainEnds s).od.cycleTimer = s.od.cycleTimer ∧ (drainEnds s).od.eventsTimer = s.od.eventsTimer ∧
    (drainEnds s).od.diagTimer = s.od.diagTimer ∧ (drainEnds s).ssu = s.ssu ∧
    (drainEnds s).lpd.drive = s.lpd.drive ∧ (drainEnds s).lpd.half = s.lpd.half ∧
    (drainEnds s).lpd.loads.top = s.lpd.loads.top ∧ (drainEnds s).lpd.loads.bottom = s.lpd.loads.bottom ∧
    (drainEnds s).lpd.loads.ring = s.lpd.loads.ring ∧ (drainEnds s).lpd.pool = s.lpd.pool ∧
    (drainEnds s).lpd.shed = s.lpd.shed ∧ (drainEnds s).lpd.gates = s.lpd.gates ∧
    (drainEnds s).lpd.sinceCrossing = s.lpd.sinceCrossing ∧ (drainEnds s).mu = s.mu ∧ (drainEnds s).cr = s.cr ∧
    (drainEnds s).sgc.user = s.sgc.user ∧ (drainEnds s).sgc.steamWanted = s.sgc.steamWanted ∧
    (drainEnds s).sgc.steamDemand = s.sgc.steamDemand ∧ (drainEnds s).sgc.derate = s.sgc.derate ∧
    (drainEnds s).sdu.account = s.sdu.account ∧ (drainEnds s).sdu.hardness = s.sdu.hardness ∧
    (drainEnds s).sdu.mark = s.sdu.mark ∧ (drainEnds s).sdu.phase = s.sdu.phase ∧
    (drainEnds s).sdu.lockingFrom = s.sdu.lockingFrom ∧ (drainEnds s).sdu.soakCount = s.sdu.soakCount ∧
    (drainEnds s).sdu.rinseCycle = s.sdu.rinseCycle ∧ (drainEnds s).sdu.rinseStep = s.sdu.rinseStep ∧
    (drainEnds s).sdu.heatingTime = s.sdu.heatingTime ∧ (drainEnds s).sdu.writing = s.sdu.writing ∧
    (drainEnds s).sdu.writeTimer = s.sdu.writeTimer ∧ (drainEnds s).sdu.rewritePending = s.sdu.rewritePending ∧
    (drainEnds s).sdu.retry = s.sdu.retry ∧ (drainEnds s).sdu.failures = s.sdu.failures ∧
    (drainEnds s).re.slotA = s.re.slotA ∧ (drainEnds s).re.slotB = s.re.slotB ∧
    (drainEnds s).re.running = s.re.running ∧ (drainEnds s).re.queued = s.re.queued ∧
    (drainEnds s).re.context = s.re.context ∧ (drainEnds s).re.repeats = s.re.repeats ∧ (drainEnds s).pu = s.pu := by
  unfold drainEnds; (repeat' split) <;> simp

@[simp] theorem drainComplete_keeps (s : State) :
    (drainComplete s).pending = s.pending ∧ (drainComplete s).run = s.run ∧ (drainComplete s).config = s.config ∧
    (drainComplete s).store = s.store ∧ (drainComplete s).second = s.second ∧
    (drainComplete s).freeUses = s.freeUses ∧ (drainComplete s).link.rx = s.link.rx ∧
    (drainComplete s).link.tx = s.link.tx ∧ (drainComplete s).link.confirmation = s.link.confirmation ∧
    (drainComplete s).link.latch = s.link.latch ∧ (drainComplete s).link.lost = s.link.lost ∧
    (drainComplete s).link.lfsr = s.link.lfsr ∧ (drainComplete s).link.restartOwed = s.link.restartOwed ∧
    (drainComplete s).link.silence = s.link.silence ∧ (drainComplete s).od.restartPending = s.od.restartPending ∧
    (drainComplete s).od.cycle = s.od.cycle ∧ (drainComplete s).od.cycleTimer = s.od.cycleTimer ∧
    (drainComplete s).od.diagTimer = s.od.diagTimer ∧ (drainComplete s).ssu.peers = s.ssu.peers ∧
    (drainComplete s).ssu.listenIn = s.ssu.listenIn ∧ (drainComplete s).ssu.period = s.ssu.period ∧
    (drainComplete s).lpd.drive = s.lpd.drive ∧ (drainComplete s).lpd.half = s.lpd.half ∧
    (drainComplete s).lpd.pool = s.lpd.pool ∧ (drainComplete s).lpd.shed = s.lpd.shed ∧
    (drainComplete s).lpd.gates = s.lpd.gates ∧ (drainComplete s).lpd.sinceCrossing = s.lpd.sinceCrossing ∧
    (drainComplete s).lpd.loads.top = s.lpd.loads.top ∧ (drainComplete s).lpd.loads.bottom = s.lpd.loads.bottom ∧
    (drainComplete s).lpd.loads.ring = s.lpd.loads.ring ∧ (drainComplete s).mu = s.mu ∧
    (drainComplete s).cr.owner = s.cr.owner ∧ (drainComplete s).cr.request = s.cr.request ∧
    (drainComplete s).cr.temperature = s.cr.temperature ∧ (drainComplete s).cr.humidity = s.cr.humidity ∧
    (drainComplete s).cr.ventOpen = s.cr.ventOpen ∧ (drainComplete s).sgc.steamWanted = s.sgc.steamWanted ∧
    (drainComplete s).sgc.steamDemand = s.sgc.steamDemand ∧ (drainComplete s).sdu.hardness = s.sdu.hardness ∧
    (drainComplete s).sdu.soakCount = s.sdu.soakCount ∧ (drainComplete s).sdu.retry = s.sdu.retry ∧
    (drainComplete s).sdu.failures = s.sdu.failures ∧ (drainComplete s).re.slotA = s.re.slotA ∧
    (drainComplete s).re.slotB = s.re.slotB ∧ (drainComplete s).re.running = s.re.running ∧
    (drainComplete s).re.queued = s.re.queued ∧ (drainComplete s).re.context = s.re.context ∧
    (drainComplete s).re.repeats = s.re.repeats ∧
    (drainComplete s).pu.trips.cavityOvertemp = s.pu.trips.cavityOvertemp ∧
    (drainComplete s).pu.trips.boilerDry = s.pu.trips.boilerDry ∧
    (drainComplete s).pu.trips.sensor = s.pu.trips.sensor := by
  unfold drainComplete; (repeat' split) <;> simp

@[simp] theorem writeReported_keeps (readBack : StoredRecord) (s : State) :
    (writeReported readBack s).pending = s.pending ∧ (writeReported readBack s).run = s.run ∧
    (writeReported readBack s).config = s.config ∧ (writeReported readBack s).second = s.second ∧
    (writeReported readBack s).freeUses = s.freeUses ∧ (writeReported readBack s).link = s.link ∧
    (writeReported readBack s).od = s.od ∧ (writeReported readBack s).ssu = s.ssu ∧
    (writeReported readBack s).lpd = s.lpd ∧ (writeReported readBack s).mu = s.mu ∧
    (writeReported readBack s).cr = s.cr ∧ (writeReported readBack s).sgc = s.sgc ∧
    (writeReported readBack s).sdu.account = s.sdu.account ∧
    (writeReported readBack s).sdu.hardness = s.sdu.hardness ∧ (writeReported readBack s).sdu.mark = s.sdu.mark ∧
    (writeReported readBack s).sdu.meteringSum = s.sdu.meteringSum ∧
    (writeReported readBack s).sdu.phase = s.sdu.phase ∧
    (writeReported readBack s).sdu.lockingFrom = s.sdu.lockingFrom ∧
    (writeReported readBack s).sdu.soakCount = s.sdu.soakCount ∧
    (writeReported readBack s).sdu.rinseCycle = s.sdu.rinseCycle ∧
    (writeReported readBack s).sdu.rinseStep = s.sdu.rinseStep ∧
    (writeReported readBack s).sdu.heatingTime = s.sdu.heatingTime ∧
    (writeReported readBack s).sdu.drained = s.sdu.drained ∧ (writeReported readBack s).re = s.re ∧
    (writeReported readBack s).pu = s.pu := by
  unfold writeReported; (repeat' split) <;> simp

@[simp] theorem writeUnreported_keeps (held : StoredRecord) (s : State) :
    (writeUnreported held s).pending = s.pending ∧ (writeUnreported held s).run = s.run ∧
    (writeUnreported held s).config = s.config ∧ (writeUnreported held s).second = s.second ∧
    (writeUnreported held s).freeUses = s.freeUses ∧ (writeUnreported held s).link = s.link ∧
    (writeUnreported held s).od = s.od ∧ (writeUnreported held s).ssu = s.ssu ∧
    (writeUnreported held s).lpd = s.lpd ∧ (writeUnreported held s).mu = s.mu ∧ (writeUnreported held s).cr = s.cr ∧
    (writeUnreported held s).sgc = s.sgc ∧ (writeUnreported held s).sdu.account = s.sdu.account ∧
    (writeUnreported held s).sdu.hardness = s.sdu.hardness ∧ (writeUnreported held s).sdu.mark = s.sdu.mark ∧
    (writeUnreported held s).sdu.meteringSum = s.sdu.meteringSum ∧
    (writeUnreported held s).sdu.phase = s.sdu.phase ∧
    (writeUnreported held s).sdu.lockingFrom = s.sdu.lockingFrom ∧
    (writeUnreported held s).sdu.soakCount = s.sdu.soakCount ∧
    (writeUnreported held s).sdu.rinseCycle = s.sdu.rinseCycle ∧
    (writeUnreported held s).sdu.rinseStep = s.sdu.rinseStep ∧
    (writeUnreported held s).sdu.heatingTime = s.sdu.heatingTime ∧
    (writeUnreported held s).sdu.drained = s.sdu.drained ∧ (writeUnreported held s).re = s.re ∧
    (writeUnreported held s).pu = s.pu := by
  unfold writeUnreported; (repeat' split) <;> simp

@[simp] theorem soakCompletes_keeps (s : State) :
    (soakCompletes s).pending = s.pending ∧ (soakCompletes s).run = s.run ∧ (soakCompletes s).config = s.config ∧
    (soakCompletes s).store = s.store ∧ (soakCompletes s).second = s.second ∧
    (soakCompletes s).freeUses = s.freeUses ∧ (soakCompletes s).link.rx = s.link.rx ∧
    (soakCompletes s).link.tx = s.link.tx ∧ (soakCompletes s).link.confirmation = s.link.confirmation ∧
    (soakCompletes s).link.latch = s.link.latch ∧ (soakCompletes s).link.lost = s.link.lost ∧
    (soakCompletes s).link.lfsr = s.link.lfsr ∧ (soakCompletes s).link.restartOwed = s.link.restartOwed ∧
    (soakCompletes s).link.silence = s.link.silence ∧ (soakCompletes s).od.power = s.od.power ∧
    (soakCompletes s).od.restartPending = s.od.restartPending ∧ (soakCompletes s).od.cycle = s.od.cycle ∧
    (soakCompletes s).od.cycleTimer = s.od.cycleTimer ∧ (soakCompletes s).od.diagTimer = s.od.diagTimer ∧
    (soakCompletes s).ssu.peers = s.ssu.peers ∧ (soakCompletes s).ssu.claim = s.ssu.claim ∧
    (soakCompletes s).ssu.announced = s.ssu.announced ∧ (soakCompletes s).ssu.raise = s.ssu.raise ∧
    (soakCompletes s).ssu.lastA = s.ssu.lastA ∧ (soakCompletes s).ssu.lastW = s.ssu.lastW ∧
    (soakCompletes s).ssu.lastFo = s.ssu.lastFo ∧ (soakCompletes s).ssu.contention = s.ssu.contention ∧
    (soakCompletes s).ssu.listenIn = s.ssu.listenIn ∧ (soakCompletes s).ssu.period = s.ssu.period ∧
    (soakCompletes s).lpd.drive = s.lpd.drive ∧ (soakCompletes s).lpd.half = s.lpd.half ∧
    (soakCompletes s).lpd.pool = s.lpd.pool ∧ (soakCompletes s).lpd.shed = s.lpd.shed ∧
    (soakCompletes s).lpd.gates = s.lpd.gates ∧ (soakCompletes s).lpd.sinceCrossing = s.lpd.sinceCrossing ∧
    (soakCompletes s).lpd.loads.top = s.lpd.loads.top ∧ (soakCompletes s).lpd.loads.bottom = s.lpd.loads.bottom ∧
    (soakCompletes s).lpd.loads.ring = s.lpd.loads.ring ∧ (soakCompletes s).mu = s.mu ∧
    (soakCompletes s).cr = s.cr ∧ (soakCompletes s).sgc.steamWanted = s.sgc.steamWanted ∧
    (soakCompletes s).sgc.steamDemand = s.sgc.steamDemand ∧ (soakCompletes s).sdu.hardness = s.sdu.hardness ∧
    (soakCompletes s).sdu.retry = s.sdu.retry ∧ (soakCompletes s).sdu.failures = s.sdu.failures ∧
    (soakCompletes s).re.slotA = s.re.slotA ∧ (soakCompletes s).re.slotB = s.re.slotB ∧
    (soakCompletes s).re.running = s.re.running ∧ (soakCompletes s).re.queued = s.re.queued ∧
    (soakCompletes s).re.context = s.re.context ∧ (soakCompletes s).re.repeats = s.re.repeats ∧
    (soakCompletes s).pu.trips.cavityOvertemp = s.pu.trips.cavityOvertemp ∧
    (soakCompletes s).pu.trips.boilerDry = s.pu.trips.boilerDry ∧
    (soakCompletes s).pu.trips.sensor = s.pu.trips.sensor := by
  unfold soakCompletes; (repeat' split) <;> simp

@[simp] theorem heatLimit_keeps (s : State) :
    (heatLimit s).pending = s.pending ∧ (heatLimit s).run = s.run ∧ (heatLimit s).config = s.config ∧
    (heatLimit s).store = s.store ∧ (heatLimit s).second = s.second ∧ (heatLimit s).freeUses = s.freeUses ∧
    (heatLimit s).link.rx = s.link.rx ∧ (heatLimit s).link.tx = s.link.tx ∧
    (heatLimit s).link.confirmation = s.link.confirmation ∧ (heatLimit s).link.latch = s.link.latch ∧
    (heatLimit s).link.lost = s.link.lost ∧ (heatLimit s).link.lfsr = s.link.lfsr ∧
    (heatLimit s).link.restartOwed = s.link.restartOwed ∧ (heatLimit s).link.silence = s.link.silence ∧
    (heatLimit s).od.power = s.od.power ∧ (heatLimit s).od.restartPending = s.od.restartPending ∧
    (heatLimit s).od.cycle = s.od.cycle ∧ (heatLimit s).od.cycleTimer = s.od.cycleTimer ∧
    (heatLimit s).od.diagTimer = s.od.diagTimer ∧ (heatLimit s).ssu.peers = s.ssu.peers ∧
    (heatLimit s).ssu.claim = s.ssu.claim ∧ (heatLimit s).ssu.announced = s.ssu.announced ∧
    (heatLimit s).ssu.raise = s.ssu.raise ∧ (heatLimit s).ssu.lastA = s.ssu.lastA ∧
    (heatLimit s).ssu.lastW = s.ssu.lastW ∧ (heatLimit s).ssu.lastFo = s.ssu.lastFo ∧
    (heatLimit s).ssu.contention = s.ssu.contention ∧ (heatLimit s).ssu.listenIn = s.ssu.listenIn ∧
    (heatLimit s).ssu.period = s.ssu.period ∧ (heatLimit s).lpd.drive = s.lpd.drive ∧
    (heatLimit s).lpd.half = s.lpd.half ∧ (heatLimit s).lpd.pool = s.lpd.pool ∧
    (heatLimit s).lpd.shed = s.lpd.shed ∧ (heatLimit s).lpd.gates = s.lpd.gates ∧
    (heatLimit s).lpd.sinceCrossing = s.lpd.sinceCrossing ∧ (heatLimit s).lpd.loads.top = s.lpd.loads.top ∧
    (heatLimit s).lpd.loads.bottom = s.lpd.loads.bottom ∧ (heatLimit s).lpd.loads.ring = s.lpd.loads.ring ∧
    (heatLimit s).mu = s.mu ∧ (heatLimit s).cr = s.cr ∧ (heatLimit s).sgc.steamWanted = s.sgc.steamWanted ∧
    (heatLimit s).sgc.steamDemand = s.sgc.steamDemand ∧ (heatLimit s).sdu.hardness = s.sdu.hardness ∧
    (heatLimit s).sdu.retry = s.sdu.retry ∧ (heatLimit s).sdu.failures = s.sdu.failures ∧
    (heatLimit s).re.slotA = s.re.slotA ∧ (heatLimit s).re.slotB = s.re.slotB ∧
    (heatLimit s).re.running = s.re.running ∧ (heatLimit s).re.queued = s.re.queued ∧
    (heatLimit s).re.context = s.re.context ∧ (heatLimit s).re.repeats = s.re.repeats ∧
    (heatLimit s).pu.trips.cavityOvertemp = s.pu.trips.cavityOvertemp ∧
    (heatLimit s).pu.trips.boilerDry = s.pu.trips.boilerDry ∧ (heatLimit s).pu.trips.sensor = s.pu.trips.sensor ∧
    (heatLimit s).sdu.soakCount = s.sdu.soakCount := by
  unfold heatLimit; (repeat' split) <;> simp

@[simp] theorem travelTimesOut_keeps (s : State) :
    (travelTimesOut s).pending = s.pending ∧ (travelTimesOut s).run = s.run ∧ (travelTimesOut s).config = s.config ∧
    (travelTimesOut s).store = s.store ∧ (travelTimesOut s).second = s.second ∧
    (travelTimesOut s).freeUses = s.freeUses ∧ (travelTimesOut s).link.rx = s.link.rx ∧
    (travelTimesOut s).link.tx = s.link.tx ∧ (travelTimesOut s).link.confirmation = s.link.confirmation ∧
    (travelTimesOut s).link.latch = s.link.latch ∧ (travelTimesOut s).link.lost = s.link.lost ∧
    (travelTimesOut s).link.lfsr = s.link.lfsr ∧ (travelTimesOut s).link.restartOwed = s.link.restartOwed ∧
    (travelTimesOut s).link.silence = s.link.silence ∧ (travelTimesOut s).od.restartPending = s.od.restartPending ∧
    (travelTimesOut s).od.cycle = s.od.cycle ∧ (travelTimesOut s).od.cycleTimer = s.od.cycleTimer ∧
    (travelTimesOut s).od.diagTimer = s.od.diagTimer ∧ (travelTimesOut s).ssu.peers = s.ssu.peers ∧
    (travelTimesOut s).ssu.listenIn = s.ssu.listenIn ∧ (travelTimesOut s).ssu.period = s.ssu.period ∧
    (travelTimesOut s).lpd.drive = s.lpd.drive ∧ (travelTimesOut s).lpd.half = s.lpd.half ∧
    (travelTimesOut s).lpd.pool = s.lpd.pool ∧ (travelTimesOut s).lpd.shed = s.lpd.shed ∧
    (travelTimesOut s).lpd.gates = s.lpd.gates ∧ (travelTimesOut s).lpd.sinceCrossing = s.lpd.sinceCrossing ∧
    (travelTimesOut s).lpd.loads.top = s.lpd.loads.top ∧ (travelTimesOut s).lpd.loads.bottom = s.lpd.loads.bottom ∧
    (travelTimesOut s).lpd.loads.ring = s.lpd.loads.ring ∧ (travelTimesOut s).mu = s.mu ∧
    (travelTimesOut s).cr.owner = s.cr.owner ∧ (travelTimesOut s).cr.request = s.cr.request ∧
    (travelTimesOut s).cr.temperature = s.cr.temperature ∧ (travelTimesOut s).cr.humidity = s.cr.humidity ∧
    (travelTimesOut s).cr.ventOpen = s.cr.ventOpen ∧ (travelTimesOut s).sgc.steamWanted = s.sgc.steamWanted ∧
    (travelTimesOut s).sgc.steamDemand = s.sgc.steamDemand ∧ (travelTimesOut s).sdu = s.sdu ∧
    (travelTimesOut s).re.slotA = s.re.slotA ∧ (travelTimesOut s).re.slotB = s.re.slotB ∧
    (travelTimesOut s).re.running = s.re.running ∧ (travelTimesOut s).re.queued = s.re.queued ∧
    (travelTimesOut s).re.context = s.re.context ∧ (travelTimesOut s).re.repeats = s.re.repeats ∧
    (travelTimesOut s).pu.trips.cavityOvertemp = s.pu.trips.cavityOvertemp ∧
    (travelTimesOut s).pu.trips.boilerDry = s.pu.trips.boilerDry ∧
    (travelTimesOut s).pu.trips.sensor = s.pu.trips.sensor ∧ (travelTimesOut s).pu.command = s.pu.command ∧
    (travelTimesOut s).pu.travel = s.pu.travel := by
  unfold travelTimesOut; (repeat' split) <;> simp

end Sys2Proof.Machine
end

