-- ==== Sys2Proof/Laws/ReportLaws.lean ====
section
/-! SUPPORT. What the order decoder's events leave as it is: for each operation, every field of State it cannot change. -/

namespace Sys2Proof.Machine

@[simp] theorem silenceExpires_keeps (s : State) :
    (silenceExpires s).pending = s.pending ∧ (silenceExpires s).run = s.run ∧ (silenceExpires s).config = s.config ∧
    (silenceExpires s).store = s.store ∧ (silenceExpires s).second = s.second ∧
    (silenceExpires s).freeUses = s.freeUses ∧ (silenceExpires s).link.rx = s.link.rx ∧
    (silenceExpires s).link.tx = s.link.tx ∧ (silenceExpires s).link.confirmation = s.link.confirmation ∧
    (silenceExpires s).link.latch = s.link.latch ∧ (silenceExpires s).link.lost = s.link.lost ∧
    (silenceExpires s).link.lfsr = s.link.lfsr ∧ (silenceExpires s).link.restartOwed = s.link.restartOwed ∧
    (silenceExpires s).od.restartPending = s.od.restartPending ∧ (silenceExpires s).od.cycle = s.od.cycle ∧
    (silenceExpires s).od.cycleTimer = s.od.cycleTimer ∧ (silenceExpires s).od.diagTimer = s.od.diagTimer ∧
    (silenceExpires s).ssu.peers = s.ssu.peers ∧ (silenceExpires s).ssu.listenIn = s.ssu.listenIn ∧
    (silenceExpires s).ssu.period = s.ssu.period ∧ (silenceExpires s).lpd.drive = s.lpd.drive ∧
    (silenceExpires s).lpd.half = s.lpd.half ∧ (silenceExpires s).lpd.pool = s.lpd.pool ∧
    (silenceExpires s).lpd.shed = s.lpd.shed ∧ (silenceExpires s).lpd.gates = s.lpd.gates ∧
    (silenceExpires s).lpd.sinceCrossing = s.lpd.sinceCrossing ∧ (silenceExpires s).mu = s.mu ∧
    (silenceExpires s).sdu.hardness = s.sdu.hardness ∧ (silenceExpires s).sdu.soakCount = s.sdu.soakCount ∧
    (silenceExpires s).sdu.retry = s.sdu.retry ∧ (silenceExpires s).sdu.failures = s.sdu.failures ∧
    (silenceExpires s).pu.trips.cavityOvertemp = s.pu.trips.cavityOvertemp ∧
    (silenceExpires s).pu.trips.boilerDry = s.pu.trips.boilerDry ∧
    (silenceExpires s).pu.trips.sensor = s.pu.trips.sensor := by
  unfold silenceExpires; (repeat' split) <;> simp

@[simp] theorem cycleReport_keeps (s : State) :
    (cycleReport s).pending = s.pending ∧ (cycleReport s).run = s.run ∧ (cycleReport s).config = s.config ∧
    (cycleReport s).store = s.store ∧ (cycleReport s).second = s.second ∧ (cycleReport s).freeUses = s.freeUses ∧
    (cycleReport s).link.rx = s.link.rx ∧ (cycleReport s).link.tx = s.link.tx ∧
    (cycleReport s).link.confirmation = s.link.confirmation ∧ (cycleReport s).link.latch = s.link.latch ∧
    (cycleReport s).link.lost = s.link.lost ∧ (cycleReport s).link.lfsr = s.link.lfsr ∧
    (cycleReport s).link.silence = s.link.silence ∧ (cycleReport s).link.restartOwed = s.link.restartOwed ∧
    (cycleReport s).od.power = s.od.power ∧ (cycleReport s).od.restartPending = s.od.restartPending ∧
    (cycleReport s).od.events = s.od.events ∧ (cycleReport s).od.eventsTimer = s.od.eventsTimer ∧
    (cycleReport s).od.diagTimer = s.od.diagTimer ∧ (cycleReport s).ssu = s.ssu ∧ (cycleReport s).lpd = s.lpd ∧
    (cycleReport s).mu = s.mu ∧ (cycleReport s).cr = s.cr ∧ (cycleReport s).sgc = s.sgc ∧
    (cycleReport s).sdu = s.sdu ∧ (cycleReport s).re = s.re ∧ (cycleReport s).pu = s.pu := by
  simp [cycleReport]

@[simp] theorem eventsTimerStops_keeps (s : State) :
    (eventsTimerStops s).pending = s.pending ∧ (eventsTimerStops s).run = s.run ∧
    (eventsTimerStops s).config = s.config ∧ (eventsTimerStops s).store = s.store ∧
    (eventsTimerStops s).second = s.second ∧ (eventsTimerStops s).freeUses = s.freeUses ∧
    (eventsTimerStops s).link.rx = s.link.rx ∧ (eventsTimerStops s).link.tx = s.link.tx ∧
    (eventsTimerStops s).link.confirmation = s.link.confirmation ∧ (eventsTimerStops s).link.latch = s.link.latch ∧
    (eventsTimerStops s).link.lost = s.link.lost ∧ (eventsTimerStops s).link.lfsr = s.link.lfsr ∧
    (eventsTimerStops s).link.silence = s.link.silence ∧
    (eventsTimerStops s).link.restartOwed = s.link.restartOwed ∧ (eventsTimerStops s).od.power = s.od.power ∧
    (eventsTimerStops s).od.restartPending = s.od.restartPending ∧ (eventsTimerStops s).od.events = s.od.events ∧
    (eventsTimerStops s).od.cycle = s.od.cycle ∧ (eventsTimerStops s).od.cycleTimer = s.od.cycleTimer ∧
    (eventsTimerStops s).od.diagTimer = s.od.diagTimer ∧ (eventsTimerStops s).ssu = s.ssu ∧
    (eventsTimerStops s).lpd = s.lpd ∧ (eventsTimerStops s).mu = s.mu ∧ (eventsTimerStops s).cr = s.cr ∧
    (eventsTimerStops s).sgc = s.sgc ∧ (eventsTimerStops s).sdu = s.sdu ∧ (eventsTimerStops s).re = s.re ∧
    (eventsTimerStops s).pu = s.pu := by
  unfold eventsTimerStops; (repeat' split) <;> simp

@[simp] theorem diagnose_keeps (s : State) :
    (diagnose s).pending = s.pending ∧ (diagnose s).run = s.run ∧ (diagnose s).config = s.config ∧
    (diagnose s).store = s.store ∧ (diagnose s).second = s.second ∧ (diagnose s).freeUses = s.freeUses ∧
    (diagnose s).link.rx = s.link.rx ∧ (diagnose s).link.tx = s.link.tx ∧
    (diagnose s).link.confirmation = s.link.confirmation ∧ (diagnose s).link.latch = s.link.latch ∧
    (diagnose s).link.lost = s.link.lost ∧ (diagnose s).link.lfsr = s.link.lfsr ∧
    (diagnose s).link.silence = s.link.silence ∧ (diagnose s).link.restartOwed = s.link.restartOwed ∧
    (diagnose s).od.power = s.od.power ∧ (diagnose s).od.restartPending = s.od.restartPending ∧
    (diagnose s).od.events = s.od.events ∧ (diagnose s).od.cycle = s.od.cycle ∧
    (diagnose s).od.cycleTimer = s.od.cycleTimer ∧ (diagnose s).od.eventsTimer = s.od.eventsTimer ∧
    (diagnose s).ssu = s.ssu ∧ (diagnose s).lpd = s.lpd ∧ (diagnose s).mu = s.mu ∧ (diagnose s).cr = s.cr ∧
    (diagnose s).sgc = s.sgc ∧ (diagnose s).sdu = s.sdu ∧ (diagnose s).re = s.re ∧ (diagnose s).pu = s.pu := by
  simp [diagnose]

end Sys2Proof.Machine
end

