-- ==== Sys2Proof/Laws/State.lean ====
section
/-! SUPPORT. The named updates of State's parts: what each field reads after them. -/

namespace Sys2Proof.Machine

/-! ### Load list -/

@[simp] theorem Loads.get_set_same (l : Loads) (i : LoadId) (x : Load) : (l.set i x).get i = x := by cases i <;> rfl

@[simp] theorem Loads.get_set_other (l : Loads) (i j : LoadId) (x : Load) (h : j ≠ i) :
    (l.set i x).get j = l.get j := by
  cases i <;> cases j <;> first | rfl | exact absurd rfl h

@[simp] theorem Loads.get_map (f : Load → Load) (l : Loads) (i : LoadId) : (l.map f).get i = f (l.get i) := by
  cases i <;> rfl

@[simp] theorem Loads.get_steamHeater (l : Loads) : l.get .steamHeater = l.steamHeater := rfl
@[simp] theorem Loads.get_top (l : Loads) : l.get .top = l.top := rfl
@[simp] theorem Loads.get_bottom (l : Loads) : l.get .bottom = l.bottom := rfl
@[simp] theorem Loads.get_ring (l : Loads) : l.get .ring = l.ring := rfl

@[simp] theorem Loads.map_steamHeater (f : Load → Load) (l : Loads) : (l.map f).steamHeater = f l.steamHeater := rfl
@[simp] theorem Loads.map_top (f : Load → Load) (l : Loads) : (l.map f).top = f l.top := rfl
@[simp] theorem Loads.map_bottom (f : Load → Load) (l : Loads) : (l.map f).bottom = f l.bottom := rfl
@[simp] theorem Loads.map_ring (f : Load → Load) (l : Loads) : (l.map f).ring = f l.ring := rfl

/-! ### Gates -/

@[simp] theorem Gates.get_off (i : LoadId) : Gates.off.get i = false := by cases i <;> rfl
@[simp] theorem Gates.get_mk_steamHeater (a b c d : Bool) : (Gates.mk a b c d).get .steamHeater = a := rfl
@[simp] theorem Gates.get_mk_top (a b c d : Bool) : (Gates.mk a b c d).get .top = b := rfl
@[simp] theorem Gates.get_mk_bottom (a b c d : Bool) : (Gates.mk a b c d).get .bottom = c := rfl
@[simp] theorem Gates.get_mk_ring (a b c d : Bool) : (Gates.mk a b c d).get .ring = d := rfl

/-! ### Trip set -/

@[simp] theorem TripSet.has_put_same (t : TripSet) (k : Trip) (b : Bool) : (t.put k b).has k = b := by
  cases k <;> rfl

@[simp] theorem TripSet.has_put_other (t : TripSet) (j k : Trip) (b : Bool) (h : j ≠ k) :
    (t.put k b).has j = t.has j := by
  cases k <;> cases j <;> first | rfl | exact absurd rfl h

@[simp] theorem TripSet.has_empty (k : Trip) : TripSet.empty.has k = false := by cases k <;> rfl

theorem TripSet.none_iff (t : TripSet) : t.none = true ↔ t = .empty := by
  obtain ⟨a, b, c, d⟩ := t
  cases a <;> cases b <;> cases c <;> cases d <;> decide

theorem HoldSet.none_iff (h : HoldSet) : h.none = true ↔ h = .empty := by
  obtain ⟨a, b, c, d⟩ := h
  cases a <;> cases b <;> cases c <;> cases d <;> decide

/-! ### Program slots -/

@[simp] theorem RecipeEngine.slot_setSlot_same (r : RecipeEngine) (i : SlotId) (x : Slot) :
    (r.setSlot i x).slot i = x := by cases i <;> rfl

@[simp] theorem RecipeEngine.slot_setSlot_other (r : RecipeEngine) (i j : SlotId) (x : Slot) (h : j ≠ i) :
    (r.setSlot i x).slot j = r.slot j := by
  cases i <;> cases j <;> first | rfl | exact absurd rfl h

@[simp] theorem RecipeEngine.slot_a (r : RecipeEngine) : r.slot .a = r.slotA := rfl
@[simp] theorem RecipeEngine.slot_b (r : RecipeEngine) : r.slot .b = r.slotB := rfl

@[simp] theorem RecipeEngine.setSlot_running (r : RecipeEngine) (i : SlotId) (x : Slot) :
    (r.setSlot i x).running = r.running := by cases i <;> rfl
@[simp] theorem RecipeEngine.setSlot_queued (r : RecipeEngine) (i : SlotId) (x : Slot) :
    (r.setSlot i x).queued = r.queued := by cases i <;> rfl
@[simp] theorem RecipeEngine.setSlot_context (r : RecipeEngine) (i : SlotId) (x : Slot) :
    (r.setSlot i x).context = r.context := by cases i <;> rfl
@[simp] theorem RecipeEngine.setSlot_repeats (r : RecipeEngine) (i : SlotId) (x : Slot) :
    (r.setSlot i x).repeats = r.repeats := by cases i <;> rfl
@[simp] theorem RecipeEngine.setSlot_holds (r : RecipeEngine) (i : SlotId) (x : Slot) :
    (r.setSlot i x).holds = r.holds := by cases i <;> rfl

/-! ### Pending events -/

@[simp] theorem EventSet.has_mask (e : Event) : EventSet.has e.mask e = true := by cases e <;> decide

@[simp] theorem EventSet.has_mask_other (e f : Event) (h : e ≠ f) : EventSet.has e.mask f = false := by
  cases e <;> cases f <;> first | exact absurd rfl h | decide

@[simp] theorem EventSet.has_or (x y : EventSet) (e : Event) : EventSet.has (x ||| y) e = (x.has e || y.has e) := by
  simp [EventSet.has]

@[simp] theorem EventSet.has_zero (e : Event) : EventSet.has 0 e = false := by simp [EventSet.has]

/-! ### Regulator context -/

@[simp] theorem RegContext.inRange_reset : RegContext.reset.integrator = 0 ∧ RegContext.reset.output = 0 := ⟨rfl, rfl⟩

end Sys2Proof.Machine
end

