-- ==== Sys2Proof/Laws/SupplyEventLaws.lean ====
section
/-! SUPPORT. What the supply sharing unit's events leave as it is: for each operation, every field of State it cannot change. -/

namespace Sys2Proof.Machine

@[simp] theorem peerStale_keeps (a : Addr) (s : State) :
    (peerStale a s).pending = s.pending ∧ (peerStale a s).run = s.run ∧ (peerStale a s).config = s.config ∧
    (peerStale a s).store = s.store ∧ (peerStale a s).second = s.second ∧ (peerStale a s).freeUses = s.freeUses ∧
    (peerStale a s).link.rx = s.link.rx ∧ (peerStale a s).link.tx = s.link.tx ∧
    (peerStale a s).link.confirmation = s.link.confirmation ∧ (peerStale a s).link.latch = s.link.latch ∧
    (peerStale a s).link.lost = s.link.lost ∧ (peerStale a s).link.lfsr = s.link.lfsr ∧
    (peerStale a s).link.silence = s.link.silence ∧ (peerStale a s).link.restartOwed = s.link.restartOwed ∧
    (peerStale a s).od = s.od ∧ (peerStale a s).ssu.claim = s.ssu.claim ∧
    (peerStale a s).ssu.listenIn = s.ssu.listenIn ∧ (peerStale a s).ssu.period = s.ssu.period ∧
    (peerStale a s).lpd = s.lpd ∧ (peerStale a s).mu = s.mu ∧ (peerStale a s).cr = s.cr ∧
    (peerStale a s).sgc = s.sgc ∧ (peerStale a s).sdu = s.sdu ∧ (peerStale a s).re.slotA = s.re.slotA ∧
    (peerStale a s).re.slotB = s.re.slotB ∧ (peerStale a s).re.running = s.re.running ∧
    (peerStale a s).re.queued = s.re.queued ∧ (peerStale a s).re.context = s.re.context ∧
    (peerStale a s).re.repeats = s.re.repeats ∧ (peerStale a s).pu = s.pu := by
  unfold peerStale; (repeat' split) <;> simp

@[simp] theorem endRaiseHold_keeps (s : State) :
    (endRaiseHold s).pending = s.pending ∧ (endRaiseHold s).run = s.run ∧ (endRaiseHold s).config = s.config ∧
    (endRaiseHold s).store = s.store ∧ (endRaiseHold s).second = s.second ∧ (endRaiseHold s).freeUses = s.freeUses ∧
    (endRaiseHold s).link = s.link ∧ (endRaiseHold s).od = s.od ∧ (endRaiseHold s).ssu.peers = s.ssu.peers ∧
    (endRaiseHold s).ssu.claim = s.ssu.claim ∧ (endRaiseHold s).ssu.announced = s.ssu.announced ∧
    (endRaiseHold s).ssu.listenIn = s.ssu.listenIn ∧ (endRaiseHold s).ssu.period = s.ssu.period ∧
    (endRaiseHold s).lpd = s.lpd ∧ (endRaiseHold s).mu = s.mu ∧ (endRaiseHold s).cr = s.cr ∧
    (endRaiseHold s).sgc = s.sgc ∧ (endRaiseHold s).sdu = s.sdu ∧ (endRaiseHold s).re.slotA = s.re.slotA ∧
    (endRaiseHold s).re.slotB = s.re.slotB ∧ (endRaiseHold s).re.running = s.re.running ∧
    (endRaiseHold s).re.queued = s.re.queued ∧ (endRaiseHold s).re.context = s.re.context ∧
    (endRaiseHold s).re.repeats = s.re.repeats ∧ (endRaiseHold s).pu = s.pu := by
  unfold endRaiseHold; (repeat' split) <;> simp

@[simp] theorem periodClaimPoint_keeps (s : State) :
    (periodClaimPoint s).pending = s.pending ∧ (periodClaimPoint s).run = s.run ∧
    (periodClaimPoint s).config = s.config ∧ (periodClaimPoint s).store = s.store ∧
    (periodClaimPoint s).second = s.second ∧ (periodClaimPoint s).freeUses = s.freeUses ∧
    (periodClaimPoint s).link.rx = s.link.rx ∧ (periodClaimPoint s).link.tx = s.link.tx ∧
    (periodClaimPoint s).link.confirmation = s.link.confirmation ∧ (periodClaimPoint s).link.latch = s.link.latch ∧
    (periodClaimPoint s).link.lost = s.link.lost ∧ (periodClaimPoint s).link.lfsr = s.link.lfsr ∧
    (periodClaimPoint s).link.silence = s.link.silence ∧
    (periodClaimPoint s).link.restartOwed = s.link.restartOwed ∧ (periodClaimPoint s).od = s.od ∧
    (periodClaimPoint s).ssu.peers = s.ssu.peers ∧ (periodClaimPoint s).ssu.listenIn = s.ssu.listenIn ∧
    (periodClaimPoint s).ssu.period = s.ssu.period ∧ (periodClaimPoint s).lpd = s.lpd ∧
    (periodClaimPoint s).mu = s.mu ∧ (periodClaimPoint s).cr = s.cr ∧ (periodClaimPoint s).sgc = s.sgc ∧
    (periodClaimPoint s).sdu = s.sdu ∧ (periodClaimPoint s).re.slotA = s.re.slotA ∧
    (periodClaimPoint s).re.slotB = s.re.slotB ∧ (periodClaimPoint s).re.running = s.re.running ∧
    (periodClaimPoint s).re.queued = s.re.queued ∧ (periodClaimPoint s).re.context = s.re.context ∧
    (periodClaimPoint s).re.repeats = s.re.repeats ∧ (periodClaimPoint s).pu = s.pu := by
  unfold periodClaimPoint; (repeat' split) <;> simp

@[simp] theorem periodicNotice_keeps (s : State) :
    (periodicNotice s).pending = s.pending ∧ (periodicNotice s).run = s.run ∧ (periodicNotice s).config = s.config ∧
    (periodicNotice s).store = s.store ∧ (periodicNotice s).second = s.second ∧
    (periodicNotice s).freeUses = s.freeUses ∧ (periodicNotice s).link.rx = s.link.rx ∧
    (periodicNotice s).link.tx = s.link.tx ∧ (periodicNotice s).link.confirmation = s.link.confirmation ∧
    (periodicNotice s).link.latch = s.link.latch ∧ (periodicNotice s).link.lost = s.link.lost ∧
    (periodicNotice s).link.lfsr = s.link.lfsr ∧ (periodicNotice s).link.silence = s.link.silence ∧
    (periodicNotice s).link.restartOwed = s.link.restartOwed ∧ (periodicNotice s).od = s.od ∧
    (periodicNotice s).ssu.peers = s.ssu.peers ∧ (periodicNotice s).ssu.claim = s.ssu.claim ∧
    (periodicNotice s).ssu.raise = s.ssu.raise ∧ (periodicNotice s).ssu.lastA = s.ssu.lastA ∧
    (periodicNotice s).ssu.lastW = s.ssu.lastW ∧ (periodicNotice s).ssu.lastFo = s.ssu.lastFo ∧
    (periodicNotice s).ssu.contention = s.ssu.contention ∧ (periodicNotice s).ssu.starved = s.ssu.starved ∧
    (periodicNotice s).ssu.entryTimer = s.ssu.entryTimer ∧ (periodicNotice s).ssu.exitTimer = s.ssu.exitTimer ∧
    (periodicNotice s).ssu.listenIn = s.ssu.listenIn ∧ (periodicNotice s).ssu.period = s.ssu.period ∧
    (periodicNotice s).lpd = s.lpd ∧ (periodicNotice s).mu = s.mu ∧ (periodicNotice s).cr = s.cr ∧
    (periodicNotice s).sgc = s.sgc ∧ (periodicNotice s).sdu = s.sdu ∧ (periodicNotice s).re = s.re ∧
    (periodicNotice s).pu = s.pu := by
  unfold periodicNotice; (repeat' split) <;> simp

@[simp] theorem noticePeriod_keeps (s : State) :
    (noticePeriod s).pending = s.pending ∧ (noticePeriod s).run = s.run ∧ (noticePeriod s).config = s.config ∧
    (noticePeriod s).store = s.store ∧ (noticePeriod s).second = s.second ∧ (noticePeriod s).freeUses = s.freeUses ∧
    (noticePeriod s).link.rx = s.link.rx ∧ (noticePeriod s).link.tx = s.link.tx ∧
    (noticePeriod s).link.confirmation = s.link.confirmation ∧ (noticePeriod s).link.latch = s.link.latch ∧
    (noticePeriod s).link.lost = s.link.lost ∧ (noticePeriod s).link.lfsr = s.link.lfsr ∧
    (noticePeriod s).link.silence = s.link.silence ∧ (noticePeriod s).link.restartOwed = s.link.restartOwed ∧
    (noticePeriod s).od = s.od ∧ (noticePeriod s).ssu.peers = s.ssu.peers ∧
    (noticePeriod s).ssu.listenIn = s.ssu.listenIn ∧ (noticePeriod s).lpd = s.lpd ∧ (noticePeriod s).mu = s.mu ∧
    (noticePeriod s).cr = s.cr ∧ (noticePeriod s).sgc = s.sgc ∧ (noticePeriod s).sdu = s.sdu ∧
    (noticePeriod s).re.slotA = s.re.slotA ∧ (noticePeriod s).re.slotB = s.re.slotB ∧
    (noticePeriod s).re.running = s.re.running ∧ (noticePeriod s).re.queued = s.re.queued ∧
    (noticePeriod s).re.context = s.re.context ∧ (noticePeriod s).re.repeats = s.re.repeats ∧
    (noticePeriod s).pu = s.pu := by
  unfold noticePeriod; (repeat' split) <;> simp

@[simp] theorem endListenIn_keeps (s : State) :
    (endListenIn s).pending = s.pending ∧ (endListenIn s).run = s.run ∧ (endListenIn s).config = s.config ∧
    (endListenIn s).store = s.store ∧ (endListenIn s).second = s.second ∧ (endListenIn s).freeUses = s.freeUses ∧
    (endListenIn s).link.rx = s.link.rx ∧ (endListenIn s).link.tx = s.link.tx ∧
    (endListenIn s).link.confirmation = s.link.confirmation ∧ (endListenIn s).link.latch = s.link.latch ∧
    (endListenIn s).link.lost = s.link.lost ∧ (endListenIn s).link.lfsr = s.link.lfsr ∧
    (endListenIn s).link.silence = s.link.silence ∧ (endListenIn s).link.restartOwed = s.link.restartOwed ∧
    (endListenIn s).od = s.od ∧ (endListenIn s).ssu.peers = s.ssu.peers ∧ (endListenIn s).ssu.claim = s.ssu.claim ∧
    (endListenIn s).ssu.raise = s.ssu.raise ∧ (endListenIn s).ssu.lastA = s.ssu.lastA ∧
    (endListenIn s).ssu.lastW = s.ssu.lastW ∧ (endListenIn s).ssu.lastFo = s.ssu.lastFo ∧
    (endListenIn s).ssu.contention = s.ssu.contention ∧ (endListenIn s).ssu.starved = s.ssu.starved ∧
    (endListenIn s).ssu.entryTimer = s.ssu.entryTimer ∧ (endListenIn s).ssu.exitTimer = s.ssu.exitTimer ∧
    (endListenIn s).lpd = s.lpd ∧ (endListenIn s).mu = s.mu ∧ (endListenIn s).cr = s.cr ∧
    (endListenIn s).sgc = s.sgc ∧ (endListenIn s).sdu = s.sdu ∧ (endListenIn s).re = s.re ∧
    (endListenIn s).pu = s.pu := by
  unfold endListenIn; (repeat' split) <;> simp

@[simp] theorem becomeStarved_keeps (s : State) :
    (becomeStarved s).pending = s.pending ∧ (becomeStarved s).run = s.run ∧ (becomeStarved s).config = s.config ∧
    (becomeStarved s).store = s.store ∧ (becomeStarved s).second = s.second ∧
    (becomeStarved s).freeUses = s.freeUses ∧ (becomeStarved s).link.rx = s.link.rx ∧
    (becomeStarved s).link.tx = s.link.tx ∧ (becomeStarved s).link.confirmation = s.link.confirmation ∧
    (becomeStarved s).link.latch = s.link.latch ∧ (becomeStarved s).link.lost = s.link.lost ∧
    (becomeStarved s).link.lfsr = s.link.lfsr ∧ (becomeStarved s).link.silence = s.link.silence ∧
    (becomeStarved s).link.restartOwed = s.link.restartOwed ∧ (becomeStarved s).od.power = s.od.power ∧
    (becomeStarved s).od.restartPending = s.od.restartPending ∧ (becomeStarved s).od.cycle = s.od.cycle ∧
    (becomeStarved s).od.cycleTimer = s.od.cycleTimer ∧ (becomeStarved s).od.diagTimer = s.od.diagTimer ∧
    (becomeStarved s).ssu.peers = s.ssu.peers ∧ (becomeStarved s).ssu.claim = s.ssu.claim ∧
    (becomeStarved s).ssu.announced = s.ssu.announced ∧ (becomeStarved s).ssu.raise = s.ssu.raise ∧
    (becomeStarved s).ssu.lastA = s.ssu.lastA ∧ (becomeStarved s).ssu.lastW = s.ssu.lastW ∧
    (becomeStarved s).ssu.lastFo = s.ssu.lastFo ∧ (becomeStarved s).ssu.contention = s.ssu.contention ∧
    (becomeStarved s).ssu.exitTimer = s.ssu.exitTimer ∧ (becomeStarved s).ssu.listenIn = s.ssu.listenIn ∧
    (becomeStarved s).ssu.period = s.ssu.period ∧ (becomeStarved s).lpd = s.lpd ∧ (becomeStarved s).mu = s.mu ∧
    (becomeStarved s).cr = s.cr ∧ (becomeStarved s).sgc = s.sgc ∧ (becomeStarved s).sdu = s.sdu ∧
    (becomeStarved s).re.slotA = s.re.slotA ∧ (becomeStarved s).re.slotB = s.re.slotB ∧
    (becomeStarved s).re.running = s.re.running ∧ (becomeStarved s).re.queued = s.re.queued ∧
    (becomeStarved s).re.context = s.re.context ∧ (becomeStarved s).re.repeats = s.re.repeats ∧
    (becomeStarved s).pu = s.pu := by
  unfold becomeStarved; (repeat' split) <;> simp

@[simp] theorem endStarved_keeps (s : State) :
    (endStarved s).pending = s.pending ∧ (endStarved s).run = s.run ∧ (endStarved s).config = s.config ∧
    (endStarved s).store = s.store ∧ (endStarved s).second = s.second ∧ (endStarved s).freeUses = s.freeUses ∧
    (endStarved s).link = s.link ∧ (endStarved s).od = s.od ∧ (endStarved s).ssu.peers = s.ssu.peers ∧
    (endStarved s).ssu.claim = s.ssu.claim ∧ (endStarved s).ssu.announced = s.ssu.announced ∧
    (endStarved s).ssu.raise = s.ssu.raise ∧ (endStarved s).ssu.lastA = s.ssu.lastA ∧
    (endStarved s).ssu.lastW = s.ssu.lastW ∧ (endStarved s).ssu.lastFo = s.ssu.lastFo ∧
    (endStarved s).ssu.contention = s.ssu.contention ∧ (endStarved s).ssu.listenIn = s.ssu.listenIn ∧
    (endStarved s).ssu.period = s.ssu.period ∧ (endStarved s).lpd = s.lpd ∧ (endStarved s).mu = s.mu ∧
    (endStarved s).cr = s.cr ∧ (endStarved s).sgc = s.sgc ∧ (endStarved s).sdu = s.sdu ∧
    (endStarved s).re.slotA = s.re.slotA ∧ (endStarved s).re.slotB = s.re.slotB ∧
    (endStarved s).re.running = s.re.running ∧ (endStarved s).re.queued = s.re.queued ∧
    (endStarved s).re.context = s.re.context ∧ (endStarved s).re.repeats = s.re.repeats ∧ (endStarved s).pu = s.pu := by
  unfold endStarved; (repeat' split) <;> simp

end Sys2Proof.Machine
end

