-- ==== Sys2Proof/Laws/TickLaws.lean ====
section
/-! SUPPORT. What the time base leave as it is: for each operation, every field of State it cannot change. -/

namespace Sys2Proof.Machine

@[simp] theorem advance_keeps (s : State) :
    (advance s).pending = s.pending ∧ (advance s).run = s.run ∧ (advance s).config = s.config ∧
    (advance s).store = s.store ∧ (advance s).freeUses = s.freeUses ∧ (advance s).link.rx = s.link.rx ∧
    (advance s).link.tx = s.link.tx ∧ (advance s).link.queue = s.link.queue ∧
    (advance s).link.confirmation = s.link.confirmation ∧ (advance s).link.counters = s.link.counters ∧
    (advance s).link.latch = s.link.latch ∧ (advance s).link.lost = s.link.lost ∧
    (advance s).link.lfsr = s.link.lfsr ∧ (advance s).link.restartOwed = s.link.restartOwed ∧
    (advance s).od.power = s.od.power ∧ (advance s).od.restartPending = s.od.restartPending ∧
    (advance s).od.events = s.od.events ∧ (advance s).od.cycle = s.od.cycle ∧ (advance s).ssu.claim = s.ssu.claim ∧
    (advance s).ssu.announced = s.ssu.announced ∧ (advance s).ssu.lastA = s.ssu.lastA ∧
    (advance s).ssu.lastW = s.ssu.lastW ∧ (advance s).ssu.lastFo = s.ssu.lastFo ∧
    (advance s).ssu.contention = s.ssu.contention ∧ (advance s).ssu.starved = s.ssu.starved ∧
    (advance s).lpd.drive = s.lpd.drive ∧ (advance s).lpd.half = s.lpd.half ∧ (advance s).lpd.loads = s.lpd.loads ∧
    (advance s).lpd.pool = s.lpd.pool ∧ (advance s).lpd.shed = s.lpd.shed ∧ (advance s).lpd.gates = s.lpd.gates ∧
    (advance s).mu = s.mu ∧ (advance s).cr.owner = s.cr.owner ∧ (advance s).cr.request = s.cr.request ∧
    (advance s).cr.temperature = s.cr.temperature ∧ (advance s).cr.humidity = s.cr.humidity ∧
    (advance s).cr.ventOpen = s.cr.ventOpen ∧ (advance s).sgc.state = s.sgc.state ∧
    (advance s).sgc.user = s.sgc.user ∧ (advance s).sgc.steamWanted = s.sgc.steamWanted ∧
    (advance s).sgc.steamDemand = s.sgc.steamDemand ∧ (advance s).sgc.derate = s.sgc.derate ∧
    (advance s).sgc.pulses = s.sgc.pulses ∧ (advance s).sgc.limitMark = s.sgc.limitMark ∧
    (advance s).sdu.account = s.sdu.account ∧ (advance s).sdu.hardness = s.sdu.hardness ∧
    (advance s).sdu.mark = s.sdu.mark ∧ (advance s).sdu.meteringSum = s.sdu.meteringSum ∧
    (advance s).sdu.phase = s.sdu.phase ∧ (advance s).sdu.lockingFrom = s.sdu.lockingFrom ∧
    (advance s).sdu.soakCount = s.sdu.soakCount ∧ (advance s).sdu.rinseCycle = s.sdu.rinseCycle ∧
    (advance s).sdu.rinseStep = s.sdu.rinseStep ∧ (advance s).sdu.heatingTime = s.sdu.heatingTime ∧
    (advance s).sdu.drained = s.sdu.drained ∧ (advance s).sdu.writing = s.sdu.writing ∧
    (advance s).sdu.rewritePending = s.sdu.rewritePending ∧ (advance s).sdu.retry = s.sdu.retry ∧
    (advance s).sdu.failures = s.sdu.failures ∧ (advance s).re = s.re ∧ (advance s).pu.trips = s.pu.trips ∧
    (advance s).pu.command = s.pu.command ∧ (advance s).pu.lock = s.pu.lock := by
  unfold advance; (repeat' split) <;> simp

@[simp] theorem tick_keeps (s : State) :
    (tick s).run = s.run ∧ (tick s).config = s.config ∧ (tick s).store = s.store ∧ (tick s).link.rx = s.link.rx ∧
    (tick s).link.tx = s.link.tx ∧ (tick s).link.queue = s.link.queue ∧
    (tick s).link.confirmation = s.link.confirmation ∧ (tick s).link.counters = s.link.counters ∧
    (tick s).link.latch = s.link.latch ∧ (tick s).link.lost = s.link.lost ∧ (tick s).link.lfsr = s.link.lfsr ∧
    (tick s).link.restartOwed = s.link.restartOwed ∧ (tick s).od.power = s.od.power ∧
    (tick s).od.restartPending = s.od.restartPending ∧ (tick s).od.events = s.od.events ∧
    (tick s).od.cycle = s.od.cycle ∧ (tick s).ssu.claim = s.ssu.claim ∧ (tick s).ssu.announced = s.ssu.announced ∧
    (tick s).ssu.lastA = s.ssu.lastA ∧ (tick s).ssu.lastW = s.ssu.lastW ∧ (tick s).ssu.lastFo = s.ssu.lastFo ∧
    (tick s).ssu.contention = s.ssu.contention ∧ (tick s).ssu.starved = s.ssu.starved ∧
    (tick s).lpd.drive = s.lpd.drive ∧ (tick s).lpd.half = s.lpd.half ∧ (tick s).lpd.loads = s.lpd.loads ∧
    (tick s).lpd.pool = s.lpd.pool ∧ (tick s).lpd.shed = s.lpd.shed ∧ (tick s).lpd.gates = s.lpd.gates ∧
    (tick s).mu = s.mu ∧ (tick s).cr.owner = s.cr.owner ∧ (tick s).cr.request = s.cr.request ∧
    (tick s).cr.temperature = s.cr.temperature ∧ (tick s).cr.humidity = s.cr.humidity ∧
    (tick s).cr.ventOpen = s.cr.ventOpen ∧ (tick s).sgc.state = s.sgc.state ∧ (tick s).sgc.user = s.sgc.user ∧
    (tick s).sgc.steamWanted = s.sgc.steamWanted ∧ (tick s).sgc.steamDemand = s.sgc.steamDemand ∧
    (tick s).sgc.derate = s.sgc.derate ∧ (tick s).sgc.pulses = s.sgc.pulses ∧
    (tick s).sgc.limitMark = s.sgc.limitMark ∧ (tick s).sdu.account = s.sdu.account ∧
    (tick s).sdu.hardness = s.sdu.hardness ∧ (tick s).sdu.mark = s.sdu.mark ∧
    (tick s).sdu.meteringSum = s.sdu.meteringSum ∧ (tick s).sdu.phase = s.sdu.phase ∧
    (tick s).sdu.lockingFrom = s.sdu.lockingFrom ∧ (tick s).sdu.soakCount = s.sdu.soakCount ∧
    (tick s).sdu.rinseCycle = s.sdu.rinseCycle ∧ (tick s).sdu.rinseStep = s.sdu.rinseStep ∧
    (tick s).sdu.heatingTime = s.sdu.heatingTime ∧ (tick s).sdu.drained = s.sdu.drained ∧
    (tick s).sdu.writing = s.sdu.writing ∧ (tick s).sdu.rewritePending = s.sdu.rewritePending ∧
    (tick s).sdu.retry = s.sdu.retry ∧ (tick s).sdu.failures = s.sdu.failures ∧ (tick s).re = s.re ∧
    (tick s).pu.trips = s.pu.trips ∧ (tick s).pu.command = s.pu.command ∧ (tick s).pu.lock = s.pu.lock := by
  unfold tick; (repeat' split) <;> simp

end Sys2Proof.Machine
end

