-- ==== Sys2Proof/Laws/ValueLaws.lean ====
section
/-! SUPPORT. What the shared operations write: the value each leaves in the fields it is there to change, and when it
changes nothing. With the frame lemmas they say all an operation can do. -/

namespace Sys2Proof.Machine

/-! ### Orders and commands -/

/-- An order checked by `runOrder` is answered without effect, or accepted with its effect. -/
theorem runOrder_cases {α : Type} (sender : Addr) (parsed : Option α) (busy : Bool) (refusal : α → Option Reason)
    (act : α → State) (s : State) :
    (∃ c, c ≠ .accept ∧ runOrder sender parsed busy refusal act s = answer c s) ∨
      ∃ a, sender = s.config.console ∧ parsed = some a ∧ busy = false ∧ s.od.restartPending = false ∧ refusal a = none ∧
        runOrder sender parsed busy refusal act s = answer .accept (act a) := by
  unfold runOrder
  (repeat' split) <;> first | exact .inl ⟨_, by simp, rfl⟩ | (refine .inr ?_; simp_all)

/-- An order that passes every check is accepted with its effect. -/
theorem runOrder_accept {α : Type} {sender : Addr} {parsed : Option α} {busy : Bool} {refusal : α → Option Reason}
    {act : α → State} {s : State} {a : α} (h1 : sender = s.config.console) (h2 : parsed = some a) (h3 : busy = false)
    (h4 : s.od.restartPending = false) (h5 : refusal a = none) :
    runOrder sender parsed busy refusal act s = answer .accept (act a) := by
  simp [runOrder, h1, h2, h3, h4, h5]

@[simp] theorem answer_confirmation (c : Confirmation) (s : State) : (answer c s).link.confirmation = some c := rfl

theorem whenRunning_of_running {f : State → State} {s : State} (h : s.run = .running) : whenRunning f s = f s := by
  simp [whenRunning, h]

theorem whenRunning_of_stopped {f : State → State} {s : State} (h : s.run ≠ .running) : whenRunning f s = s := by
  simp [whenRunning, h]

/-! ### The transmit queue and the pending events -/

@[simp] theorem raise_events (e : Event) (s : State) : (raise e s).od.events = s.od.events ||| e.mask := rfl

theorem offer_room (b : Body) (s : State) (h : s.link.queue.length < 4) :
    offer b s = { s with link.queue := fixedPart s.link ++ insertFrame (.fresh b) (waitingPart s.link) } := by
  simp [offer, h]

theorem offer_full (b : Body) (s : State) (h : ¬ s.link.queue.length < 4)
    (h2 : (waitingPart s.link).any (fun f => !f.isNotice) = false) : offer b s = countDropped s := by
  simp only [offer, h, if_false, h2]
  simp

theorem fixedPart_append_waitingPart (l : LinkUnit) : fixedPart l ++ waitingPart l = l.queue := by
  unfold fixedPart waitingPart
  split
  · simp
  · exact List.take_append_drop 1 l.queue

theorem insertFrame_report {f : Frame} (h : f.isNotice = false) (q : List Frame) : insertFrame f q = q ++ [f] := by
  simp [insertFrame, h]

theorem mem_insertFrame (f g : Frame) (q : List Frame) : g ∈ insertFrame f q ↔ g = f ∨ g ∈ q := by
  unfold insertFrame
  split
  · cases h : g.isNotice <;> simp [h] <;> tauto
  · simp [or_comm]

@[simp] theorem length_insertFrame (f : Frame) (q : List Frame) : (insertFrame f q).length = q.length + 1 := by
  unfold insertFrame
  split
  · have h := List.length_eq_length_filter_add (l := q) Frame.isNotice
    simp only [List.length_append, List.length_cons]
    omega
  · simp

/-- An EVENTS report is built only where one is due. -/
theorem serviceEvents_quiet {s : State} (h : s.od.events = 0 ∨ s.od.eventsTimer ≠ none ∨ s.link.restartOwed = true) :
    serviceEvents s = s := by
  unfold serviceEvents
  split
  · rcases h with h | h | h <;> simp_all
  · rfl

@[simp] theorem serviceEvents_events (s : State) : (serviceEvents s).od.events = s.od.events := by
  unfold serviceEvents
  split <;> simp

/-! ### Demands -/

@[simp] theorem writeDemand_demand (i : LoadId) (d : Nat) (s : State) : ((writeDemand i d s).lpd.loads.get i).demand = d := by
  simp [writeDemand]

@[simp] theorem writeDemand_other (i j : LoadId) (d : Nat) (s : State) (h : j ≠ i) :
    (writeDemand i d s).lpd.loads.get j = s.lpd.loads.get j := by
  simp [writeDemand, h]

@[simp] theorem writeElements_demands (a b c : Nat) (s : State) :
    (writeElements a b c s).lpd.loads.top.demand = a ∧ (writeElements a b c s).lpd.loads.bottom.demand = b ∧
      (writeElements a b c s).lpd.loads.ring.demand = c ∧
      (writeElements a b c s).lpd.loads.steamHeater = s.lpd.loads.steamHeater := by
  simp [writeElements, writeDemand, Loads.set]

@[simp] theorem writeHeater_demand (s : State) (h : s.sgc.user = .climate) :
    (writeHeater s).lpd.loads.steamHeater.demand = heaterDemand s := by
  simp [writeHeater, h, writeDemand, Loads.set]

/-! ### The supply -/

@[simp] theorem evalStarved_last (s : State) :
    (evalStarved s).ssu.lastA = s.ssu.lastA ∧ (evalStarved s).ssu.lastW = s.ssu.lastW ∧
      (evalStarved s).ssu.lastFo = s.ssu.lastFo ∧ (evalStarved s).ssu.contention = s.ssu.contention := by
  simp

@[simp] theorem recordAllowance_last (s : State) :
    (recordAllowance s).ssu.lastA = allowance s ∧ (recordAllowance s).ssu.lastW = ownWanted s ∧
      (recordAllowance s).ssu.lastFo = floorInEffect s ∧ (recordAllowance s).ssu.contention = inContention s := by
  simp [recordAllowance]

@[simp] theorem changeClaim_claim (c : Nat) (s : State) : (changeClaim c s).ssu.claim = c := by simp [changeClaim]

theorem lowerClaim_claim (s : State) : (lowerClaim s).ssu.claim = min s.ssu.claim s.ssu.lastA := by
  unfold lowerClaim
  split <;> simp <;> omega

theorem takeRaised_claim (s : State) :
    (takeRaised s).ssu.claim =
      match s.ssu.raise with
      | .waiting _ r => r
      | _ => s.ssu.claim := by
  unfold takeRaised
  split <;> simp_all

/-- A claim point leaves the claim at the lesser of the raised value, where one waits, or the claim, and the allowance. -/
theorem claimPoint_claim (s : State) :
    (claimPoint s).ssu.claim =
      min (match s.ssu.raise with
           | .waiting _ r => r
           | _ => s.ssu.claim) (allowance s) := by
  simp [claimPoint, lowerClaim_claim, takeRaised_claim]

/-! ### The boiler -/

@[simp] theorem becomeBoiler_state (st : BoilerState) (s : State) : (becomeBoiler st s).sgc.state = st := by
  unfold becomeBoiler
  dsimp only
  split <;> simp

@[simp] theorem enterCool_state (s : State) : (enterCool s).sgc.state = .cool := by simp [enterCool]
@[simp] theorem enterDrain_state (s : State) : (enterDrain s).sgc.state = .drain := by simp [enterDrain]
@[simp] theorem enterWaitWater_state (b : Bool) (s : State) : (enterWaitWater b s).sgc.state = .waitWater := by
  simp [enterWaitWater]

@[simp] theorem enterDryFault_state (s : State) : (enterDryFault s).sgc.state = .dryFault := by
  unfold enterDryFault
  split <;> simp_all

theorem enterOff_state {s : State} (h : s.sgc.user = .descale ∨ s.sgc.steamWanted = false) :
    (enterOff s).sgc.state = .off := by
  unfold enterOff
  rcases h with h | h <;> simp [h]

theorem stopSteam_dryFault {s : State} (h : s.sgc.state = .dryFault) : stopSteam s = s := by simp [stopSteam, h]
theorem startSteam_dryFault {s : State} (h : s.sgc.state = .dryFault) : startSteam s = s := by simp [startSteam, h]

/-! ### Scale and descale -/

@[simp] theorem beginWrite_writing (s : State) : (beginWrite s).sdu.writing = some (recordOf s.sdu) := rfl
@[simp] theorem setMark_mark (m : Mark) (s : State) : (setMark m s).sdu.mark = m := by
  unfold setMark
  split <;> simp_all

@[simp] theorem setAccount_account (a : Nat) (s : State) : (setAccount a s).sdu.account = a := by simp [setAccount]

theorem handDerate_derate (d : Bool) (s : State) : (handDerate d s).sgc.derate = d := by
  unfold handDerate
  (repeat' split) <;> simp_all

@[simp] theorem setAccount_derate (a : Nat) (s : State) : (setAccount a s).sgc.derate = derateOf a := by
  simp [setAccount, handDerate_derate]

@[simp] theorem enterPhase_phase (p : Phase) (s : State) : (enterPhase p s).sdu.phase = p := by simp [enterPhase]

/-- The phases follow for as long as one moves: where none does, nothing happens. -/
theorem sduFollow_rest {s : State} (h : sduNext s = none) : sduFollow s = s := by simp [sduFollow, followFor, h]

theorem followFor_step {n : Nat} {s t : State} (h : sduNext s = some t) : followFor (n + 1) s = followFor n t := by
  simp [followFor, h]

theorem sduNext_idle {s : State} (h : s.sdu.phase = .idle) : sduNext s = none := by
  unfold sduNext
  split <;> simp [h]

theorem sduNext_frozen {s : State} (h : s.pu.trips.lock = true) : sduNext s = none := by simp [sduNext, frozen, h]

/-! ### Trips -/

@[simp] theorem addTrip_has (k : Trip) (s : State) : (addTrip k s).pu.trips.has k = true := by
  unfold addTrip
  split
  · assumption
  · simp

theorem addTrip_member {k : Trip} {s : State} (h : s.pu.trips.has k = true) : addTrip k s = s := by simp [addTrip, h]

/-! ### The restart -/

@[simp] theorem restartBlocks_power (s : State) : (restartBlocks s).od.power = .standby := by
  simp [restartBlocks, restartDecoder, OrderDecoder.reset]

end Sys2Proof.Machine
end

