-- ==== Sys2Proof/WellFormed.lean ====
section
/-! DEFINITION. Which commands are well formed: the operands a line, a memory or the time base can present. A meaning
is total and does not consult these checks; they say which terms stand for something that can reach the C40. -/

namespace Sys2Proof

/-- A station's own address: 1–15 (§1.2). -/
def Addr.wf (a : Addr) : Bool := a != 0

/-- A notice as ten payload characters can spell it (§3.1). -/
def Notice.wf (n : Notice) : Bool :=
  n.cls ≤ 3 && n.claim ≤ 65535 && n.wanted ≤ 65535 && n.floor ≤ 65535

/-- An order's sender is a station, and with its code the payload has at most 24 characters (§1.2). -/
def orderWf (sender : Addr) (args : List Byte) : Bool := sender.wf && args.length ≤ 23

/-- A payload that names no order: empty, or code 0, or code above 20 (R23). -/
def namesNoOrder : List Byte → Bool
  | [] => true
  | c :: _ => c == 0 || 20 < c.toNat

/-- A complete frame: a length field of at most 24 and 5 + length characters (R3). -/
def frameComplete (chars : List Byte) : Bool :=
  match chars with
  | _ :: _ :: l :: _ => l.toNat ≤ 24 && chars.length == 5 + l.toNat
  | _ => false

/-- The well-formed commands. -/
def Instr.wf : Instr → Bool
  | .powerOn (some bytes) _ => bytes.length == 18
  | .powerOn none _ => true
  | .frameReceived chars => frameComplete chars
  | .noticeReceived sender n => sender.wf && n.wf
  | .orderMalformedCode sender payload => sender.wf && payload.length ≤ 24 && namesNoOrder payload
  | .wake a p | .sleep a p | .restart a p | .setClimate a p | .stopClimate a p | .loadOpen a p
  | .loadStage a p | .loadClose a p | .loadAbandon a p | .recipeStart a p | .recipeConfirm a p
  | .recipeSkip a p | .recipeAbort a p | .descaleStart a p | .descaleConfirm a p | .descaleAbort a p
  | .setHardness a p | .dropPeer a p | .clearTrip a p | .drainNow a p => orderWf a p
  | .peerEntryStale a => a.wf
  | .lineIdle | .frameStart _ | .receptionFailed _ | .confirmationSent | .frameBegin _ | .collisionDetected
  | .frameSent | .reportConfirmation _ | .confirmationWaitExpired | .consoleSilenceExpired
  | .cycleTimerExpired | .eventsTimerExpired | .diagTimerExpired | .raiseHoldEnd | .noticePeriodExpired
  | .listenInEnd | .starveEntryExpired | .starveExitExpired | .zeroCrossing _ | .measureTimeout
  | .mainsTimeout | .recoveryTimeout | .samplingRound _ | .disagreementCondition | .regulatorStep
  | .fanCycle | .fillPulse | .fillPulseEnd | .waitWaterExpired | .coolTimeExpired | .drainComplete
  | .meteringTick | .retainedWriteComplete _ | .retainedWriteTimeout _ | .soakComplete | .rinseHeatLimit
  | .stageTick | .lockTravelTimeout | .powerFailure _ => true

end Sys2Proof
end

