-- ==== Sys2Proof/Tests/Slice0.lean ====
section
/-! SUPPORT. The model's own tests: ill-formed commands refused by the well-formedness checks, the manual's worked examples,
and for each statement with hypotheses a state and operands that meet them. Expected values are the manual's. -/

namespace Sys2Proof.Tests

open Sys2Proof.Machine

/-! ### Helpers -/

/-- The state a command leaves. -/
def ex (c : Instr) (s : State) : State :=
  match exec c s with
  | .next t => t
  | _ => s

/-- The state a step leaves. -/
def st (s : State) : State :=
  match step s with
  | .next t => t
  | _ => s

/-- The oven of the manual's examples: own address 6, console 2, class 2, B 360, aux 12, F 60 (chapter 3). -/
def cfg : ConfigCopy :=
  { own := 6, console := 2, cls := 2, budget := 360, aux := 12, floor := 60, steamRating := 250, topRating := 200,
    bottomRating := 150, ringRating := 200, hardness := 14 }

/-- The configuration record that holds it. -/
def record : List Byte := [6, 2, 2, 104, 1, 12, 60, 0, 250, 0, 200, 0, 150, 0, 200, 0, 14, 23]

/-- A started C40 in STANDBY, past listen-in. -/
def on : State := { State.reset with run := .running, config := cfg, ssu.period := some 0 }

/-- Awake, with the door published closed, the tank present, the lock home and the mains measured. -/
def awake : State :=
  { on with
    od.power := .active, link.silence := some 0, mu.door.published := some false, mu.lockFb.published := some false,
    mu.tank := .present, mu.tankPresent.published := some true, mu.tankLow.published := some false,
    mu.boiler.value := .value 200, mu.mains := some .hz50, lpd.drive := .running }

/-- A MANUAL request. -/
def baking (m : Mode) (v : Int) : State :=
  { awake with
    cr.owner := .manual
    cr.request := some { mode := m, cavity := v, humidity := if m = .combi then some 500 else none, fan := 3 } }

/-- A descale phase, with the boiler its user's. -/
def descaling (p : Phase) : State := { awake with sdu.phase := p, sgc.user := .descale }

/-- A program: a CONVECTION stage to be confirmed, then the stage under test. -/
def program (x : Stage) : List Stage :=
  [.heating { mode := .convection, cavity := 1800, humidity := none, fan := 3 } .confirm none none, x, .finish]

/-- A slot that holds a program. -/
def holding (q : SlotState) (p : List Stage) : Slot := { Slot.reset with state := q, count := 3, program := p }

/-- A stage in progress at an index. -/
def atStage (k : Nat) (w : Bool) : StageContext :=
  { index := k, stageClock := 0, atTempClock := 0, waiting := w, prompt := none }

/-- Slot A runs the program, waiting for its first stage to be confirmed. -/
def cooking (x : Stage) : State :=
  { awake with
    cr.owner := .recipe
    cr.request := some { mode := .convection, cavity := 1800, humidity := none, fan := 3 }
    re.slotA := holding .running (program x), re.running := some .a, re.context := some (atStage 0 true) }

/-- Slot A runs a program of one stage, not waiting. -/
def running (x : Stage) : State :=
  { awake with
    cr.owner := .recipe
    re.slotA := holding .running [x, .prompt none 7, .finish], re.running := some .a
    re.context := some (atStage 0 false) }

/-- A stage of CONVECTION at 180.0 °C with a condition. -/
def bake (c : Condition) : Stage :=
  .heating { mode := .convection, cavity := 1800, humidity := none, fan := 3 } c none none

/-- A frame in the queue. -/
def queued (b : Body) : Frame := { body := b, collisions := 0, backoff := 0, abandoned := false }

def plain : Notice := { cls := 2, raise := false, leave := false, asleep := false, claim := 60, wanted := 60, floor := 60 }

/-! ### Well-formedness: each check refuses an ill-formed term -/

theorem test_wf_order : (Instr.wake 2 []).wf = true := by decide
theorem test_wf_sender : (Instr.wake 0 []).wf = false := by decide
theorem test_wf_orderLength : (Instr.sleep 2 (List.replicate 24 0)).wf = false := by decide
theorem test_wf_record : (Instr.powerOn (some (List.replicate 17 0)) .noAnswer).wf = false := by decide
theorem test_wf_frameShort : (Instr.frameReceived [0x22, 6, 1, 1, 0]).wf = false := by decide
theorem test_wf_lengthField : (Instr.frameReceived (0x22 :: 6 :: 25 :: List.replicate 27 0)).wf = false := by decide
theorem test_wf_noticeSender : (Instr.noticeReceived 0 plain).wf = false := by decide
theorem test_wf_noticeClass : (Instr.noticeReceived 3 { plain with cls := 4 }).wf = false := by decide
theorem test_wf_noticeValue : (Instr.noticeReceived 3 { plain with claim := 65536 }).wf = false := by decide
theorem test_wf_namesOrder : (Instr.orderMalformedCode 2 [20]).wf = false := by decide
theorem test_wf_malformedLength : (Instr.orderMalformedCode 2 (List.replicate 25 0)).wf = false := by decide
theorem test_wf_entry : (Instr.peerEntryStale 0).wf = false := by decide

/-! ### The hooks of the host: no table row has bits -/

theorem test_noWord : decodeTableWord 8 1 = none := by decide
theorem test_fetchWord : (awake.withFetchWord 8 1) = awake := by rfl

/-! ### Chapter 1: the check code and backoff -/

/-- The frame of the manual's table: a header and a payload of 1 character. -/
def frame1 : List Byte := [0x22, 6, 1, 1]

def check1 (d : List Byte) (x y : Byte) : CheckOutcome :=
  match checkChars frame1 with
  | [c0, c1] => checkFrame d (c0 ^^^ x) (c1 ^^^ y)
  | _ => .bad

/-- §1.4: syndrome 6, bad overall: position 6 is data bit 3. -/
theorem test_syndrome6 : check1 (flipBit frame1 2) 0 0 = .corrected frame1 6 := by decide +kernel
/-- §1.4: syndrome 16: check bit 4. -/
theorem test_syndrome16 : check1 frame1 16 0 = .corrected frame1 16 := by decide +kernel
/-- §1.4: syndrome 0, bad overall. -/
theorem test_syndrome0 : check1 frame1 0 1 = .corrected frame1 0 := by decide +kernel
/-- §1.4: syndrome 37: data bit 31, within the payload character. -/
theorem test_syndrome37 : check1 (flipBit frame1 30) 0 0 = .corrected frame1 37 := by decide +kernel
/-- §1.4: syndrome 40 lies past the last data position, 38. -/
theorem test_syndrome40 : check1 frame1 40 1 = .bad := by decide +kernel
/-- §1.4: syndrome 12 with a good overall result. -/
theorem test_syndrome12 : check1 frame1 12 0 = .bad := by decide +kernel

/-- R8: the first draws at address 6 are 13, 9 and 1 slots. -/
theorem test_backoff : let r := lfsrStep 6
    (backoffOf r, backoffOf (lfsrStep r), backoffOf (lfsrStep (lfsrStep r))) = (13, 9, 1) := by decide +kernel

/-- R17: the record of the examples is valid, and gives the configuration copy. -/
theorem test_record : configOf record = some cfg := by decide +kernel
/-- R17: one byte more in its sum and it is invalid. -/
theorem test_recordSum : configOf (record.set 17 24) = none := by decide +kernel

/-! ### Chapter 3: the allowance -/

/-- The peers of 'an allowance under contention': the hob FRESH, the warming drawer STALE. -/
def kitchen : State :=
  { baking .convection 1800 with
    lpd.loads.ring.demand := 750
    ssu.peers := (SupplyUnit.reset.peers.set 2 (.fresh ⟨1, 220, 260, 120⟩ 0)).set 4 (.stale ⟨3, 30, 40, 20⟩) }

/-- O = 260, H = 100, W = 162, Fo = 60, contention, A = 100. -/
theorem test_allowance :
    (othersClaim kitchen, headroom kitchen, ownWanted kitchen, floorInEffect kitchen, inContention kitchen,
      target kitchen, allowance kitchen) = (260, 100, 162, 60, true, 105, 100) := by decide +kernel

/-- 'Floors above the budget': T = 46, H = 0, A = 12. -/
theorem test_floorsAboveBudget :
    let s := { kitchen with
      ssu.peers := (SupplyUnit.reset.peers.set 2 (.fresh ⟨1, 300, 320, 300⟩ 0)).set 3 (.fresh ⟨1, 100, 100, 100⟩ 0) }
    (target s, headroom s, allowance s) = (46, 0, 12) := by decide +kernel

/-- R45: DROP_PEER(5) empties the STALE entry. -/
theorem test_dropPeer : (ex (.dropPeer 2 [5]) kitchen).ssu.peers.toList[4]? = some .empty := by decide +kernel
/-- R45: the FRESH entry is refused with PEER_FRESH, code 13. -/
theorem test_dropFresh :
    (ex (.dropPeer 2 [3]) kitchen).link.confirmation.map Confirmation.char = some 0x8D := by decide +kernel

/-- R53: with a claim in force of 60 a raise to 100 follows. -/
theorem test_raise :
    (ex (.noticeReceived 3 { plain with cls := 1, claim := 220, wanted := 260, floor := 120 })
      { kitchen with ssu.claim := 60, ssu.announced := 60 }).ssu.raise = .queued 60 := by decide +kernel

/-! ### Chapter 4: the worked cases -/

/-- One window of 'one element against a short pool': P is 870 W. -/
def shortPool (carry shed : Nat) : Nat × Nat × Nat × Nat :=
  let l : Load := { Load.rest 0 with demand := 1000, carry := carry }
  let v := convertLoad cfg 870 false .ring
    { loads := (giveGrants cfg [.ring] 0 870 { Loads.reset with ring := l }), shed := shed, total := 0 }
  (v.loads.ring.grant, v.loads.ring.count, v.loads.ring.carry, v.shed)

theorem test_window1 : shortPool 0 0 = (870, 43, 1000, 0) := by decide +kernel
theorem test_window2 : shortPool 1000 0 = (870, 43, 1999, 1) := by decide +kernel
theorem test_window3 : shortPool 1999 1 = (870, 43, 1999, 11) := by decide +kernel

/-- 'Two loads in COMBI' at its later window: P is 2380 W, the ring's carry 1000. -/
def combiWindow : State :=
  planWindow { baking .combi 1800 with
    ssu.claim := 250, lpd.loads.ring.demand := 655, lpd.loads.ring.carry := 1000, lpd.loads.steamHeater.demand := 600,
    sgc.state := .steam, mu.levelLow.published := some true }

theorem test_combiRing :
    let l := combiWindow.lpd.loads.ring
    (l.grant, l.count, l.carry, l.limited, l.position) = (1310, 66, 0, false, 0) := by decide +kernel
theorem test_combiHeater :
    let l := combiWindow.lpd.loads.steamHeater
    (l.grant, l.count, l.carry, l.limited, l.position) = (1070, 42, 2000, true, 1) := by decide +kernel

/-! ### Chapter 5: linearisation and switches -/

/-- 'A cavity sensor lead works loose': codes 600, 602 and 601. -/
theorem test_platinum :
    (linearise platinumTable 600, linearise platinumTable 602, linearise platinumTable 601) = (1615, 1622, 1618) := by
  decide +kernel
/-- 'Averaging and interpolating a boiler reading'. -/
theorem test_boilerReading :
    (publishedCode [693, 694, 694, 693, 694, 694, 693, 694], linearise boilerTable 693, linearise boilerTable 694)
      = (693, 979, 980) := by decide +kernel
/-- 'The low electrode in a boiling boiler': published dry at the end of round 7. -/
theorem test_lowElectrode :
    let w : Switch := { published := some true, runLevel := true, runLength := 3 }
    let at6 := [false, false, true, false, false].foldl sampleSwitch w
    (at6.published, (sampleSwitch at6 false).published) = (some true, some false) := by decide +kernel

/-! ### Chapter 6: the regulator -/

/-- CONVECTION at 180.0 °C. -/
def stepAt (m : Int) (c : RegContext) : RegContext :=
  regStep { setpoint := 1800, measured := some m, kp := 1280, ki := 16, limited := false, doorOpen := false,
            starved := false, noSteam := false } c

/-- 'A proportional and integral step': u is 655. -/
theorem test_regulator :
    let c := stepAt 1720 { RegContext.reset with integrator := 64000, output := 300 }
    (c.error, c.integrator, c.output) = (80, 65280, 655) := by decide
/-- 'A cold start', steps 1 and 2: the second is held. -/
theorem test_coldStart :
    let c := stepAt 290 (stepAt 250 .reset)
    (c.integrator, c.output, c.holds) = (8000, 1000, 1) := by decide
/-- 'A cold start', step n + 4: held at 0 with a negative error. -/
theorem test_holdAtZero :
    let c := stepAt 1805 { error := -10, integrator := 10880, output := 0, holds := 0 }
    (c.integrator, c.output, c.holds) = (10880, 17, 1) := by decide

/-! ### Chapters 7 and 8: the boiler, the account, the retained write -/

/-- §7.7: steam wanted with an empty boiler and a ready tank: FILL, with the first pulse of 2 ml. -/
theorem test_steamBake :
    let s := ex (.setClimate 2 [4, 0xE8, 3, 0, 0, 0]) { awake with sdu.hardness := 14 }
    (s.sgc.state, s.sgc.pulses, s.sdu.meteringSum) = (.fill, 1, 28) := by decide +kernel

/-- §8.2: 149,980 and five pulses of 28 give 150,120; DESCALE_ADVICE is raised and a write requested. -/
theorem test_advice :
    let s := ex .meteringTick { awake with sdu.account := 149980, sdu.meteringSum := 140 }
    (s.sdu.account, s.sdu.meteringSum, s.od.events.has .descaleAdvice, s.sdu.writing.isSome) = (150120, 0, true, true) := by
  decide +kernel

/-- §8.2: the unreported write at 20 ms fails, and the retry carries the new hardness. -/
theorem test_failedWrite :
    let w : StoredRecord := { account := 173402, hardness := 14, mark := 0, sumOk := true }
    let s := ex (.retainedWriteTimeout w)
      { awake with sdu.account := 173402, sdu.hardness := 18, sdu.writing := some w, sdu.rewritePending := true }
    (s.sdu.writing, s.sdu.rewritePending, s.sdu.retry, s.sdu.failures)
      = (some { w with hardness := 18 }, false, true, 1) := by decide +kernel

/-! ### Chapters 9 to 11: recipes and the lock -/

/-- 'Nested repeats', the fifth row: {3: 0} becomes {2: 1, 3: 0}, and index 1 is next. -/
theorem test_nestedRepeats :
    let bake : Stage := .heating { mode := .convection, cavity := 1800, humidity := none, fan := 3 } (.time 9) none none
    let s := reachIndex 2 { running bake with
      re.slotA.program := [bake, .prompt none 1, .loop 1 2, .loop 0 1, .finish], re.repeats := [(3, 0)] }
    (s.re.repeats, s.re.context.map StageContext.index) = ([(2, 1), (3, 0)], some 1) := by decide +kernel

/-- §9.4: a COMBI record at 200.0 °C and 95.0 % forms with its humidity brought to 90.0 %, which counts as clamped. -/
theorem test_formCombi :
    let r : StageRecord := { kind := 3, selector := 0, flags := 0x0B, cavity := 2000, humidity := 950, fan := 0,
                             condition := 1, value := 600, limit := 0, prompt := 0 }
    (formStage r, stageClamped r)
      = (.heating { mode := .combi, cavity := 2000, humidity := some 900, fan := 3 } (.time 600) none none, true) := by
  decide +kernel

/-- §11.3: the travel timer at 3000 ms: LOCK_FAULT, the LOCK trip, and the descale stays in LOCKING. -/
theorem test_lockFails :
    let s := ex .lockTravelTimeout
      { descaling .locking with pu.command := .engage, pu.lock := .locking, pu.travel := 3000 }
    (s.pu.lock, s.pu.trips.lock, s.od.events.has .trip, s.sdu.phase) = (.fault, true, true, .locking) := by
  decide +kernel

/-- §11.3: CLEAR_TRIP with the door closed: UNLOCKED, then LOCKING, the kept ENGAGE taken again. -/
theorem test_lockCleared :
    let s := ex (.clearTrip 2 [])
      { descaling .locking with pu.command := .engage, pu.lock := .fault, pu.trips.lock := true }
    (s.pu.lock, s.pu.trips.lock, s.link.confirmation) = (.locking, false, some .accept) := by decide +kernel

/-- R8: a REPORT that collides keeps its place, ahead of a NOTICE put in while it was on the line. -/
theorem test_collisionKeepsPlace :
    let r := queued (.report (.events 1))
    let s := ex .collisionDetected { awake with link.tx := .sending [], link.queue := [r, queued (.notice plain)] }
    s.link.queue.map Frame.isNotice = [false, true] := by decide +kernel

/-- R16: the console frame is taken first, and no CONSOLE_LOST occurs. -/
theorem test_consoleFrameFirst : ex .consoleSilenceExpired awake = awake := by decide +kernel

/-- R43: the notice is taken first, and the entry stays FRESH. -/
theorem test_noticeFirst : (ex (.peerEntryStale 3) kitchen).ssu.peers = kitchen.ssu.peers := by decide +kernel

/-- R109: at level 5 the relay is on throughout, the end of the cycle with it. -/
theorem test_fanLevel5 :
    (outputs { awake with
      cr.request := some { mode := .grill, cavity := 1800, humidity := none, fan := 5 }, cr.fanCycle := some 1000
      }).fanRelay = true := by decide +kernel

/-- R118, R133: a DRAIN request leaves the fill pulse count at its value. -/
theorem test_drainKeepsCount :
    let s := ex (.descaleAbort 2 []) { descaling .soakFill with sgc.state := .fill, sgc.pulses := 17 }
    (s.sgc.state, s.sgc.pulses, s.sdu.phase) = (.drain, 17, .drainAgent) := by decide +kernel

/-- R118: a first pulse, given as the next stage asks for steam in COOL, drives the pump for its own 100 ms. -/
theorem test_newPulseDrives :
    let steam : Stage := .heating { mode := .steam, cavity := 1000, humidity := none, fan := 3 } (.time 60) none none
    let s := { running (bake (.time 1)) with
      sgc.state := .cool, sgc.pumpDrive := some 100, re.slotA := holding .running [bake (.time 1), steam, .finish] }
    let t := ex .fillPulseEnd (ex .stageTick s)
    (t.sgc.state, t.sgc.pulses, t.sgc.pumpDrive, (ex .fillPulseEnd s).sgc.pumpDrive) = (.fill, 1, some 0, none) := by
  decide +kernel

/-- R152, R198: the second rinse drained as the travel in reaches 3000 ms: the bolt turns back, and that travel has just begun. -/
theorem test_turnedTravelGoesOn :
    let s := { descaling .rinse with
      sdu.rinseStep := .drain, sdu.rinseCycle := 2, sgc.state := .drain, pu.command := .engage, pu.lock := .locking,
      pu.travel := 3000 }
    let t := ex .lockTravelTimeout (ex .drainComplete s)
    (t.pu.lock, t.pu.travel, t.pu.trips.lock, (ex .lockTravelTimeout s).pu.lock) = (.unlocking, 0, false, .fault) := by
  decide +kernel

/-! ### One step -/

/-- A waiting command is taken from the front. -/
theorem test_stepTakes :
    ((st { awake with pending := [.wake 3 [], .drainNow 2 []] }).pending) = [.drainNow 2 []] := by decide +kernel
/-- With none waiting the cycle timer's 250th millisecond queues its command (notes/assumptions/2). -/
theorem test_stepTicks :
    (st { awake with od.cycleTimer := 249 }).pending = [.cycleTimerExpired] := by decide +kernel

/-! ### Witnesses: helpers -/

/-- An order in a C40 that is started, past listen-in, without a restart pending and with its lock at rest. -/
theorem passes {c : Instr} {s : State} (hs : spelled c)
    (h : s.run = .running ∧ orderSender c = some s.config.console ∧ s.od.restartPending = false ∧ s.ssu.listenIn = none ∧
      s.pu.lock ≠ .locking ∧ s.pu.lock ≠ .unlocking) : admitted c s :=
  ⟨h.1, h.2.1, hs, fun b => b.elim (fun x => x.1 h.2.2.2.1) (fun x => x.2.elim h.2.2.2.2.1 h.2.2.2.2.2), h.2.2.1⟩

/-- No event is pending. -/
theorem served {s : State} (h : s.od.events = 0) : eventsServed s := fun x => absurd h x

/-- No raise is in progress and the C40 is awake. -/
theorem claims {s : State} (h : s.ssu.claim ≤ s.ssu.announced ∧ s.ssu.raise = .none ∧ s.od.power ≠ .standby ∧
    s.ssu.listenIn = none) : claimsOrdered s :=
  ⟨h.1, by rw [h.2.1]; trivial, fun x => absurd x h.2.2.1, fun x => absurd h.2.2.2 x⟩

/-- The slots, judged one by one. -/
theorem slots {s : State} (ha : (s.re.slotA.state = .running ↔ s.re.running = some .a) ∧
      (s.re.slotA.state = .queued ↔ s.re.queued = some .a) ∧ (s.re.slotB.state = .running ↔ s.re.running = some .b) ∧
      (s.re.slotB.state = .queued ↔ s.re.queued = some .b) ∧
      (s.re.running = none → s.re.queued = none ∧ s.re.context = none ∧ s.re.repeats = [] ∧ s.re.holds = .empty)) :
    slotsAgree s :=
  ⟨fun i => by cases i <;> [exact ha.1; exact ha.2.2.1], fun i => by cases i <;> [exact ha.2.1; exact ha.2.2.2.1],
    ha.2.2.2.2⟩

theorem slots_awake : slotsAgree awake := slots (by decide +kernel)
theorem served_awake : eventsServed awake := served (by decide +kernel)
theorem claims_awake : claimsOrdered awake := claims (by decide +kernel)

/-! ### Witnesses: the step, the supply and the line -/

/-- A command waits, and behind it another. -/
theorem witness_StepTakesFront :
    ({ awake with pending := [.lineIdle, .frameSent] } : State).pending = .lineIdle :: [.frameSent] := by decide +kernel

theorem witness_ExecKeepsQueue : exec .lineIdle awake = .next (ex .lineIdle awake) := by rfl

/-- At rest, and with eight limits reached at once. -/
theorem witness_IdleStepTicks :
    (awake.run = .running ∧ awake.pending = []) ∧
      (let s := { awake with
         second := 999, ssu.raise := .holding 0 249, sgc.state := .cool, sgc.coolTime := 1799999,
         ssu.peers := SupplyUnit.reset.peers.set 2 (.fresh ⟨1, 0, 0, 0⟩ 3499), sdu.writing := some blankStore,
         sdu.writeTimer := 19, pu.lock := .locking, pu.travel := 2999 }
       s.run = .running ∧ s.pending = [] ∧
         (st s).pending =
           [.peerEntryStale 3, .raiseHoldEnd, .regulatorStep, .meteringTick, .stageTick, .coolTimeExpired,
             .retainedWriteTimeout (Config.freeRecord s.freeUses), .lockTravelTimeout]) := by
  exact ⟨by decide +kernel, rfl, rfl, rfl⟩

/-- A record whose sum is 1 modulo 256, and the memory that does not answer. -/
theorem witness_InvalidConfigurationSilences :
    (∀ b ∈ some (record.set 17 24), ¬ validRecord b) ∧ (∀ b ∈ (none : Option (List Byte)), ¬ validRecord b) := by
  refine ⟨fun b hb => ?_, by simp⟩
  obtain rfl := Option.some.inj hb
  intro h
  exact absurd h.2.1 (by decide)

/-- The ranges' lowest values make a valid record, and so do the highest. -/
theorem witness_PowerOnStartsBlocks :
    validRecord record ∧ validRecord [1, 2, 0, 100, 0, 0, 0, 0, 80, 0, 50, 0, 50, 0, 50, 0, 0, 179] ∧
      validRecord [15, 14, 3, 76, 4, 50, 144, 1, 44, 1, 44, 1, 44, 1, 44, 1, 40, 241] := by
  unfold validRecord
  decide +kernel

/-- An empty payload and one of 24 characters; the lowest and the highest class; the first and the last reason. -/
theorem witness_SentFrameReadsBack :
    (Body.report (.cycle [])).payload.length ≤ 24 ∧ (Report.cycle (List.replicate 24 255)).payload.length ≤ 24 ∧
      (Report.cycle []).payload.length ≤ 24 ∧
      refusalReasons[0]? = some .malformed ∧ refusalReasons[16]? = some .rinseRequired ∧
      (let n : Notice :=
         { cls := 3, raise := false, leave := false, asleep := true, claim := 65535, wanted := 0, floor := 258 }
       n.cls ≤ 3 ∧ ({ n with cls := 0 } : Notice).cls ≤ 3) := by
  decide +kernel

/-- A frame with no payload and one of 24 characters. -/
theorem witness_SingleFlipCorrected :
    wellLaid [0x22, 6, 0] ∧ (∃ c0 c1, checkChars [0x22, 6, 0] = [c0, c1]) ∧
      wellLaid (0x22 :: 6 :: 24 :: List.replicate 24 255) ∧
      (∃ c0 c1, checkChars (0x22 :: 6 :: 24 :: List.replicate 24 255) = [c0, c1]) :=
  ⟨by unfold wellLaid; decide +kernel, ⟨_, _, rfl⟩, by unfold wellLaid; decide +kernel, ⟨_, _, rfl⟩⟩

theorem witness_DoubleFlipDetected : wellLaid frame1 ∧ ∃ c0 c1, checkChars frame1 = [c0, c1] :=
  ⟨by unfold wellLaid; decide +kernel, _, _, rfl⟩

/-- A report that awaits its confirmation. -/
def reported : State := { awake with link.tx := .awaiting, link.queue := [queued (.report (.events 3))] }

theorem witness_ReceptionStartsAndEnds :
    (awake.run = .running ∧ ({ awake with link.rx := .receiving } : State).link.tx = .idle) ∧
      (awake.link.tx = .idle ∧ awake.link.rx ≠ .receiving ∧ awake.link.rx ≠ .idle) ∧
      (reported.run = .running ∧ reported.link.tx = .awaiting ∧ reported.link.rx ≠ .receiving ∧
        reported.link.queue = queued (.report (.events 3)) :: []) ∧
      ({ reported with link.tx := .sending [48] } : State).link.tx = .sending [48] ∧
      (let s := { awake with link.rx := .idle, link.queue := [queued (.notice plain)] }
       s.run = .running ∧ s.link.rx = .idle ∧ s.link.tx = .idle ∧ s.link.queue = queued (.notice plain) :: []) := by
  decide +kernel

/-- The characters of a CLEAN frame from station `a` of a kind, to the C40. -/
def sent (kind a : BitVec 4) (payload : List Byte) : List Byte :=
  let d : List Byte := (kind ++ a : Byte) :: 6 :: BitVec.ofNat 8 payload.length :: payload
  d ++ checkChars d

/-- The C40 receives. -/
def listeningIn : State := { awake with link.rx := .receiving }

/-- A WAKE, one with its first data bit flipped, one with two bits flipped. -/
theorem witness_TakenFrameUsedByKind :
    listeningIn.run = .running ∧ listeningIn.link.rx = .receiving ∧
      receive (sent 2 2 [1]) = .complete (.clean [0x22, 6, 1, 1]) ∧
      receive (flipBit (sent 2 2 [1]) 0) = .complete (.corrected [0x22, 6, 1, 1] 3) ∧
      receive (flipBit (flipBit (sent 2 2 [1]) 0) 1) = .complete .bad ∧
      (let t := takenOf [0x22, 6, 1, 1]
       t.kind = 2 ∧ t.target = listeningIn.config.own ∧ t.sender = listeningIn.config.console) ∧
      (receive (sent 1 3 (noticePayload plain)) = .complete (.clean (0x13 :: 6 :: 10 :: noticePayload plain)) ∧
        noticeOf (noticePayload plain) = some plain ∧ (noticePayload plain).length = 10) ∧
      receive (sent 1 3 []) = .complete (.clean [0x13, 6, 0]) ∧ receive (sent 3 3 []) = .complete (.clean [0x33, 6, 0]) ∧
      receive (sent 4 3 []) = .complete (.clean [0x43, 6, 0]) := by
  decide +kernel

def raising : Notice := { plain with raise := true, claim := 100 }

/-- A notice due at 52 bit times, a raise due at 12, and each of them on the line. -/
theorem witness_FramesBeginAndGo :
    (let s := { awake with link.rx := .idle, link.queue := [queued (.notice plain)] }
     s.run = .running ∧ s.link.queue = queued (.notice plain) :: [] ∧ s.link.rx = .idle ∧ s.link.tx = .idle ∧
       s.link.confirmation = none ∧ 12 + 20 * (waitSlots (.notice plain) + 0) ≤ 52 ∧
       51 < 12 + 20 * (waitSlots (.notice plain) + 0) ∧ 12 + 20 * (waitSlots (.notice raising) + 0) ≤ 12) ∧
      (let s := { awake with link.tx := .sending [], link.queue := [queued (.report (.events 1))] }
       s.link.tx = .sending [] ∧ s.link.queue = queued (.report (.events 1)) :: []) ∧
      (let s := { awake with link.tx := .sending [], link.queue := [queued (.notice raising)], ssu.raise := .queued 60 }
       s.link.tx = .sending [] ∧ s.link.queue = queued (.notice raising) :: [] ∧ raising.leave = false ∧
         raising.raise = true ∧ s.ssu.raise = .queued 60) := by
  decide +kernel

/-- The seventh collision draws a backoff and the eighth drops the frame. -/
theorem witness_CollisionBacksOff :
    let f : Frame := { queued (.notice raising) with collisions := 6 }
    let g : Frame := { queued (.notice raising) with collisions := 7 }
    let s := { awake with link.tx := .sending [], link.queue := [f], ssu.raise := .queued 60 }
    let t := { awake with link.tx := .sending [], link.queue := [g], ssu.raise := .queued 60 }
    s.run = .running ∧ s.link.tx = .sending [] ∧ s.link.queue = f :: [] ∧ f.collisions < 7 ∧
      t.run = .running ∧ t.link.tx = .sending [] ∧ t.link.queue = g :: [] ∧ 7 ≤ g.collisions ∧
      g.body = .notice raising ∧ raising.leave = false ∧ raising.raise = true ∧ g.abandoned = false ∧
      t.ssu.raise = .queued 60 := by
  decide +kernel

/-- A listen-in RESTART whose confirmation has still to be sent, with an event pending. -/
def owing : State :=
  { on with
    ssu.listenIn := some 100, ssu.period := none, od.events := Event.configRestored.mask, link.restartOwed := true,
    link.confirmation := some .accept }

/-- A report awaited; a confirmation to be sent, with no restart owed and with a listen-in restart and an event owed. -/
theorem witness_ReportOutcomeActs :
    (reported.run = .running ∧ reported.link.tx = .awaiting ∧
      reported.link.queue = queued (.report (.events 3)) :: [] ∧ (none : Option Byte) ≠ some 0x20) ∧
      (owing.run = .running ∧ owing.link.confirmation = some .accept ∧ eventsServed owing ∧ owing.link.restartOwed = true ∧
        owing.od.events ≠ 0 ∧ owing.od.eventsTimer = none) ∧
      (let s := { awake with link.confirmation := some .busy }
       s.link.confirmation = some .busy ∧ eventsServed s ∧ s.link.restartOwed = false) :=
  ⟨⟨rfl, rfl, rfl, by decide⟩, ⟨rfl, rfl, fun _ => Or.inr rfl, rfl, by decide +kernel, rfl⟩, rfl,
    served (by decide +kernel), rfl⟩

/-! ### Witnesses: reports -/

/-- Each kind's turn; a stage in progress under a request with its fan running; a full queue with a waiting report, and
one of four notices. -/
theorem witness_CycleReportQueued :
    (awake.run = .running ∧ awake.link.queue.length < 4 ∧ awake.od.cycle = .climate) ∧
      (let s := { cooking (bake (.time 2)) with cr.fanCycle := some 0 }
       s.re.context = some (atStage 0 true) ∧
         s.cr.request = some { mode := .convection, cavity := 1800, humidity := none, fan := 3 } ∧
         s.cr.fanCycle = some 0) ∧
      (({ awake with od.cycle := .supply } : State).od.cycle = .supply ∧
        ({ awake with od.cycle := .water } : State).od.cycle = .water ∧
        ({ awake with od.cycle := .recipe } : State).od.cycle = .recipe) ∧
      (let n := queued (.notice plain)
       let r := queued (.report (.events 1))
       let s := { awake with link.queue := [n, n, n, r] }
       4 ≤ s.link.queue.length ∧ s.link.queue = [n, n, n] ++ r :: [] ∧ s.link.tx = .idle ∧
         4 ≤ ({ awake with link.queue := [n, n, n, n] } : State).link.queue.length) := by
  decide +kernel

/-- With and without a latched error and a pending event; a restart owed to the link unit; a full queue whose oldest waiting
REPORT is behind the one on the line, and one of notices; the first and the last event. -/
theorem witness_DiagAndEventsReported :
    (awake.run = .running ∧ awake.link.queue.length < 4 ∧ awake.link.latch = none ∧
      ({ awake with link.latch := some { syndrome := 37, sender := 2, kind := 2 } } : State).link.latch =
        some { syndrome := 37, sender := 2, kind := 2 }) ∧
      (let s := { awake with od.eventsTimer := some 250 }
       s.od.eventsTimer = some 250 ∧ s.od.events = 0 ∧ awake.od.eventsTimer = none) ∧
      (let s := { awake with od.eventsTimer := some 250, od.events := 4 }
       s.od.eventsTimer = some 250 ∧ s.od.events ≠ 0 ∧ s.link.restartOwed = false ∧
         ({ s with link.restartOwed := true } : State).link.restartOwed = true) ∧
      (let n := queued (.notice plain)
       let r := queued (.report (.events 1))
       let s := { awake with link.tx := .sending [], link.queue := [r, n, r, r], od.eventsTimer := some 250, od.events := 4 }
       4 ≤ s.link.queue.length ∧ s.link.queue = [r, n] ++ r :: [r] ∧ s.link.tx ≠ .idle ∧ s.od.events ≠ 0 ∧
         4 ≤ ({ s with link.queue := [r, n, n, n] } : State).link.queue.length) ∧
      eventBits[0]? = some .stageStarted ∧ eventBits[15]? = some .configRestored := by
  decide +kernel

/-- After a console frame taken first; with the oven at rest, with a boiler that steams for a request, with a recipe
running, in a soak, and after the agent's drain. -/
theorem witness_ConsoleLostStopsCooking :
    let lost (s : State) : State := { s with link.silence := some 20000 }
    (awake.run = .running ∧ awake.link.silence ≠ some 20000) ∧
      (let s := lost awake
       s.run = .running ∧ s.od.power = .active ∧ s.link.silence = some 20000 ∧ slotsAgree s ∧ s.sdu.phase = .idle) ∧
      (let s := lost { baking .steam 1000 with sgc.state := .steam, sgc.steamWanted := true, mu.boiler.value := .value 690 }
       slotsAgree s ∧ s.cr.owner ≠ .none ∧ s.sgc.user = .climate ∧ s.sdu.phase = .idle ∧ s.sgc.steamWanted = true ∧
         s.sgc.state ∈ [.fill, .heat, .steam, .refill, .waitWater] ∧ (boilerValue s).below 700 = true) ∧
      (let s := lost (cooking .finish)
       slotsAgree s ∧ s.cr.owner ≠ .none ∧ s.re.running = some .a) ∧
      (let s := lost (descaling .soak)
       s.run = .running ∧ s.od.power = .active ∧ s.link.silence = some 20000 ∧ slotsAgree s ∧
         s.sdu.phase ∈ [.locking, .soakFill, .soakHeat, .soak]) ∧
      (let s := lost (descaling .awaitRinse)
       slotsAgree s ∧ s.sdu.phase ∉ [.idle, .locking, .soakFill, .soakHeat, .soak]) :=
  ⟨⟨rfl, by decide⟩, ⟨rfl, rfl, rfl, slots_awake, rfl⟩,
    ⟨slots_awake, by decide, rfl, rfl, rfl, by decide +kernel, by decide +kernel⟩,
    ⟨slots (by decide +kernel), by decide, rfl⟩, ⟨rfl, rfl, rfl, slots_awake, by decide +kernel⟩, slots_awake,
    by decide +kernel⟩

/-! ### Witnesses: checking an order -/

/-- Another station's order, a malformed one, one during listen-in, and one that runs. -/
theorem witness_OrderChecksInOrder :
    (awake.run = .running ∧ orderSender (.wake 3 []) = some 3 ∧ (3 : Addr) ≠ awake.config.console) ∧
      (orderSender (.wake 2 [0]) = some 2 ∧ 2 = awake.config.console ∧ ¬ spelled (.wake 2 [0])) ∧
      (orderSender (.wake 2 []) = some 2 ∧ spelled (.wake 2 []) ∧
        meetsBusy (.wake 2 []) { on with ssu.listenIn := some 3499 }) ∧
      (orderSender (.drainNow 2 []) = some 2 ∧ spelled (.drainNow 2 []) ∧
        exec (.drainNow 2 []) awake = .next (ex (.drainNow 2 []) awake)) :=
  ⟨⟨rfl, rfl, by decide +kernel⟩, ⟨rfl, rfl, by simp [spelled]⟩, ⟨rfl, rfl, Or.inl ⟨by simp, rfl⟩⟩, rfl, rfl, rfl⟩

/-- A restart is pending. -/
def leaving : State := { awake with od.restartPending := true }

theorem witness_PendingRestartRefuses :
    leaving.run = .running ∧ orderSender (.sleep 2 []) = some leaving.config.console ∧ leaving.od.restartPending = true ∧
      (spelled (.sleep 2 []) ∧ ¬ meetsBusy (.sleep 2 []) leaving ∧ isRestart (.sleep 2 []) = false) ∧
      (orderSender (.restart 2 []) = some leaving.config.console ∧ spelled (.restart 2 []) ∧
        isRestart (.restart 2 []) = true) ∧
      (orderSender (.sleep 2 [0]) = some leaving.config.console ∧ ¬ spelled (.sleep 2 [0])) ∧
      (let s := { leaving with pu.lock := .locking }
       s.od.restartPending = true ∧ orderSender (.descaleStart 2 []) = some s.config.console ∧
         spelled (.descaleStart 2 []) ∧ meetsBusy (.descaleStart 2 []) s) :=
  ⟨rfl, rfl, rfl, ⟨rfl, by unfold meetsBusy; decide +kernel, rfl⟩, ⟨rfl, rfl, rfl⟩, ⟨rfl, by simp [spelled]⟩, rfl, rfl, rfl,
    Or.inr ⟨rfl, Or.inl rfl⟩⟩

/-! ### Witnesses: the general orders -/

/-- In STANDBY, in WIND_DOWN, in ACTIVE, and from STANDBY with a recovery waiting. -/
theorem witness_WakeMakesActive :
    (admitted (.wake 2 []) on ∧ eventsServed on ∧ on.od.power = .standby ∧ claimsOrdered on ∧ on.link.queue.length < 4) ∧
      (let s := { awake with od.power := .windDown }
       admitted (.wake 2 []) s ∧ eventsServed s ∧ s.od.power ≠ .active) ∧
      (admitted (.wake 2 []) awake ∧ eventsServed awake ∧ awake.od.power = .active) ∧
      (let s := { descaling .recoverRinse with od.power := .standby }
       admitted (.wake 2 []) s ∧ eventsServed s ∧ s.od.power ≠ .active ∧ s.sdu.phase = .recoverRinse ∧
         doorOpen s = false ∧ s.pu.trips.lock = false) :=
  ⟨⟨passes rfl (by decide +kernel), served rfl, rfl,
      ⟨by decide, trivial, fun _ => ⟨rfl, rfl⟩, fun _ => rfl⟩, by decide⟩,
    ⟨passes rfl (by decide +kernel), served rfl, by decide⟩,
    ⟨passes rfl (by decide +kernel), served rfl, rfl⟩, passes rfl (by decide +kernel), served rfl, by decide, rfl,
    by decide +kernel, rfl⟩

/-- In STANDBY; during a recipe and a descale; with a MANUAL request whose boiler steams, above and below 70.0 °C; and with no
request and a boiler in COOL whose time is over. -/
theorem witness_SleepWindsDown :
    (admitted (.sleep 2 []) on ∧ on.od.power ≠ .active) ∧
      (let s := cooking (.prompt none 7)
       admitted (.sleep 2 []) s ∧ s.od.power = .active ∧ recipeState s ≠ .idle) ∧
      (let s := descaling .soak
       admitted (.sleep 2 []) s ∧ s.od.power = .active ∧ recipeState s = .idle ∧ s.sdu.phase ≠ .idle) ∧
      (let s := { baking .steam 1000 with sgc.state := .steam, sgc.steamWanted := true, mu.boiler.value := .value 700 }
       admitted (.sleep 2 []) s ∧ s.od.power = .active ∧ recipeState s = .idle ∧ s.sdu.phase = .idle ∧
         s.cr.owner = .manual ∧ steamsForClimate s ∧ (boilerValue s).below 700 = false ∧
         (boilerValue { s with mu.boiler.value := .value 699 }).below 700 = true) ∧
      (let s := { awake with sgc.state := .cool, sgc.coolTime := 1800000 }
       admitted (.sleep 2 []) s ∧ s.cr.owner ≠ .manual ∧ s.sgc.user = .climate ∧ s.sgc.state = .cool) :=
  ⟨⟨passes rfl (by decide +kernel), by decide⟩, ⟨passes rfl (by decide +kernel), rfl, by decide +kernel⟩,
    ⟨passes rfl (by decide +kernel), rfl, rfl, by decide⟩,
    ⟨passes rfl (by decide +kernel), rfl, rfl, rfl, rfl, ⟨rfl, rfl, by decide +kernel⟩, by decide +kernel,
      by decide +kernel⟩,
    passes rfl (by decide +kernel), by decide, rfl, rfl⟩

def leave : Notice := { plain with leave := true, claim := 0, wanted := 0, floor := 0 }

/-- With room in the queue, with four notices in it, in listen-in, and with the LEAVE on the line, sent or at its eighth
collision. -/
theorem witness_RestartLeavesThenResets :
    (awake.run = .running ∧ admitted (.restart 2 []) awake ∧ awake.ssu.listenIn = none ∧ queueTakes awake.link = true) ∧
      (let n := queued (.notice plain)
       let s := { awake with link.queue := [n, n, n, n] }
       admitted (.restart 2 []) s ∧ s.ssu.listenIn = none ∧ queueTakes s.link = false) ∧
      (let s := { on with ssu.listenIn := some 100 }
       s.run = .running ∧ admitted (.restart 2 []) s ∧ s.ssu.listenIn = some 100) ∧
      (let f : Frame := { queued (.notice leave) with collisions := 7 }
       let s := { leaving with link.tx := .sending [], link.queue := [f] }
       s.run = .running ∧ s.link.tx = .sending [] ∧ s.link.queue = f :: [] ∧ f.body = .notice leave ∧
         leave.leave = true ∧ s.od.restartPending = true ∧ s.ssu.listenIn = none ∧ 7 ≤ f.collisions) :=
  ⟨⟨rfl, passes rfl (by decide +kernel), rfl, by decide +kernel⟩, ⟨passes rfl (by decide +kernel), rfl, by decide +kernel⟩,
    ⟨rfl, ⟨rfl, rfl, rfl, by unfold meetsBusy; decide +kernel, rfl⟩, rfl⟩, rfl, rfl, rfl, rfl, rfl, rfl, rfl, by decide⟩

/-- COMBI at its range's ends, each refusal, and a mode that stands already. -/
theorem witness_SetClimateWritesRequest :
    (let o : Instr := .setClimate 2 [5, 0xF4, 1, 200, 0, 0]
     admitted o awake ∧ (5 : Byte).toNat = modeCode .combi ∧ awake.od.power = .active ∧ recipeState awake = .idle ∧
       awake.sdu.phase = .idle ∧ awake.sdu.mark = .none ∧ ¬ 260000 ≤ awake.sdu.account ∧ awake.pu.trips = .empty) ∧
      admitted (.setClimate 2 [5, 0xFC, 8, 0x84, 3, 5]) (baking .combi 1800) ∧
      (let o : Instr := .setClimate 2 [1, 44, 1, 0, 0, 0]
       (admitted o on ∧ on.od.power ≠ .active) ∧
         (admitted o (cooking .finish) ∧ recipeState (cooking .finish) ≠ .idle) ∧
         (admitted o (descaling .awaitRinse) ∧ (descaling .awaitRinse).sdu.phase ≠ .idle) ∧
         (let s := { awake with pu.trips.sensor := true }
          admitted o s ∧ s.pu.trips.sensor = true)) ∧
      (let s := { awake with sdu.account := 260000 }
       admitted (.setClimate 2 [4, 0xE8, 3, 0, 0, 0]) s ∧ (4 : Byte).toNat = modeCode .steam ∧ 260000 ≤ s.sdu.account) :=
  have sp (m c0 c1 h0 h1 f : Byte) (h : 1 ≤ m.toNat ∧ m.toNat ≤ 6 ∧ f.toNat ≤ 5) :
      spelled (.setClimate 2 [m, c0, c1, h0, h1, f]) := ⟨m, c0, c1, h0, h1, f, rfl, h⟩
  ⟨⟨passes (sp _ _ _ _ _ _ (by decide)) (by decide +kernel), by decide, rfl, rfl, rfl, rfl, by decide +kernel, rfl⟩,
    passes (sp _ _ _ _ _ _ (by decide)) (by decide +kernel),
    ⟨⟨passes (sp _ _ _ _ _ _ (by decide)) (by decide +kernel), by decide⟩,
      ⟨passes (sp _ _ _ _ _ _ (by decide)) (by decide +kernel), by decide +kernel⟩,
      ⟨passes (sp _ _ _ _ _ _ (by decide)) (by decide +kernel), by decide⟩,
      passes (sp _ _ _ _ _ _ (by decide)) (by decide +kernel), rfl⟩,
    passes (sp _ _ _ _ _ _ (by decide)) (by decide +kernel), by decide, by decide +kernel⟩

/-- Steam wanted as it begins: from OFF, from DRAIN with a full boiler, from COOL at the boil; and as it ends in STEAM. -/
theorem witness_SetClimateWritesRequest_steam :
    let steam : Instr := .setClimate 2 [4, 0xE8, 3, 0, 0, 0]
    let grill : Instr := .setClimate 2 [3, 0xE8, 3, 0, 0, 0]
    let full : State := { awake with mu.levelLow.published := some true, mu.levelHigh.published := some true }
    (admitted steam awake ∧ awake.sgc.user = .climate ∧ awake.sgc.steamWanted = false ∧ awake.sgc.state = .off ∧
      awake.mu.tank = .present ∧ awake.mu.levelLow.published ≠ some true) ∧
      (let s := { full with sgc.state := .drain }
       admitted steam s ∧ s.sgc.state = .drain ∧ s.mu.boiler.value = .value 200) ∧
      (let s := { full with sgc.state := .cool, mu.boiler.value := .value 980 }
       admitted steam s ∧ s.sgc.state = .cool ∧ s.mu.boiler.value = .value 980) ∧
      (let s := { baking .steam 1000 with sgc.state := .steam, sgc.steamWanted := true }
       admitted grill s ∧ s.sgc.user = .climate ∧ s.sgc.steamWanted = true ∧ s.sgc.state = .steam) :=
  have sp (m c0 c1 h0 h1 f : Byte) (h : 1 ≤ m.toNat ∧ m.toNat ≤ 6 ∧ f.toNat ≤ 5) :
      spelled (.setClimate 2 [m, c0, c1, h0, h1, f]) := ⟨m, c0, c1, h0, h1, f, rfl, h⟩
  ⟨⟨passes (sp _ _ _ _ _ _ (by decide)) (by decide +kernel), rfl, rfl, rfl, rfl, by decide⟩,
    ⟨passes (sp _ _ _ _ _ _ (by decide)) (by decide +kernel), rfl, rfl⟩,
    ⟨passes (sp _ _ _ _ _ _ (by decide)) (by decide +kernel), rfl, rfl⟩,
    passes (sp _ _ _ _ _ _ (by decide)) (by decide +kernel), rfl, rfl, rfl⟩

/-- COMBI with a humid cavity, with a humidity at its bound and with none published; the door open; the mode that stands. -/
theorem witness_SetClimateWritesRequest_vent :
    let o : Instr := .setClimate 2 [5, 0xF4, 1, 0xF4, 1, 0]
    (let s := { awake with mu.hum.value := .value 601 }
     admitted o s ∧ s.mu.hum.value = .value 601 ∧ s.mu.door.published = some false ∧
       s.cr.request.map Request.mode ≠ some .combi ∧ ({ s with mu.hum.value := .value 600 } : State).mu.hum.value = .value 600 ∧
       awake.mu.hum.value = .invalid) ∧
      (let s := { awake with mu.door.published := some true }
       admitted o s ∧ s.mu.door.published ≠ some false) ∧
      (let s := { baking .combi 1800 with cr.fanCycle := some 300 }
       admitted o s ∧ s.cr.request.map Request.mode = some .combi ∧ s.cr.fanCycle = some 300) :=
  have sp (h : 1 ≤ (5 : Byte).toNat ∧ (5 : Byte).toNat ≤ 6 ∧ (0 : Byte).toNat ≤ 5) :
      spelled (.setClimate 2 [5, 0xF4, 1, 0xF4, 1, 0]) := ⟨5, 0xF4, 1, 0xF4, 1, 0, rfl, h⟩
  ⟨⟨passes (sp (by decide)) (by decide +kernel), rfl, rfl, by decide, rfl, rfl⟩,
    ⟨passes (sp (by decide)) (by decide +kernel), by decide⟩, passes (sp (by decide)) (by decide +kernel), rfl, rfl⟩

/-- No request; a MANUAL one, with the boiler at rest and waiting for water; a recipe whose boiler steams; IDLE. -/
theorem witness_StoppingOrdersEndClimate :
    (admitted (.stopClimate 2 []) awake ∧ awake.cr.owner = .none) ∧
      (admitted (.stopClimate 2 []) (baking .combi 1800) ∧ (baking .combi 1800).cr.owner = .manual) ∧
      (let s := { baking .steam 1000 with sgc.state := .waitWater, sgc.steamWanted := true }
       admitted (.stopClimate 2 []) s ∧ s.cr.owner = .manual ∧ s.sgc.user = .climate ∧ s.sgc.steamWanted = true ∧
         s.sgc.state = .waitWater) ∧
      (let s := { cooking .finish with sgc.state := .steam, sgc.steamWanted := true }
       admitted (.stopClimate 2 []) s ∧ s.cr.owner = .recipe ∧ admitted (.recipeAbort 2 []) s ∧ eventsServed s ∧
         s.re.running = some .a ∧ slotsAgree s ∧ recipeOwnsClimate s ∧ s.sgc.user = .climate ∧ s.sgc.steamWanted = true) ∧
      (admitted (.recipeAbort 2 []) awake ∧ awake.re.running = none) :=
  ⟨⟨passes rfl (by decide +kernel), rfl⟩, ⟨passes rfl (by decide +kernel), rfl⟩,
    ⟨passes rfl (by decide +kernel), rfl, rfl, rfl, rfl⟩,
    ⟨passes rfl (by decide +kernel), rfl, passes rfl (by decide +kernel), served rfl, rfl, slots (by decide +kernel),
      by unfold recipeOwnsClimate; decide +kernel, rfl, rfl⟩,
    passes rfl (by decide +kernel), rfl⟩

/-- Hardness 0 as held, 40 as a new value and 41, with a write idle and one running. -/
theorem witness_SetHardnessHeld :
    admitted (.setHardness 2 [0]) awake ∧ admitted (.setHardness 2 [40]) awake ∧ admitted (.setHardness 2 [41]) awake ∧
      eventsServed awake ∧ (0 : Byte).toNat = awake.sdu.hardness ∧ (40 : Byte).toNat ≠ awake.sdu.hardness ∧
      40 < (41 : Byte).toNat ∧ awake.sdu.writing = none ∧
      (let s := { awake with sdu.writing := some blankStore }
       admitted (.setHardness 2 [40]) s ∧ admitted (.setHardness 2 [41]) s ∧ eventsServed s ∧ s.sdu.hardness ≠ 40 ∧
         s.sdu.writing ≠ none) :=
  ⟨passes ⟨_, rfl⟩ (by decide +kernel), passes ⟨_, rfl⟩ (by decide +kernel), passes ⟨_, rfl⟩ (by decide +kernel), served rfl,
    by decide +kernel, by decide +kernel, by decide, rfl, passes ⟨_, rfl⟩ (by decide +kernel),
    passes ⟨_, rfl⟩ (by decide +kernel), served rfl, by decide, by decide⟩

theorem witness_DrainNowDrains :
    (let s := { awake with sgc.state := .cool }
     admitted (.drainNow 2 []) s ∧ s.sgc.user = .climate ∧ s.sgc.state = .cool) ∧
      (admitted (.drainNow 2 []) awake ∧ awake.sgc.state ≠ .cool) :=
  ⟨⟨passes rfl (by decide +kernel), rfl, rfl⟩, passes rfl (by decide +kernel), by decide⟩

/-- A FRESH entry 3, a STALE entry 5, EMPTY entries 1 and 15. -/
theorem witness_DropPeerEmptiesStale :
    (admitted (.dropPeer 2 [3]) kitchen ∧ kitchen.ssu.peers[(2 : Fin 15)] = .fresh ⟨1, 220, 260, 120⟩ 0) ∧
      (admitted (.dropPeer 2 [5]) kitchen ∧ kitchen.ssu.peers[(4 : Fin 15)] = .stale ⟨3, 30, 40, 20⟩) ∧
      (admitted (.dropPeer 2 [1]) kitchen ∧ kitchen.ssu.peers[(0 : Fin 15)] = .empty) ∧
      (admitted (.dropPeer 2 [15]) kitchen ∧ kitchen.ssu.peers[(14 : Fin 15)] = .empty) :=
  have sp (p : Byte) (h : 1 ≤ p.toNat ∧ p.toNat ≤ 15) : spelled (.dropPeer 2 [p]) := ⟨p, rfl, h⟩
  ⟨⟨passes (sp _ (by decide)) (by decide +kernel), by decide +kernel⟩,
    ⟨passes (sp _ (by decide)) (by decide +kernel), by decide +kernel⟩,
    ⟨passes (sp _ (by decide)) (by decide +kernel), by decide +kernel⟩,
    passes (sp _ (by decide)) (by decide +kernel), by decide +kernel⟩

/-! ### Witnesses: recipe programs -/

/-- The fourteen characters of an END, and the record they make. -/
def endChars : List Byte := [7, 0, 0, 0, 0, 0, 0, 0, 0, 0, 0, 0, 0, 0]
def endRecord : StageRecord :=
  { kind := 7, selector := 0, flags := 0, cavity := 0, humidity := 0, fan := 0, condition := 0, value := 0, limit := 0,
    prompt := 0 }

/-- Slot A is loading, with `n` places declared. -/
def loading (n : Nat) : State :=
  { awake with re.slotA := { Slot.reset with state := .loading, count := n } }

/-- Places 0, at the declared count and 23, and a busy slot. -/
theorem witness_LoadingOrdersKeepRecords :
    (admitted (.loadOpen 2 [1, 1, 0, 0]) awake ∧ admitted (.loadOpen 2 [2, 24, 52, 18]) awake ∧
      (1 : Byte).toNat = 1 ∧ awake.re.slotA.state = .empty) ∧
      (let s := cooking .finish
       admitted (.loadOpen 2 [1, 24, 0, 0]) s ∧ admitted (.loadAbandon 2 [1]) s ∧ s.re.slotA.state = .running) ∧
      (admitted (.loadStage 2 (1 :: 0 :: endChars)) awake ∧ awake.re.slotA.state ≠ .loading) ∧
      (admitted (.loadStage 2 (1 :: 1 :: endChars)) (loading 1) ∧ (loading 1).re.slotA.state = .loading ∧
        (loading 1).re.slotA.count ≤ (1 : Byte).toNat ∧ (0 : Byte).toNat < (loading 1).re.slotA.count ∧
        admitted (.loadStage 2 (1 :: 0 :: endChars)) (loading 1)) ∧
      (admitted (.loadStage 2 (1 :: 23 :: endChars)) (loading 24) ∧ (23 : Byte).toNat < (loading 24).re.slotA.count) ∧
      admitted (.loadAbandon 2 [1]) (loading 1) :=
  have so (b n t0 t1 : Byte) (h : (b = 1 ∨ b = 2) ∧ 1 ≤ n.toNat ∧ n.toNat ≤ 24) : spelled (.loadOpen 2 [b, n, t0, t1]) :=
    ⟨b, n, t0, t1, rfl, h⟩
  have sl (b k : Byte) (h : (b = 1 ∨ b = 2) ∧ k.toNat ≤ 23) : spelled (.loadStage 2 (b :: k :: endChars)) :=
    ⟨b, k, endChars, rfl, rfl, h⟩
  have sa : spelled (.loadAbandon 2 [1]) := ⟨1, rfl, Or.inl rfl⟩
  ⟨⟨passes (so _ _ _ _ (by decide)) (by decide +kernel), passes (so _ _ _ _ (by decide)) (by decide +kernel), rfl, rfl⟩,
    ⟨passes (so _ _ _ _ (by decide)) (by decide +kernel), passes sa (by decide +kernel), rfl⟩,
    ⟨passes (sl _ _ (by decide)) (by decide +kernel), by decide⟩,
    ⟨passes (sl _ _ (by decide)) (by decide +kernel), rfl, by decide +kernel, by decide +kernel,
      passes (sl _ _ (by decide)) (by decide +kernel)⟩,
    ⟨passes (sl _ _ (by decide)) (by decide +kernel), by decide +kernel⟩, passes sa (by decide +kernel)⟩

/-- A slot with its one place filled by an END, one with its place empty, and one with a record of kind 8. -/
theorem witness_LoadCloseFormsProgram :
    let places (r : StageRecord) : State :=
      { loading 1 with re.slotA.places := (Vector.replicate 24 none).set 0 (some r) }
    let bad : StageRecord := { endRecord with kind := 8 }
    (admitted (.loadClose 2 [1]) (places endRecord) ∧ (1 : Byte).toNat = 1 ∧
      (places endRecord).re.slotA.state = .loading ∧
      (places endRecord).re.slotA.places.toList.take 1 = [endRecord].map some ∧
      shapeOk [endRecord] ∧ ∀ r ∈ [endRecord], partsOk r) ∧
      (admitted (.loadClose 2 [1]) (loading 1) ∧ none ∈ (loading 1).re.slotA.places.toList.take 1) ∧
      (admitted (.loadClose 2 [1]) (places bad) ∧ (places bad).re.slotA.places.toList.take 1 = [bad].map some ∧
        ¬ shapeOk [bad]) ∧
      (admitted (.loadClose 2 [1]) awake ∧ awake.re.slotA.state ≠ .loading) := by
  have sc : spelled (.loadClose 2 [1]) := ⟨1, rfl, Or.inl rfl⟩
  refine ⟨⟨passes sc (by decide +kernel), rfl, rfl, by decide +kernel, ?_, ?_⟩,
    ⟨passes sc (by decide +kernel), by decide +kernel⟩,
    ⟨passes sc (by decide +kernel), by decide +kernel, ?_⟩, passes sc (by decide +kernel), by decide⟩
  · refine ⟨⟨endRecord, rfl, rfl⟩, ?_, ?_, by decide⟩
    · intro i r h k
      simp at k
    · intro i r h k
      rcases i with _ | i <;> simp at h
      subst h
      exact absurd k (by decide)
  · intro r h
    simp only [List.mem_singleton] at h
    subst h
    unfold partsOk
    decide
  · rintro ⟨⟨r, h, k⟩, -⟩
    simp only [List.getLast?_singleton, Option.some.injEq] at h
    subst h
    exact absurd k (by decide)

/-- A record whose stored values differ from the program's: TIME 0, and CORE at 29.9 °C. -/
theorem witness_LoadCloseFormsProgram_changed :
    let r : StageRecord := { endRecord with kind := 4, flags := 9, cavity := 600, condition := 1 }
    let c : StageRecord := { r with condition := 3, value := 299 }
    partsOk r ∧ partsOk c ∧ (∃ q p, formed r = .heating q (.time 1) none p ∧ r.value.toNat = 0) ∧
      (∃ q p, formed c = .heating q (.core 300) none p ∧ c.value.toNat < 300) :=
  ⟨by unfold partsOk; decide, by unfold partsOk; decide, ⟨_, _, rfl, rfl⟩, _, _, rfl, by decide⟩

/-- Slot A READY. -/
def ready : State := { awake with re.slotA := holding .ready (program .finish) }

/-- A start from IDLE, one behind a running slot, each refusal, and a PROMPT and an END at stage 0. -/
theorem witness_RecipeStartRunsOrQueues :
    let start : Instr := .recipeStart 2 [1]
    (admitted start ready ∧ slotsAgree ready ∧ eventsServed ready ∧ (1 : Byte).toNat = 1 ∧ ready.re.slotA.state = .ready ∧
      ready.od.power = .active ∧ ready.sdu.phase = .idle ∧ ready.sdu.mark = .none ∧ ready.re.slotA.steam = false ∧
      ready.cr.owner ≠ .manual ∧ ready.re.running = none ∧
      ready.re.slotA.program.head? = some (bake .confirm)) ∧
      (let s := { cooking .finish with re.slotB := holding .ready (program .finish) }
       admitted (.recipeStart 2 [2]) s ∧ slotsAgree s ∧ eventsServed s ∧ s.re.slotB.state = .ready ∧
         s.cr.owner ≠ .manual ∧ s.re.running = some .a) ∧
      (let s := cooking .finish
       admitted start s ∧ slotsAgree s ∧ s.re.slotA.state = .running) ∧
      (let s := { cooking .finish with
         re.slotA := holding .queued [], re.slotB := holding .running (program .finish), re.running := some .b,
         re.queued := some .a }
       admitted start s ∧ slotsAgree s ∧ s.re.slotA.state = .queued) ∧
      (admitted start awake ∧ slotsAgree awake ∧ awake.re.slotA.state = .empty) ∧
      (let s := { ready with od.power := .standby }
       admitted start s ∧ slotsAgree s ∧ s.od.power ≠ .active) ∧
      (let s := { ready with sdu.mark := .rinseNeeded }
       admitted start s ∧ slotsAgree s ∧ s.sdu.mark ≠ .none) ∧
      (let s := { ready with re.slotA.steam := true, sdu.account := 260000 }
       admitted start s ∧ slotsAgree s ∧ s.re.slotA.steam = true ∧ 260000 ≤ s.sdu.account) ∧
      (let s := { ready with cr.owner := .manual }
       admitted start s ∧ slotsAgree s ∧ s.cr.owner = .manual) ∧
      (let s := { awake with re.slotA := holding .ready [.prompt none 7, .finish] }
       admitted start s ∧ slotsAgree s ∧ eventsServed s ∧ s.re.running = none ∧
         s.re.slotA.program.head? = some (.prompt none 7)) ∧
      (let s := { awake with re.slotA := holding .ready [.finish] }
       admitted start s ∧ slotsAgree s ∧ eventsServed s ∧ s.re.running = none ∧
         s.re.slotA.program.head? = some .finish) :=
  have sa : spelled (.recipeStart 2 [1]) := ⟨1, rfl, Or.inl rfl⟩
  have sb : spelled (.recipeStart 2 [2]) := ⟨2, rfl, Or.inr rfl⟩
  ⟨⟨passes sa (by decide +kernel), slots (by decide +kernel), served rfl, rfl, rfl, rfl, rfl, rfl, rfl, by decide, rfl, rfl⟩,
    ⟨passes sb (by decide +kernel), slots (by decide +kernel), served rfl, rfl, by decide, rfl⟩,
    ⟨passes sa (by decide +kernel), slots (by decide +kernel), rfl⟩,
    ⟨passes sa (by decide +kernel), slots (by decide +kernel), rfl⟩,
    ⟨passes sa (by decide +kernel), slots (by decide +kernel), rfl⟩,
    ⟨passes sa (by decide +kernel), slots (by decide +kernel), by decide⟩,
    ⟨passes sa (by decide +kernel), slots (by decide +kernel), by decide⟩,
    ⟨passes sa (by decide +kernel), slots (by decide +kernel), rfl, by decide +kernel⟩,
    ⟨passes sa (by decide +kernel), slots (by decide +kernel), rfl⟩,
    ⟨passes sa (by decide +kernel), slots (by decide +kernel), served rfl, rfl, rfl⟩,
    passes sa (by decide +kernel), slots (by decide +kernel), served rfl, rfl, rfl⟩

/-- Each kind of stage that can follow; a REPEAT of a PROMPT stands at index 2. -/
theorem witness_ConfirmAndSkipEndStage :
    let confirm : Instr := .recipeConfirm 2 [0]
    let skip : Instr := .recipeSkip 2 [0]
    (let s := cooking (bake (.time 9))
     slotsAgree s ∧ eventsServed s ∧ s.re.running = some .a ∧ s.re.context = some (atStage 0 true) ∧
       admitted confirm s ∧ admitted skip s ∧ recipeState s = .waitPrompt ∧ (0 : Byte).toNat = (atStage 0 true).index ∧
       (s.re.slot .a).program[1]? = some (bake (.time 9)) ∧ s.pu.trips.cavityOvertemp = false ∧ s.pu.trips.sensor = false ∧
       admitted (.recipeConfirm 2 [1]) s ∧ admitted (.recipeSkip 2 [23]) s ∧ (1 : Byte).toNat ≠ (atStage 0 true).index) ∧
      (let s := cooking (.prompt none 7)
       slotsAgree s ∧ admitted confirm s ∧ recipeState s = .waitPrompt ∧
         (s.re.slot .a).program[1]? = some (.prompt none 7)) ∧
      (let s := { cooking .finish with
         re.slotA.program := [bake .confirm, .prompt none 7, .loop 1 1, .finish], re.context := some (atStage 1 true) }
       slotsAgree s ∧ eventsServed s ∧ s.re.running = some .a ∧ s.re.context = some (atStage 1 true) ∧
         admitted (.recipeConfirm 2 [1]) s ∧ recipeState s = .waitPrompt ∧
         (s.re.slot .a).program[2]? = some (.loop 1 1) ∧ (s.re.slot .a).program[1]? = some (.prompt none 7) ∧
         (∀ p ∈ s.re.repeats, p.1 ≠ 2)) ∧
      (let s := cooking .finish
       slotsAgree s ∧ admitted confirm s ∧ recipeState s = .waitPrompt ∧ (s.re.slot .a).program[1]? = some .finish ∧
         s.re.queued = none) ∧
      (let s := { cooking .finish with re.context := some (atStage 0 false) }
       slotsAgree s ∧ admitted confirm s ∧ recipeState s ≠ .waitPrompt ∧ admitted skip s) :=
  have sc (k : Byte) (h : k.toNat ≤ 23) : spelled (.recipeConfirm 2 [k]) := ⟨k, rfl, h⟩
  have ss (k : Byte) (h : k.toNat ≤ 23) : spelled (.recipeSkip 2 [k]) := ⟨k, rfl, h⟩
  ⟨⟨slots (by decide +kernel), served rfl, rfl, rfl, passes (sc _ (by decide)) (by decide +kernel),
      passes (ss _ (by decide)) (by decide +kernel), by decide +kernel, rfl, rfl, rfl, rfl,
      passes (sc _ (by decide)) (by decide +kernel), passes (ss _ (by decide)) (by decide +kernel), by decide⟩,
    ⟨slots (by decide +kernel), passes (sc _ (by decide)) (by decide +kernel), by decide +kernel, rfl⟩,
    ⟨slots (by decide +kernel), served rfl, rfl, rfl, passes (sc _ (by decide)) (by decide +kernel), by decide +kernel, rfl,
      rfl, by decide +kernel⟩,
    ⟨slots (by decide +kernel), passes (sc _ (by decide)) (by decide +kernel), by decide +kernel, rfl, rfl⟩,
    slots (by decide +kernel), passes (sc _ (by decide)) (by decide +kernel), by decide +kernel,
    passes (ss _ (by decide)) (by decide +kernel)⟩

/-- A REPEAT whose entry stands at 1 and at 0, and an END with a slot queued. -/
theorem witness_ConfirmAndSkipEndStage_path :
    let at1 (m : List (Nat × Nat)) : State := { cooking .finish with
      re.slotA.program := [bake .confirm, .prompt none 7, .loop 1 1, .prompt none 8, .finish],
      re.context := some (atStage 1 true), re.repeats := m }
    let skip : Instr := .recipeSkip 2 [1]
    (slotsAgree (at1 [(2, 1)]) ∧ admitted skip (at1 [(2, 1)]) ∧ ((at1 [(2, 1)]).re.slot .a).program[2]? = some (.loop 1 1) ∧
      ((at1 [(2, 1)]).re.slot .a).program[1]? = some (.prompt none 7) ∧
      lookRepeat (at1 [(2, 1)]).re.repeats 2 = some (0 + 1)) ∧
      (admitted skip (at1 [(2, 0)]) ∧ ((at1 [(2, 0)]).re.slot .a).program[3]? = some (.prompt none 8) ∧
        lookRepeat (at1 [(2, 0)]).re.repeats 2 = some 0) ∧
      (let s := { cooking .finish with re.slotB := holding .queued (program .finish), re.queued := some .b }
       slotsAgree s ∧ admitted (.recipeSkip 2 [0]) s ∧ (s.re.slot .a).program[1]? = some .finish ∧
         s.re.queued = some .b ∧ (s.re.slot .b).program.head? = some (bake .confirm) ∧
         s.pu.trips.cavityOvertemp = false ∧ s.pu.trips.sensor = false) :=
  have ss (k : Byte) (h : k.toNat ≤ 23) : spelled (.recipeSkip 2 [k]) := ⟨k, rfl, h⟩
  ⟨⟨slots (by decide +kernel), passes (ss _ (by decide)) (by decide +kernel), rfl, rfl, by decide +kernel⟩,
    ⟨passes (ss _ (by decide)) (by decide +kernel), rfl, by decide +kernel⟩,
    slots (by decide +kernel), passes (ss _ (by decide)) (by decide +kernel), rfl, rfl, rfl, rfl, rfl⟩

/-- IDLE; a heating stage that follows under a SENSOR trip; a REPEAT whose target is a heating stage; a fall-through to an END,
with no slot queued and with one that starts with a PROMPT or is an END alone. -/
theorem witness_ConfirmAndSkipEndStage_ends :
    let confirm : Instr := .recipeConfirm 2 [0]
    let skip : Instr := .recipeSkip 2 [0]
    (slotsAgree awake ∧ eventsServed awake ∧ awake.re.running = none ∧ admitted confirm awake ∧ admitted skip awake) ∧
      (let s := { cooking (bake (.time 9)) with pu.trips.sensor := true }
       slotsAgree s ∧ admitted skip s ∧ (s.re.slot .a).program[1]? = some (bake (.time 9)) ∧ s.pu.trips.sensor = true) ∧
      (let s := cooking (.loop 0 1)
       slotsAgree s ∧ admitted skip s ∧ (s.re.slot .a).program[1]? = some (.loop 0 1) ∧ lookRepeat s.re.repeats 1 = none ∧
         (s.re.slot .a).program[0]? = some (bake .confirm)) ∧
      (let s := { cooking (.loop 0 1) with re.repeats := [(1, 0)] }
       slotsAgree s ∧ recipeOwnsClimate s ∧ admitted skip s ∧ lookRepeat s.re.repeats 1 = some 0 ∧
         (s.re.slot .a).program[2]? = some .finish ∧ s.re.queued = none) ∧
      (let chained (p : List Stage) : State :=
         { cooking .finish with re.slotB := holding .queued p, re.queued := some .b }
       let s := chained [.prompt none 7, .finish]
       slotsAgree s ∧ admitted skip s ∧ s.re.queued = some .b ∧ (s.re.slot .b).program.head? = some (.prompt none 7) ∧
         slotsAgree (chained [.finish]) ∧ ((chained [.finish]).re.slot .b).program.head? = some .finish) :=
  have sc : spelled (.recipeConfirm 2 [0]) := ⟨0, rfl, by decide⟩
  have ss : spelled (.recipeSkip 2 [0]) := ⟨0, rfl, by decide⟩
  ⟨⟨slots_awake, served_awake, rfl, passes sc (by decide +kernel), passes ss (by decide +kernel)⟩,
    ⟨slots (by decide +kernel), passes ss (by decide +kernel), rfl, rfl⟩,
    ⟨slots (by decide +kernel), passes ss (by decide +kernel), rfl, by decide +kernel, rfl⟩,
    ⟨slots (by decide +kernel), by unfold recipeOwnsClimate; decide +kernel, passes ss (by decide +kernel),
      by decide +kernel, rfl, rfl⟩,
    slots (by decide +kernel), passes ss (by decide +kernel), rfl, rfl, slots (by decide +kernel), rfl⟩

/-- A stage in each condition, its clocks about to meet it and short of it; a door open; a prompt with a limit. -/
theorem witness_StageTickCountsAndJudges :
    (let s := running (bake (.time 2))
     s.run = .running ∧ eventsServed s ∧ s.re.running = some .a ∧ s.re.context = some (atStage 0 false) ∧
       (s.re.slot .a).program[0]? = some (bake (.time 2)) ∧ recipeState s = .running ∧ min (0 + 1) 65535 ≠ 2) ∧
      (let s := { running (bake (.time 1)) with mu.door.published := none }
       eventsServed s ∧ recipeState s = .pausedDoor) ∧
      (let s := running (bake (.timeAtTemp 1))
       recipeState s = .running ∧ s.mu.regulated = none ∧ (atStage 0 false).atTempClock ≠ 1) ∧
      (let s := { running (bake (.core 300)) with mu.probe.value := .value 299 }
       recipeState s = .running ∧ (∀ x, s.mu.probe.value = .value x → x < 300)) ∧
      (let s := { running (bake (.core 300)) with mu.probe.value := .value 300 }
       recipeState s = .running ∧ s.mu.probe.value = .value 300 ∧ (s.re.slot .a).program[1]? = some (.prompt none 7)) ∧
      (let s := { running (.prompt (some 2) 7) with re.context := some (atStage 0 true) }
       eventsServed s ∧ recipeState s = .waitPrompt ∧ (s.re.slot .a).program[0]? = some (.prompt (some 2) 7) ∧
         s.re.holds = .empty ∧ (some 2 : Option Nat) ≠ some (min (0 + 1) 65535)) :=
  ⟨⟨rfl, served rfl, rfl, rfl, rfl, by decide +kernel, by decide⟩, ⟨served rfl, by decide +kernel⟩,
    ⟨by decide +kernel, rfl, by decide⟩,
    ⟨by decide +kernel, fun x h => by
      have : x = 299 := by simpa using h.symm
      omega⟩,
    ⟨by decide +kernel, rfl, rfl⟩, served rfl, by decide +kernel, rfl, rfl, by decide⟩

/-- Each condition at the tick at which it ends its stage. -/
theorem witness_StageTickCountsAndJudges_ends :
    let r : Request := { mode := .convection, cavity := 1800, humidity := none, fan := 3 }
    (let s := running (bake (.time 1))
     recipeState s = .running ∧ min (0 + 1) 65535 = 1 ∧ (s.re.slot .a).program[1]? = some (.prompt none 7)) ∧
      (let s := { running (bake (.timeAtTemp 1)) with mu.regulated := some 1750 }
       recipeState s = .running ∧ s.mu.regulated = some 1750 ∧ r.cavity - 50 ≤ 1750 ∧ (1750 : Int) ≤ r.cavity + 50) ∧
      (let s := { running (.heating r (.core 300) (some 1) none) with mu.probe.value := .value 299 }
       recipeState s = .running ∧ s.mu.probe.value = .value 299) ∧
      (let s := { running (.heating r .confirm (some 1) none) with re.context := some (atStage 0 true) }
       recipeState s = .waitPrompt ∧ s.re.holds = .empty) ∧
      (let s := { running (.prompt (some 0) 7) with re.context := some (atStage 0 true), re.holds.power := true }
       recipeState s = .waitPrompt ∧ s.re.holds ≠ .empty ∧ (atStage 0 true).stageClock = 0) := by
  decide +kernel

/-- A stage that ends with a heating stage next, with a REPEAT next that jumps to one, with an END next, and with an END and a
queued slot. -/
theorem witness_StageTickCountsAndJudges_path :
    let before (p : List Stage) : State := { running (bake (.time 1)) with re.slotA.program := bake (.time 1) :: p }
    (let s := before [bake .confirm, .finish]
     s.run = .running ∧ s.od.events = 0 ∧ recipeState s = .running ∧ s.re.running = some .a ∧
       s.re.context = some (atStage 0 false) ∧ (s.re.slot .a).program[0]? = some (bake (.time 1)) ∧
       (s.re.slot .a).program[1]? = some (bake .confirm)) ∧
      (let s := before [.loop 0 1, .finish]
       (s.re.slot .a).program[1]? = some (.loop 0 1) ∧ lookRepeat s.re.repeats 1 = none ∧
         lookRepeat ({ s with re.repeats := [(1, 0)] } : State).re.repeats 1 = some 0 ∧ recipeState s = .running) ∧
      (let s := before [.finish]
       (s.re.slot .a).program[1]? = some .finish ∧ s.re.queued = none ∧ s.cr.owner = .recipe ∧ recipeState s = .running) ∧
      (let s := { before [.finish] with re.slotB := holding .queued [.prompt none 7, .finish], re.queued := some .b }
       s.re.queued = some .b ∧ (s.re.slot .b).program.head? = some (.prompt none 7) ∧ recipeState s = .running) := by
  decide +kernel

/-! ### Witnesses: the descale and the trips -/

/-- From OFF, from COOL and from DRAIN, and each refusal. -/
theorem witness_DescaleStartTakesBoiler :
    let start : Instr := .descaleStart 2 []
    (admitted start awake ∧ awake.od.power = .active ∧ recipeState awake = .idle ∧ awake.cr.owner = .none ∧
      awake.pu.trips = .empty ∧ awake.sdu.phase = .idle ∧ awake.sgc.state = .off) ∧
      (let s := { awake with sgc.state := .cool }
       admitted start s ∧ s.sgc.state = .cool) ∧
      (let s := { awake with sgc.state := .drain }
       admitted start s ∧ s.sgc.state = .drain) ∧
      (admitted start on ∧ on.od.power ≠ .active) ∧
      (admitted start (cooking .finish) ∧ recipeState (cooking .finish) ≠ .idle) ∧
      (admitted start (baking .combi 1800) ∧ (baking .combi 1800).cr.owner ≠ .none) ∧
      (let s := { awake with pu.trips.sensor := true }
       admitted start s ∧ s.pu.trips ≠ .empty) ∧
      (admitted start (descaling .awaitAgent) ∧ (descaling .awaitAgent).sdu.phase ≠ .idle) :=
  ⟨⟨passes rfl (by decide +kernel), rfl, rfl, rfl, rfl, rfl, rfl⟩, ⟨passes rfl (by decide +kernel), rfl⟩,
    ⟨passes rfl (by decide +kernel), rfl⟩, ⟨passes rfl (by decide +kernel), by decide⟩,
    ⟨passes rfl (by decide +kernel), by decide +kernel⟩, ⟨passes rfl (by decide +kernel), by decide⟩,
    ⟨passes rfl (by decide +kernel), by decide⟩, passes rfl (by decide +kernel), by decide⟩

theorem witness_DescaleConfirmMovesOn :
    let agent : Instr := .descaleConfirm 2 [1]
    let rinse : Instr := .descaleConfirm 2 [2]
    (let s := descaling .awaitAgent
     admitted agent s ∧ s.sdu.phase = .awaitAgent ∧ s.pu.trips.lock = false ∧ doorOpen s = false ∧ lockFaultTripped s ∧
       s.sgc.user = .descale ∧ s.pu.lock = .unlocked) ∧
      (let s := { descaling .awaitAgent with pu.lock := .locked }
       admitted agent s ∧ lockFaultTripped s ∧ s.pu.lock = .locked) ∧
      (let s := { descaling .awaitAgent with mu.door.published := some true }
       admitted agent s ∧ doorOpen s = true) ∧
      (admitted agent awake ∧ awake.sdu.phase ≠ .awaitAgent) ∧
      (let s := descaling .awaitRinse
       admitted rinse s ∧ s.sdu.phase = .awaitRinse ∧ s.pu.trips.lock = false ∧ s.sgc.state = .off ∧ tankReady s = true ∧
         boilerFull s = false ∧ s.sgc.user = .descale) ∧
      (let s := { descaling .awaitRinse with pu.trips.lock := true, pu.lock := .fault }
       admitted rinse s ∧ s.pu.trips.lock = true) :=
  have sa : spelled (.descaleConfirm 2 [1]) := Or.inl rfl
  have sr : spelled (.descaleConfirm 2 [2]) := Or.inr rfl
  ⟨⟨passes sa (by decide +kernel), rfl, rfl, by decide +kernel, by unfold lockFaultTripped; decide +kernel, rfl, rfl⟩,
    ⟨passes sa (by decide +kernel), by unfold lockFaultTripped; decide +kernel, rfl⟩,
    ⟨passes sa (by decide +kernel), by decide +kernel⟩, ⟨passes sa (by decide +kernel), by decide⟩,
    ⟨passes sr (by decide +kernel), rfl, rfl, rfl, by decide +kernel, by decide +kernel, rfl⟩, passes sr (by decide +kernel),
    rfl⟩

/-- A rinse that begins with the tank low, with a full boiler, from COOL and in DRY_FAULT. -/
theorem witness_DescaleConfirmMovesOn_rinse :
    let rinse : Instr := .descaleConfirm 2 [2]
    let s := descaling .awaitRinse
    (admitted rinse { s with mu.tank := .low } ∧ boilerFull { s with mu.tank := .low } = false) ∧
      (let f := { s with mu.levelLow.published := some true, mu.levelHigh.published := some true, sgc.state := .cool }
       admitted rinse f ∧ boilerFull f = true ∧ f.sgc.state = .cool ∧ f.mu.boiler.value = .value 200) ∧
      (let d := { s with sgc.state := .dryFault, pu.trips.boilerDry := true }
       admitted rinse d ∧ d.pu.trips.lock = false ∧ d.sgc.state = .dryFault ∧ d.sgc.user = .descale) :=
  have sr : spelled (.descaleConfirm 2 [2]) := Or.inr rfl
  ⟨⟨passes sr (by decide +kernel), by decide +kernel⟩, ⟨passes sr (by decide +kernel), by decide +kernel, rfl, rfl⟩,
    passes sr (by decide +kernel), rfl, rfl, rfl⟩

theorem witness_DescaleAbortByPhase :
    let abort : Instr := .descaleAbort 2 []
    (admitted abort awake ∧ awake.sdu.phase = .idle) ∧
      (admitted abort (descaling .drainAgent) ∧
        (descaling .drainAgent).sdu.phase ∈ [.drainAgent, .awaitRinse, .rinse, .unlocking, .recoverDrain, .recoverRinse]) ∧
      (let s := { descaling .prepDrain with sgc.state := .drain }
       admitted abort s ∧ s.sdu.phase ∈ [.prepDrain, .awaitAgent] ∧ s.sgc.state = .drain) ∧
      (let s := { descaling .soak with sgc.state := .heat }
       admitted abort s ∧ s.sdu.phase ∈ [.locking, .soakFill, .soakHeat, .soak] ∧ s.pu.trips.lock = false ∧
         s.sgc.state ∈ [.off, .fill, .heat, .waitWater, .cool] ∧ s.sgc.user = .descale) :=
  ⟨⟨passes rfl (by decide +kernel), rfl⟩, ⟨passes rfl (by decide +kernel), by decide +kernel⟩,
    ⟨passes rfl (by decide +kernel), by decide +kernel, rfl⟩, passes rfl (by decide +kernel), by decide +kernel, rfl,
    by decide +kernel, rfl⟩

/-- No trip; LOCK with the door open and closed; BOILER_DRY with the boiler at 100.0 °C and below. -/
theorem witness_ClearTripRemovesEnded :
    let clear : Instr := .clearTrip 2 []
    (admitted clear awake ∧ awake.pu.trips = .empty) ∧
      (let s := { awake with pu.trips.lock := true, pu.lock := .fault, mu.door.published := some true }
       admitted clear s ∧ s.pu.trips ≠ .empty ∧ s.mu.door.published ≠ some false ∧ s.pu.trips.sensor = false ∧
         s.pu.trips.cavityOvertemp = false ∧ s.pu.trips.boilerDry = false) ∧
      (let s := { awake with pu.trips.lock := true, pu.lock := .fault }
       admitted clear s ∧ s.pu.trips.lock = true ∧ ¬ s.mu.door.published ≠ some false ∧ s.pu.command = .none ∧
         s.sdu.phase = .idle ∧ s.re.running = none ∧ slotsAgree s) ∧
      (let s := { awake with pu.trips.boilerDry := true, sgc.state := .dryFault, mu.boiler.value := .value 999 }
       admitted clear s ∧ s.pu.trips.boilerDry = true ∧ s.mu.boiler.value = .value 999 ∧ s.sgc.user = .climate ∧
         s.sgc.steamWanted = false ∧ slotsAgree s) :=
  ⟨⟨passes rfl (by decide +kernel), rfl⟩, ⟨passes rfl (by decide +kernel), by decide, by decide, rfl, rfl, rfl⟩,
    ⟨passes rfl (by decide +kernel), rfl, by decide +kernel, rfl, rfl, rfl, slots (by decide +kernel)⟩,
    passes rfl (by decide +kernel), rfl, rfl, rfl, rfl, slots (by decide +kernel)⟩

/-- A stage held by BOILER_DRY, whose cause has gone. -/
theorem witness_ClearTripRemovesEnded_hold :
    let r : Request := { mode := .steam, cavity := 900, humidity := none, fan := 3 }
    let s := { running (.heating r (.time 9) none none) with
      re.holds.trip := true, pu.trips.boilerDry := true, sgc.state := .dryFault, mu.boiler.value := .value 999 }
    admitted (.clearTrip 2 []) s ∧ s.re.running = some .a ∧ s.re.context = some (atStage 0 false) ∧
      (s.re.slot .a).program[0]? = some (.heating r (.time 9) none none) ∧ s.re.holds.trip = true ∧
      (ex (.clearTrip 2 []) s).pu.trips = .empty :=
  ⟨passes rfl (by decide +kernel), rfl, rfl, rfl, rfl, by decide +kernel⟩

/-! ### Witnesses: sharing the supply -/

/-- Entry 1 and the shadow entry; a raise due at exactly 5 u and one short of it; an entry at its 3500 ms, one that a
notice has made fresh again, and a STALE one. -/
theorem witness_NoticeReplacesEntry :
    let s := { awake with ssu.claim := 7, ssu.announced := 7 }
    let old : State := { awake with ssu.peers := SupplyUnit.reset.peers.set 2 (.fresh ⟨1, 220, 260, 120⟩ 3500) }
    awake.run = .running ∧ (1 : Addr).toNat = (0 : Fin 15).val + 1 ∧ (15 : Addr).toNat = (14 : Fin 15).val + 1 ∧
      (6 : Addr) = awake.config.own ∧
      (s.ssu.raise = .none ∧ s.ssu.claim + 5 ≤ allowance s ∧ s.od.power ≠ .standby ∧ s.od.restartPending = false ∧
        s.link.queue.length < 4) ∧
      allowance { s with ssu.claim := 8 } < 8 + 5 ∧ ({ s with ssu.raise := .queued 0 } : State).ssu.raise ≠ .none ∧
      old.ssu.peers[(2 : Fin 15)] = .fresh ⟨1, 220, 260, 120⟩ 3500 ∧
      (∀ v, kitchen.ssu.peers[(2 : Fin 15)] ≠ .fresh v 3500) ∧
      (∀ v, kitchen.ssu.peers[(4 : Fin 15)] ≠ .fresh v 3500) := by
  have h : kitchen.ssu.peers[(2 : Fin 15)] = .fresh ⟨1, 220, 260, 120⟩ 0 := by decide +kernel
  have k : kitchen.ssu.peers[(4 : Fin 15)] = .stale ⟨3, 30, 40, 20⟩ := by decide +kernel
  refine ⟨rfl, by decide, by decide, by decide, by decide +kernel, by decide +kernel, by decide, by decide +kernel, ?_, ?_⟩
  · intro v x
    rw [h] at x
    exact absurd x (by simp)
  · intro v x
    rw [k] at x
    exact absurd x (by simp)

/-- STANDBY; room for all; floors at the budget and above; a share; a wanted at its floor. -/
theorem witness_AllowanceSharesBudget :
    let peer (w f : Nat) (s : State) : State := { s with ssu.peers := SupplyUnit.reset.peers.set 2 (.fresh ⟨1, 0, w, f⟩ 0) }
    on.od.power = .standby ∧ awake.od.power ≠ .standby ∧
      (totalWanted (peer 348 0 awake) = 360 ∧ totalWanted (peer 349 0 awake) = 361) ∧
      (totalFloor (peer 348 348 (baking .combi 1800)) = 360 ∧ totalWanted (peer 349 349 (baking .combi 1800)) = 361) ∧
      (totalFloor kitchen < 360 ∧ floorInEffect kitchen < ownWanted kitchen) ∧
      (let s := peer 349 0 (baking .combi 1800)
       totalFloor s < 360 ∧ 360 < totalWanted s ∧ ownWanted s ≤ floorInEffect s) := by
  decide +kernel

theorem witness_SupplyTimersEnd :
    (let s := { awake with ssu.raise := .holding 60 250, ssu.announced := 100 }
     s.run = .running ∧ s.ssu.raise = .holding 60 250) ∧
      (let s := { on with ssu.listenIn := some 3500, ssu.period := none }
       s.run = .running ∧ s.ssu.listenIn = some 3500 ∧ claimsOrdered s ∧ s.od.restartPending = false ∧
         s.link.queue.length < 4) ∧
      (let n := queued (.notice plain)
       let s := { on with ssu.listenIn := some 3500, link.queue := [n, n, n, n] }
       s.ssu.listenIn = some 3500 ∧ s.od.restartPending = false ∧ queueTakes s.link = false) ∧
      (let s := { awake with ssu.entryTimer := some 5000 }
       s.ssu.entryTimer = some 5000 ∧ s.ssu.starved = false) ∧
      (let s := { awake with ssu.starved := true, ssu.exitTimer := some 5000 }
       s.ssu.exitTimer = some 5000 ∧ s.ssu.starved = true) ∧
      (let s := { awake with ssu.entryTimer := some 4999, ssu.exitTimer := some 0 }
       s.ssu.entryTimer ≠ some 5000 ∧ s.ssu.exitTimer ≠ some 5000) :=
  ⟨⟨rfl, rfl⟩, ⟨rfl, rfl, ⟨by decide +kernel, trivial, fun _ => ⟨rfl, rfl⟩, fun _ => rfl⟩, rfl, by decide⟩,
    ⟨rfl, rfl, by decide +kernel⟩, ⟨rfl, rfl⟩, ⟨rfl, rfl⟩, by decide, by decide⟩

/-- While the drive runs; while it does not, with a raised value waiting above the allowance of 12 and with a claim that
falls from 32 to it; and with a restart pending. -/
theorem witness_NoticePeriodTakesClaim :
    (awake.run = .running ∧ claimsOrdered awake ∧ awake.ssu.period = some 0 ∧ awake.lpd.drive = .running ∧
      awake.od.restartPending = false ∧ awake.ssu.listenIn = none ∧ awake.link.queue = []) ∧
      (let s := { awake with
         lpd.drive := .mainsAbsent false 0, ssu.announced := 13, ssu.raise := .waiting 0 13 }
       s.run = .running ∧ claimsOrdered s ∧ s.ssu.period = some 0 ∧ s.lpd.drive ≠ .running ∧
         s.ssu.raise = .waiting 0 13 ∧ (ex .noticePeriodExpired s).ssu.claim < s.ssu.announced) ∧
      (let s := { awake with lpd.drive := .mainsAbsent false 0, ssu.announced := 32, ssu.claim := 32 }
       claimsOrdered s ∧ s.ssu.raise = .none ∧ (ex .noticePeriodExpired s).ssu.claim + 20 ≤ s.ssu.claim) ∧
      (claimsOrdered leaving ∧ leaving.ssu.period = some 0 ∧ leaving.od.restartPending = true) :=
  ⟨⟨rfl, claims_awake, rfl, rfl, rfl, rfl, rfl⟩,
    ⟨rfl, ⟨by decide, (by decide : (13 : Nat) ≤ 13), fun x => absurd x (by decide), fun x => absurd rfl x⟩, rfl, by decide,
      rfl, by decide +kernel⟩,
    ⟨claims (by decide +kernel), rfl, by decide +kernel⟩, claims (by decide +kernel), rfl, rfl⟩

/-- A claim of 100 falls to 12 at a window start. -/
theorem witness_NewClaimWithinHeadroom :
    let s := { awake with ssu.claim := 100, ssu.announced := 100 }
    exec (.zeroCrossing 10000) s = .next (ex (.zeroCrossing 10000) s) ∧
      (ex (.zeroCrossing 10000) s).ssu.claim ≠ s.ssu.claim :=
  ⟨rfl, by decide +kernel⟩

/-! ### Witnesses: the burst drive -/

/-- Each drive state at its bounds, for either mains: the band's limits, the 19th and the 20th interval. -/
theorem witness_CrossingsCountHalfCycles :
    (let s := { awake with lpd.half := 98 }
     s.run = .running ∧ s.lpd.drive = .running ∧ s.mu.mains = some .hz50 ∧ (bandLimits .hz50).1 ≤ 8500 ∧
       8499 < (bandLimits .hz50).1 ∧ s.lpd.half < 99) ∧
      (let s := { awake with mu.mains := some .hz60 }
       s.lpd.drive = .running ∧ s.mu.mains = some .hz60 ∧ (bandLimits .hz60).1 ≤ 7100 ∧ 7099 < (bandLimits .hz60).1) ∧
      (let s := { on with lpd.drive := .measuring true 18 180000 }
       s.run = .running ∧ s.lpd.drive = .measuring true 18 180000 ∧ (18 : Nat) < 19 ∧ (7000 ≤ 7000 ∧ 7000 ≤ 12000)) ∧
      ({ on with lpd.drive := .measuring true 19 190000 } : State).lpd.drive = .measuring true 19 190000 ∧
      on.lpd.drive = .measuring false 0 0 ∧
      (let s := { awake with lpd.drive := .mainsAbsent true 19 }
       s.lpd.drive = .mainsAbsent true 19 ∧ s.mu.mains = some .hz50 ∧ (bandLimits .hz50).1 ≤ 11500 ∧
         11500 ≤ (bandLimits .hz50).2 ∧ (bandLimits .hz50).2 < 11501) ∧
      (let s := { awake with lpd.drive := .mainsAbsent true 0, mu.mains := some .hz60 }
       s.mu.mains = some .hz60 ∧ 9600 ≤ (bandLimits .hz60).2 ∧ (bandLimits .hz60).2 < 9601) := by
  decide +kernel

/-- The last half-cycle of a window, with heat wanted, a door open, in STANDBY; with a raised value that waits above the
allowance, and with a claim that falls by 20 u and more. -/
theorem witness_WindowWithinPool :
    let s := { kitchen with lpd.half := 99, ssu.claim := 100, ssu.announced := 100 }
    let d := { s with mu.door.published := some true }
    let z := { s with od.power := .standby, ssu.claim := 0, ssu.announced := 0 }
    let w := { s with ssu.claim := 60, ssu.announced := 150, ssu.raise := .waiting 60 150 }
    let f := { s with ssu.claim := 120, ssu.announced := 120 }
    (s.run = .running ∧ s.lpd.drive = .running ∧ s.mu.mains = some .hz50 ∧ (bandLimits .hz50).1 ≤ 8500 ∧ s.lpd.half = 99 ∧
        s.lpd.shed ≤ 65535) ∧
      ({ s with lpd.shed := 65535 } : State).lpd.shed ≤ 65535 ∧ interlocked s .ring = false ∧ doorOpen d = true ∧ d.lpd.half = 99 ∧ z.od.power = .standby ∧ z.lpd.half = 99 ∧
      (s.od.restartPending = false ∧ s.ssu.listenIn = none ∧ s.link.queue = []) ∧
      (w.ssu.raise = .waiting 60 150 ∧ (ex (.zeroCrossing 8500) w).ssu.claim < w.ssu.announced) ∧
      (f.ssu.raise = .none ∧ (ex (.zeroCrossing 8500) f).ssu.claim + 20 ≤ f.ssu.claim) := by
  decide +kernel

/-- The ring's gate comes on at the window's first crossing. -/
theorem witness_OnlyCrossingsDriveGates :
    let s := { kitchen with lpd.half := 99, ssu.claim := 100, ssu.announced := 100 }
    exec (.zeroCrossing 8500) s = .next (ex (.zeroCrossing 8500) s) ∧
      (ex (.zeroCrossing 8500) s).lpd.gates.get .ring = true ∧ s.lpd.gates.get .ring = false :=
  ⟨rfl, by decide +kernel, rfl⟩

/-! ### Witnesses: measurement, protection and climate -/

def codes (n : Nat) : Samples :=
  { cavA := BitVec.ofNat 10 n, cavB := BitVec.ofNat 10 n, probe := BitVec.ofNat 10 n, boiler := BitVec.ofNat 10 n,
    hum := BitVec.ofNat 10 n, levelLow := false, levelHigh := false, tankPresent := true, tankLow := false, door := false,
    lockFb := false }

/-- Codes at the classes' bounds; a round that makes both cavity channels VALID. -/
theorem witness_SamplingRoundPublishes :
    awake.run = .running ∧ (codes 7).cavA.toNat ≤ 7 ∧ 8 ≤ (codes 8).cavA.toNat ∧ (codes 1015).cavA.toNat ≤ 1015 ∧
      1016 ≤ (codes 1016).cavA.toNat ∧
      (let s := { awake with mu.cavA.ring := List.replicate 7 600, mu.cavB.ring := List.replicate 7 600 }
       let t := ex (.samplingRound (codes 600)) s
       t.mu.cavA.value = .value 1615 ∧ t.mu.cavB.value = .value 1615) ∧
      (ex (.samplingRound (codes 7)) awake).mu.cavA.value = .invalid := by
  decide +kernel

/-- A round in which a cavity channel goes SHORT; two channels 25.1 °C and 25.0 °C apart. -/
theorem witness_PublicationAddsTrips :
    awake.run = .running ∧
      exec (.samplingRound (codes 7)) awake = .next (ex (.samplingRound (codes 7)) awake) ∧
      (let s := { baking .combi 1800 with mu.cavA.value := .value 1500, mu.cavB.value := .value 1751 }
       s.run = .running ∧ s.mu.cavA.value = .value 1500 ∧ s.mu.cavB.value = .value 1751 ∧ (1500 : Int) + 250 < 1751 ∧
         s.pu.trips.sensor = false ∧ s.cr.owner = .manual) ∧
      (let s := { awake with mu.cavA.value := .value 1500, mu.cavB.value := .value 1750 }
       ∀ a b, s.mu.cavA.value = .value a → s.mu.cavB.value = .value b → a ≤ b + 250 ∧ b ≤ a + 250) := by
  refine ⟨rfl, rfl, by decide +kernel, ?_⟩
  intro s a b ha hb
  have h1 : a = 1500 := by simpa [s] using ha.symm
  have h2 : b = 1750 := by simpa [s] using hb.symm
  omega

/-- A trip that CLEAR_TRIP takes out, one that a crossing leaves, and one that a round adds. -/
theorem witness_TripsAreLatched :
    (let s := { awake with pu.trips.lock := true, pu.lock := .fault }
     exec (.clearTrip 2 []) s = .next (ex (.clearTrip 2 []) s) ∧ s.pu.trips.has .lock = true ∧
       (ex (.clearTrip 2 []) s).pu.trips.has .lock = false ∧ (ex .regulatorStep s).pu.trips.has .lock = true) ∧
      (awake.pu.trips.has .sensor = false ∧
        (ex (.samplingRound (codes 7)) awake).pu.trips.has .sensor = true) :=
  ⟨⟨rfl, rfl, by decide +kernel, by decide +kernel⟩, rfl, by decide +kernel⟩

/-- Without a mode, in COMBI with both values, with the cavity or the humidity INVALID, and with the output at its limit. -/
theorem witness_RegulatorStepFollowsRules :
    (awake.run = .running ∧ awake.cr.request = none) ∧
      (let s := { baking .combi 1800 with
         mu.regulated := some 1720, mu.hum.value := .value 400, cr.temperature.integrator := 64000,
         cr.temperature.output := 300 }
       s.run = .running ∧ s.cr.request = some { mode := .combi, cavity := 1800, humidity := some 500, fan := 3 } ∧
         s.mu.regulated = some 1720 ∧ s.mu.hum.value = .value 400 ∧ s.cr.temperature.output ≠ 0 ∧ s.sgc.user = .climate ∧
         (∀ v, ({ s with mu.hum.value := .invalid } : State).mu.hum.value ≠ .value v)) ∧
      (let s := baking .steam 1000
       s.cr.request = some { mode := .steam, cavity := 1000, humidity := none, fan := 3 } ∧ s.mu.regulated = none) :=
  ⟨⟨rfl, rfl⟩, ⟨rfl, rfl, rfl, rfl, by decide, rfl, fun _ h => by cases h⟩, rfl, rfl⟩

/-- The fan inside its on time, at its end, and at level 5 as its cycle ends; the 299th pulse and the 300th. -/
theorem witness_OutputLinesAndPulses :
    (let s := { baking .grill 1800 with cr.fanCycle := some 599 }
     s.run = .running ∧ s.cr.fanCycle = some 599 ∧ s.cr.request.map Request.fan = some 3 ∧ 599 < 3 * 200 ∧ 3 * 200 ≤ 600) ∧
      awake.cr.fanCycle = none ∧
      (let r : Request := { mode := .grill, cavity := 1800, humidity := none, fan := 5 }
       let s := { baking .grill 1800 with cr.fanCycle := some 1000, cr.request := some r }
       s.run = .running ∧ s.cr.fanCycle = some 1000 ∧ s.cr.request = some r ∧ 5 ≤ r.fan ∧ 1000 % 1000 < r.fan * 200) ∧
      (let s := { awake with sgc.state := .fill, sgc.pulseTimer := some 200, sgc.pulses := 298 }
       s.run = .running ∧ s.sgc.pulseTimer ≠ none ∧ s.sgc.state = .fill ∧ s.mu.tank = .present ∧
         s.mu.levelLow.published = none ∧ s.od.events = 0 ∧ s.sgc.pulses < 299) ∧
      (let s := { awake with sgc.state := .refill, sgc.pulseTimer := some 200, sgc.pulses := 299 }
       s.sgc.state = .refill ∧ s.mu.tank = .present ∧ 299 ≤ s.sgc.pulses ∧ s.sgc.user = .climate) ∧
      ({ awake with sgc.pumpDrive := some 100 } : State).sgc.pumpDrive = some 100 ∧
      ({ awake with sgc.pumpDrive := some 0 } : State).sgc.pumpDrive ≠ some 100 := by
  decide +kernel

theorem witness_BoilerWaitsEnd :
    (let s := { awake with sgc.state := .waitWater, sgc.wait := some 2000 }
     s.run = .running ∧ s.sgc.state = .waitWater ∧ s.sgc.wait ≠ none ∧ s.mu.tank = .present ∧ boilerFull s = false ∧
       s.sdu.phase = .idle ∧ s.od.events = 0) ∧
      (let s := { awake with sgc.state := .cool }
       s.sgc.state = .cool ∧ s.sgc.user = .climate ∧ s.od.power ≠ .standby ∧
         ({ s with od.power := .standby } : State).od.power = .standby) ∧
      (let s := { awake with sgc.state := .drain, od.power := .windDown }
       s.sgc.state = .drain ∧ s.mu.tank ≠ .absent ∧ s.sgc.user = .climate ∧ s.sgc.steamWanted = false ∧
         s.sdu.phase = .idle) ∧
      (let s := { descaling .prepDrain with sgc.state := .drain }
       s.sgc.state = .drain ∧ s.mu.tank ≠ .absent ∧ s.sgc.user = .descale ∧ s.pu.trips.lock = false ∧
         s.sdu.phase = .prepDrain) ∧
      (let s := { descaling .drainAgent with sgc.state := .drain }
       s.sgc.user = .descale ∧ s.sdu.phase = .drainAgent) ∧
      awake.sgc.state ≠ .waitWater := by
  decide +kernel

/-- The wait's end in a soak's and in a rinse's fill, with the boiler not full and full, and frozen; for the climate with a full
boiler at 98.0 °C and below; and a drain that ends while frozen. -/
theorem witness_BoilerWaitsEnd_fill :
    let waiting (s : State) : State := { s with sgc.state := .waitWater, sgc.wait := some 2000 }
    let full (s : State) : State :=
      { waiting s with mu.levelLow.published := some true, mu.levelHigh.published := some true }
    (let s := waiting (descaling .soakFill)
     s.run = .running ∧ s.sgc.state = .waitWater ∧ s.sgc.wait ≠ none ∧ s.od.events = 0 ∧ s.mu.tank = .present ∧
       boilerFull s = false ∧ s.sgc.user = .descale ∧ s.sdu.phase = .soakFill) ∧
      (let s := full (descaling .soakFill)
       boilerFull s = true ∧ s.sgc.user = .descale ∧ s.pu.trips.lock = false ∧ s.sdu.phase = .soakFill ∧
         ({ s with pu.trips.lock := true } : State).pu.trips.lock = true) ∧
      (let s := full { descaling .rinse with sdu.rinseStep := .fill }
       boilerFull s = true ∧ s.sdu.phase = .rinse ∧ s.sdu.rinseStep = .fill) ∧
      (let s := full awake
       boilerFull s = true ∧ s.sgc.user = .climate ∧ s.sdu.phase = .idle ∧ s.mu.boiler.value = .value 200 ∧
         ({ s with mu.boiler.value := .value 980 } : State).mu.boiler.value = .value 980) ∧
      (let s := { descaling .drainAgent with sgc.state := .drain, pu.trips.lock := true, pu.lock := .fault }
       s.sgc.state = .drain ∧ s.mu.tank ≠ .absent ∧ s.sgc.user = .descale ∧ s.pu.trips.lock = true ∧
         s.od.power ≠ .windDown ∧ s.od.events = 0) := by
  decide +kernel

/-- A rinse's first and second drain, and a drain's end with steam wanted. -/
theorem witness_BoilerWaitsEnd_rinse :
    let rinse (n : Nat) : State := { descaling .rinse with
      sgc.state := .drain, sdu.rinseStep := .drain, sdu.rinseCycle := n, pu.lock := .locked }
    (let s := rinse 1
     s.run = .running ∧ s.sgc.state = .drain ∧ s.mu.tank = .present ∧ s.sgc.user = .descale ∧ s.pu.trips.lock = false ∧
       s.sdu.phase = .rinse ∧ s.sdu.rinseStep = .drain ∧ s.sdu.rinseCycle = 1 ∧ boilerFull s = false) ∧
      ((rinse 2).sdu.rinseCycle = 2 ∧ (rinse 2).pu.lock = .locked) ∧
      (let s := { baking .steam 1000 with sgc.state := .drain, sgc.steamWanted := true }
       s.sgc.state = .drain ∧ s.mu.tank = .present ∧ s.sgc.user = .climate ∧ s.sgc.steamWanted = true ∧
         s.sdu.phase = .idle ∧ boilerFull s = false ∧
         boilerFull { s with mu.levelLow.published := some true, mu.levelHigh.published := some true } = true ∧
         ({ s with mu.tank := .low } : State).mu.tank = .low) := by
  decide +kernel

/-- What a round publishes of the boiler: codes 600 in the cavity and `b` in the boiler, the level as given. -/
def water (b : Nat) (low high : Bool) : Samples :=
  { codes 600 with boiler := BitVec.ofNat 10 b, levelLow := low, levelHigh := high }

/-- The cavity channels VALID, the boiler's ring full of a code, and the electrodes published as they read. -/
def steaming (b : Nat) (low high : Bool) (s : State) : State :=
  let ch (c : Nat) : Channel := { status := .valid, ring := List.replicate 8 c, value := .value 200 }
  let sw (x : Bool) : Switch := { published := some x, runLevel := x, runLength := 3 }
  { s with
    mu.cavA := ch 600, mu.cavB := ch 600, mu.boiler := ch b, mu.levelLow := sw low, mu.levelHigh := sw high,
    mu.tankPresent := sw true, mu.tankLow := sw false, mu.door := sw false, mu.lockFb := sw false }

/-- Each state of the boiler at a condition that moves it or keeps it; code 460 is 67.5 °C, 694 is 98.0 °C (§5.4). -/
theorem witness_BoilerFollowsPublication :
    let meets (x : Samples) (s : State) : Prop :=
      s.run = .running ∧ s.sgc.user = .climate ∧ s.sdu.phase = .idle ∧
        (ex (.samplingRound x) s).pu.trips = s.pu.trips ∧
        (ex (.samplingRound x) s).mu.boiler.value ≠ .invalid
    let boiler (b : BoilerState) (s : State) : State := { s with sgc.state := b, sgc.pulseTimer := some 5 }
    (let s := boiler .fill (steaming 460 true true awake)
     let t := ex (.samplingRound (water 460 true true)) s
     meets (water 460 true true) s ∧ t.sgc.state = .heat) ∧
      (let s := boiler .fill (steaming 460 true false awake)
       meets (water 460 true false) s ∧ (ex (.samplingRound (water 460 true false)) s).sgc.state = .fill) ∧
      (let s := boiler .heat (steaming 694 true true awake)
       let t := ex (.samplingRound (water 694 true true)) s
       meets (water 694 true true) s ∧ t.mu.boiler.value = .value 980 ∧ t.sgc.state = .steam) ∧
      (let s := boiler .steam (steaming 694 false false awake)
       meets (water 694 false false) s ∧ (ex (.samplingRound (water 694 false false)) s).sgc.state = .refill) ∧
      (let s := boiler .cool (steaming 460 true true awake)
       meets (water 460 true true) s ∧ (ex (.samplingRound (water 460 true true)) s).sgc.state = .drain) ∧
      (let s := { boiler .waitWater (steaming 460 true false awake) with sgc.limitMark := true }
       let t := ex (.samplingRound (water 460 true false)) s
       meets (water 460 true false) s ∧ t.sgc.state = .waitWater ∧ t.sgc.limitMark = true) ∧
      (let s := { boiler .off (steaming 460 false false awake) with
         mu.levelLow := { published := none, runLevel := true, runLength := 2 } }
       meets (water 460 true false) s ∧ (ex (.samplingRound (water 460 true false)) s).sgc.state = .cool) := by
  decide +kernel

/-- A full REFILL, a FILL with the tank low, STEAM and FILL with the boiler value INVALID, and a low electrode dry in HEAT. -/
theorem witness_BoilerFollowsPublication_more :
    let boiler (b : BoilerState) (s : State) : State := { s with sgc.state := b, sgc.pulseTimer := some 5 }
    let low : Samples := { water 460 true false with tankLow := true }
    let short (x : Samples) : Samples := { x with boiler := 0 }
    (ex (.samplingRound (water 460 true true)) (boiler .refill (steaming 460 true true awake))).sgc.state = .steam ∧
      (let s := boiler .fill (steaming 460 true false awake)
       let t := ex (.samplingRound low) { s with mu.tankLow := { published := some true, runLevel := true, runLength := 3 } }
       t.sgc.state = .waitWater ∧ t.od.events.has .tankEmpty = true ∧ t.pu.trips = .empty) ∧
      (let t := ex (.samplingRound (short (water 694 true true))) (boiler .steam (steaming 694 true true awake))
       t.sgc.state = .heat ∧ t.mu.boiler.value = .invalid ∧ t.lpd.loads.steamHeater.demand = 0 ∧ t.pu.trips = .empty) ∧
      (let t := ex (.samplingRound (water 460 false false)) (boiler .heat (steaming 460 false false awake))
       t.sgc.state = .fill ∧ t.sgc.pulses = 1) := by
  decide +kernel

/-- At rest across a multiple of 2,000 with a write idle and one running; in a soak at its band's edges, in its last second
and with the boiler in DRY_FAULT; in a rinse's heating and in its last second. -/
theorem witness_MeteringTickAdds :
    (let s := { awake with sdu.account := 1999, sdu.meteringSum := 1 }
     s.run = .running ∧ s.sdu.phase ≠ .soak ∧ s.sdu.phase ≠ .rinse ∧ s.sdu.account / 2000 ≠ 2000 / 2000 ∧
       s.sdu.writing = none ∧ ({ s with sdu.writing := some blankStore } : State).sdu.writing ≠ none ∧
       awake.sdu.account / 2000 = 0) ∧
      (let s := { descaling .soak with mu.boiler.value := .value 600, sdu.soakCount := 1198 }
       s.sdu.phase = .soak ∧ s.sdu.soakCount < 1199 ∧ s.mu.boiler.value = .value 600 ∧ s.pu.trips.lock = false ∧
         ({ s with mu.boiler.value := .invalid } : State).mu.boiler.value = .invalid) ∧
      (let s := { descaling .soak with mu.boiler.value := .value 750, sdu.soakCount := 1199, sgc.state := .heat }
       s.run = .running ∧ s.sdu.phase = .soak ∧ s.mu.boiler.value = .value 750 ∧ s.pu.trips.lock = false ∧
         s.sdu.soakCount = 1199 ∧ s.sgc.user = .descale ∧ s.sgc.state ∈ [.off, .fill, .heat, .waitWater, .cool] ∧
         ({ s with sgc.state := .dryFault } : State).sgc.state = .dryFault) ∧
      (let s := { descaling .rinse with sdu.rinseStep := .heat, sgc.state := .heat, sdu.heatingTime := 598 }
       s.sdu.phase = .rinse ∧ s.sdu.rinseStep = .heat ∧ s.sdu.heatingTime < 599 ∧ s.sgc.state = .heat ∧
         s.pu.trips.lock = false ∧ s.sgc.user = .descale ∧
         ({ s with sdu.heatingTime := 599 } : State).sdu.heatingTime = 599) := by
  decide +kernel

theorem witness_RetainedWriteEnds :
    let w : StoredRecord := { account := 173402, hardness := 14, mark := 0, sumOk := true }
    let s := { awake with sdu.writing := some w }
    awake.run = .running ∧ awake.sdu.writing = none ∧ s.run = .running ∧ s.sdu.writing = some w ∧
      { w with hardness := 18 } ≠ w := by
  decide +kernel

theorem witness_SoakRinseAndTravelEnd :
    (let s := descaling .soak
     s.run = .running ∧ s.sdu.phase = .soak ∧ s.pu.trips.lock = false ∧ s.sgc.user = .descale ∧
       s.sgc.state ∈ [.off, .fill, .heat, .waitWater, .cool]) ∧
      (let s := { descaling .rinse with sdu.rinseStep := .heat, sgc.state := .heat }
       s.sdu.phase = .rinse ∧ s.sdu.rinseStep = .heat ∧ s.sgc.state = .heat ∧ s.pu.trips.lock = false ∧
         s.sgc.user = .descale) ∧
      (let s := { descaling .locking with pu.lock := .locking, pu.travel := 3000 }
       s.pu.lock = .locking ∧ s.pu.travel = 3000 ∧ s.pu.trips.lock = false ∧ s.sgc.user = .descale) ∧
      (let s := { descaling .unlocking with pu.lock := .unlocking, pu.travel := 2999 }
       s.run = .running ∧ s.pu.lock = .unlocking ∧ s.pu.travel ≠ 3000) ∧
      awake.pu.lock ≠ .locking ∧ awake.pu.lock ≠ .unlocking ∧ awake.sdu.phase ≠ .soak ∧ awake.sdu.phase ≠ .rinse := by
  decide +kernel

/-- A soak with the boiler in DRY_FAULT. -/
theorem witness_SoakRinseAndTravelEnd_dry :
    let s := { descaling .soak with sgc.state := .dryFault, pu.trips.boilerDry := true }
    s.run = .running ∧ s.sdu.phase = .soak ∧ s.pu.trips.lock = false ∧ s.sgc.state = .dryFault ∧ s.od.events = 0 := by
  decide +kernel

/-- Each phase that follows a publication, at its condition. -/
theorem witness_DescaleFollowsPublication :
    let meets (x : Samples) (s : State) : Prop :=
      s.run = .running ∧ s.sgc.user = .descale ∧ (ex (.samplingRound x) s).pu.trips = s.pu.trips ∧
        s.pu.trips.lock = false ∧ s.mu.lockFb.published ≠ none
    let boiler (b : BoilerState) (s : State) : State := { s with sgc.state := b, sgc.pulseTimer := some 5 }
    let fb (x : Bool) : Switch := { published := some (!x), runLevel := x, runLength := 2 }
    (let s := { steaming 460 false false (descaling .locking) with
       pu.lock := .locking, pu.command := .engage, mu.lockFb := fb true }
     let x : Samples := { water 460 false false with lockFb := true }
     let t := ex (.samplingRound x) s
     meets x s ∧ t.pu.lock = .locked ∧ t.sdu.phase = .soakFill ∧ t.sgc.state = .fill) ∧
      (let s := boiler .fill (steaming 460 true true (descaling .soakFill))
       let t := ex (.samplingRound (water 460 true true)) s
       meets (water 460 true true) s ∧ t.sdu.phase = .soakHeat ∧ t.lpd.loads.steamHeater.demand = 1000) ∧
      (let s := boiler .heat (steaming 600 true true (descaling .soakHeat))
       let t := ex (.samplingRound (water 600 true true)) s
       meets (water 600 true true) s ∧ t.sdu.phase = .soak ∧ t.sdu.soakCount = 0) ∧
      (let s := boiler .heat (steaming 694 true true { descaling .rinse with sdu.rinseStep := .heat })
       let t := ex (.samplingRound (water 694 true true)) s
       meets (water 694 true true) s ∧ t.sdu.rinseStep = .drain ∧ t.sgc.state = .drain) ∧
      (let s := { steaming 460 false false (descaling .unlocking) with
         pu.lock := .unlocking, pu.command := .release, mu.lockFb := fb false, sdu.account := 200000,
         sdu.mark := .rinseNeeded, sgc.derate := true }
       let t := ex (.samplingRound (water 460 false false)) s
       meets (water 460 false false) s ∧ t.sdu.phase = .idle ∧ t.sdu.account = 0 ∧ t.sgc.user = .climate) ∧
      (let s := steaming 460 false false (descaling .recoverDrain)
       let t := ex (.samplingRound (water 460 false false)) s
       meets (water 460 false false) s ∧ t.sdu.phase = .locking ∧ t.pu.lock = .locking) := by
  decide +kernel

/-- The soak's heater at 64.9 °C or below, between its thresholds and at 70.0 °C; a rinse's fill that is full, below 90.0 °C
and above; a boiler in DRY_FAULT. -/
theorem witness_DescaleFollowsPublication_more :
    let boiler (b : BoilerState) (s : State) : State := { s with sgc.state := b, sgc.pulseTimer := some 5 }
    let soak (c : Nat) : State :=
      ex (.samplingRound (water c true true))
        { boiler .heat (steaming c true true (descaling .soak)) with lpd.loads.steamHeater.demand := 300 }
    ((soak 400).lpd.loads.steamHeater.demand = 1000 ∧ (soak 460).lpd.loads.steamHeater.demand = 300 ∧
      (soak 500).lpd.loads.steamHeater.demand = 0 ∧ (soak 460).pu.trips = .empty) ∧
      (let rinse (c : Nat) : State :=
         ex (.samplingRound (water c true true)) (boiler .fill (steaming c true true (descaling .rinse)))
       (rinse 460).sdu.rinseStep = .heat ∧ (rinse 460).sgc.state = .heat ∧ (rinse 460).pu.trips = .empty ∧
         (rinse 694).sdu.rinseStep = .drain ∧ (rinse 694).sgc.state = .drain ∧ (rinse 694).pu.trips = .empty) ∧
      (let s := boiler .dryFault (steaming 694 true true { descaling .soakHeat with pu.trips.boilerDry := true })
       (ex (.samplingRound (water 694 true true)) s).sdu.phase = .soakHeat) := by
  decide +kernel

/-! ### Witnesses: the invariants -/

theorem witness_ClaimsStayOrdered :
    claimsOrdered { awake with pending := [.noticePeriodExpired] } ∧
      step { awake with pending := [.noticePeriodExpired] } = .next (ex .noticePeriodExpired awake) :=
  ⟨claims (by decide +kernel), rfl⟩

/-- A report that awaits, and one that has collided and keeps its place ahead of a notice. -/
theorem witness_LinkInvariantsKept :
    (let s := { reported with pending := [.confirmationWaitExpired] }
     queueInOrder s ∧ eventsServed s ∧ step s = .next (ex .confirmationWaitExpired reported)) ∧
      (let f : Frame := { queued (.report (.events 3)) with collisions := 1, backoff := 5 }
       let s := { awake with link.queue := [f, queued (.notice plain)], pending := [.lineIdle] }
       queueInOrder s ∧ eventsServed s) := by
  refine ⟨⟨⟨by decide, List.Pairwise.nil, fun h => absurd h (by decide), fun _ => by decide, fun _ f h => ?_⟩, served rfl,
    rfl⟩, ⟨by decide, ?_, fun _ f h _ k => ?_, fun h => absurd rfl h, fun h => absurd h (by decide)⟩, served rfl⟩
  · cases h
    rfl
  · exact List.Pairwise.cons (fun _ h => absurd h (by simp)) List.Pairwise.nil
  · cases h
    exact absurd k (by decide)

theorem witness_CookingInvariantsKept :
    (let s := { descaling .awaitRinse with pending := [.descaleConfirm 2 [2]] }
     agentApart s ∧ slotsAgree s ∧ lockFaultTripped s ∧
       step s = .next (ex (.descaleConfirm 2 [2]) (descaling .awaitRinse))) ∧
      (let s := { cooking .finish with pending := [.recipeAbort 2 []] }
       slotsAgree s ∧ recipeOwnsClimate s ∧ step s = .next (ex (.recipeAbort 2 []) (cooking .finish))) :=
  ⟨⟨fun _ => ⟨rfl, rfl⟩, slots (by decide +kernel), by unfold lockFaultTripped; decide +kernel, rfl⟩,
    slots (by decide +kernel), by unfold recipeOwnsClimate; decide +kernel, rfl⟩

/-- A CORE stage without its probe, held by PROBE, and its skip. -/
theorem witness_HoldsFollowCauses :
    let s := { running (bake (.core 300)) with re.holds.probe := true, pending := [.recipeSkip 2 [0]] }
    slotsAgree s ∧ holdsFit s ∧
      step s = .next (ex (.recipeSkip 2 [0]) { running (bake (.core 300)) with re.holds.probe := true }) := by
  refine ⟨slots (by decide +kernel), fun g h => ?_, rfl⟩
  obtain rfl : bake (.core 300) = g := Option.some.inj h
  decide +kernel

theorem witness_RangesKept :
    let s := { kitchen with pending := [.regulatorStep] }
    controlInRange s ∧ scaleInRange s ∧ step s = .next (ex .regulatorStep kitchen) := by
  refine ⟨⟨?_, ?_, by decide, by decide, fun i => ?_⟩, ?_, rfl⟩
  · unfold RegContext.inRange
    decide +kernel
  · unfold RegContext.inRange
    decide +kernel
  · unfold Load.inRange
    cases i <;> decide +kernel
  · unfold scaleInRange
    decide +kernel

end Sys2Proof.Tests
end

section
/-! The claims of the supply sharing unit: which operations leave them alone, and how the others keep them in order (R49 to R56). -/

namespace Sys2Proof.Machine.Sharing

/-! ### The claims under each operation -/

/-- Nothing the claims' order speaks of has moved. -/
def keepsClaims (s t : State) : Prop :=
  t.od.power = s.od.power ∧ t.ssu.claim = s.ssu.claim ∧ t.ssu.announced = s.ssu.announced ∧
    t.ssu.raise = s.ssu.raise ∧ t.ssu.listenIn = s.ssu.listenIn

theorem keepsClaims.claim {s t : State} (h : keepsClaims s t) : t.ssu.claim = s.ssu.claim := h.2.1

theorem keepsClaims.listenIn {s t : State} (h : keepsClaims s t) : t.ssu.listenIn = s.ssu.listenIn := h.2.2.2.2

theorem claimsOrdered_iff_of_keepsClaims {s t : State} (h : keepsClaims s t) : claimsOrdered t ↔ claimsOrdered s := by
  obtain ⟨hp, hc, ha, hr, hl⟩ := h
  simp only [claimsOrdered, hp, hc, ha, hr, hl]

theorem claimsOrdered_recordAllowance {s : State} (h : claimsOrdered s) : claimsOrdered (recordAllowance s) :=
  (claimsOrdered_iff_of_keepsClaims (by simp [keepsClaims])).2 h

/-- Where a raise is due, it is queued with A announced, or, if the queue does not take its notice, ended at once. -/
theorem startRaise_raise {s : State} (h : raiseDue s = true) :
    (queueTakes s.link = true → (startRaise s).ssu.raise = .queued s.ssu.announced ∧
        (startRaise s).ssu.announced = s.ssu.lastA) ∧
      (queueTakes s.link = false → (startRaise s).ssu.raise = .none ∧ (startRaise s).ssu.announced = s.ssu.announced) := by
  simp +contextual [startRaise, h, raiseDropped]

theorem startRaise_not_due {s : State} (h : raiseDue s = false) : startRaise s = s := by simp [startRaise, h]

theorem raiseDue_iff (s : State) :
    raiseDue s = true ↔
      s.ssu.claim + 5 ≤ s.ssu.lastA ∧ s.ssu.raise = .none ∧ s.od.power ≠ .standby ∧ s.od.restartPending = false := by
  simp [raiseDue, and_assoc]

theorem claimsOrdered_startRaise {s : State} (h : claimsOrdered s) : claimsOrdered (startRaise s) := by
  cases hd : raiseDue s with
  | false => rwa [startRaise_not_due hd]
  | true =>
    obtain ⟨hA, hnone, hpower, -⟩ := (raiseDue_iff s).1 hd
    obtain ⟨htaken, hdropped⟩ := startRaise_raise hd
    obtain ⟨hle, -, -, hlisten⟩ := h
    cases hq : queueTakes s.link with
    | true =>
      obtain ⟨hr, ha⟩ := htaken hq
      simp only [claimsOrdered, hr, ha, startRaise_keeps]
      exact ⟨by omega, hle, fun hs => absurd hs hpower, hlisten⟩
    | false =>
      obtain ⟨hr, ha⟩ := hdropped hq
      simp only [claimsOrdered, hr, ha, startRaise_keeps]
      exact ⟨hle, trivial, fun hs => absurd hs hpower, hlisten⟩

theorem claimsOrdered_compute {s : State} (h : claimsOrdered s) : claimsOrdered (compute s) :=
  claimsOrdered_startRaise (claimsOrdered_recordAllowance h)

/-- The claim an ordinary notice carries becomes the announced claim, unless none is offered (R41, R57, R59). -/
theorem offerNotice_announced (c : Nat) (s : State) :
    (offerNotice c s).ssu.announced =
      if s.od.restartPending = true ∨ s.ssu.listenIn ≠ none then s.ssu.announced
      else if s.od.power = .standby then 0 else c := by
  unfold offerNotice ordinaryNotice
  (repeat' split) <;> simp_all

/-- A notice may announce any claim that is not below C nor below a raised value that waits. -/
theorem claimsOrdered_offerNotice {c : Nat} {s : State} (h : claimsOrdered s) (hc : s.ssu.claim ≤ c)
    (hr : ∀ pre r, s.ssu.raise = .waiting pre r → r ≤ c) : claimsOrdered (offerNotice c s) := by
  obtain ⟨hle, hraise, hstandby, hlisten⟩ := h
  simp only [claimsOrdered, offerNotice_keeps, offerNotice_announced]
  refine ⟨?_, ?_, hstandby, hlisten⟩
  · split
    · exact hle
    · split
      · exact (hstandby ‹_›).1.le
      · exact hc
  · cases hs : s.ssu.raise with
    | waiting pre r =>
      have hne : s.od.power ≠ .standby := fun hp => by simp [(hstandby hp).2] at hs
      simp only [hs] at hraise
      simp only [hne, if_false]
      split
      · exact hraise
      · exact hr pre r hs
    | queued pre => simpa only [hs] using hraise
    | none | holding => trivial

/-! #### The claim point -/

theorem takeRaised_raise (s : State) :
    (takeRaised s).ssu.raise = if raiseWaits s then .none else s.ssu.raise := by
  unfold takeRaised raiseWaits
  split <;> simp_all

theorem claimsOrdered_takeRaised {s : State} (h : claimsOrdered s) : claimsOrdered (takeRaised s) := by
  obtain ⟨hle, hraise, hstandby, hlisten⟩ := h
  cases hs : s.ssu.raise with
  | waiting pre r =>
    have hne : s.od.power ≠ .standby := fun hp => by simp [(hstandby hp).2] at hs
    simp only [hs] at hraise
    simp only [claimsOrdered, takeRaised_keeps, takeRaised_raise, takeRaised_claim, raiseWaits, hs]
    exact ⟨hraise, trivial, fun hp => absurd hp hne, hlisten⟩
  | _ =>
    have hsame : takeRaised s = s := by simp [takeRaised, hs]
    rw [hsame]
    exact ⟨hle, hraise, hstandby, hlisten⟩

/-- A claim that falls keeps its place below the announced claim and the pre-raise value. -/
theorem claimsOrdered_lowerClaim {s : State} (h : claimsOrdered s) : claimsOrdered (lowerClaim s) := by
  obtain ⟨hle, hraise, hstandby, hlisten⟩ := h
  simp only [claimsOrdered, lowerClaim_keeps, lowerClaim_claim]
  refine ⟨by omega, ?_, fun hp => ⟨?_, (hstandby hp).2⟩, hlisten⟩
  · cases hs : s.ssu.raise with
    | queued pre =>
      simp only [hs] at hraise ⊢
      omega
    | waiting pre r => simpa only [hs] using hraise
    | none | holding => trivial
  · simp [(hstandby hp).1]

/-- The notice of a claim point is offered with no raise in progress only (R51). -/
theorem claimsOrdered_claimNotice {ended : Bool} {before : Nat} {s : State} (h : claimsOrdered s)
    (hended : ended = true → s.ssu.raise = .none) : claimsOrdered (claimNotice ended before s) := by
  unfold claimNotice
  split
  next hoffer =>
    have hnone : s.ssu.raise = .none := hoffer.elim (fun x => hended x.1) (fun x => x.1)
    exact claimsOrdered_offerNotice h le_rfl (by simp [hnone])
  next => exact h

theorem claimsOrdered_claimPoint {s : State} (h : claimsOrdered s) : claimsOrdered (claimPoint s) :=
  claimsOrdered_claimNotice (claimsOrdered_lowerClaim (claimsOrdered_takeRaised (claimsOrdered_recordAllowance h)))
    (fun hw => by simp only [lowerClaim_keeps, takeRaised_raise, hw, if_true])

/-! #### The supply sharing unit's events -/

theorem claimsOrdered_endRaiseHold {s : State} (h : claimsOrdered s) : claimsOrdered (endRaiseHold s) := by
  cases hs : s.ssu.raise with
  | holding pre held =>
    obtain ⟨hle, -, hstandby, hlisten⟩ := h
    have hne : s.od.power ≠ .standby := fun hp => by simp [(hstandby hp).2] at hs
    have hraise : (endRaiseHold s).ssu.raise = .waiting pre (min s.ssu.announced (allowance s)) := by
      simp [endRaiseHold, hs]
    simp only [claimsOrdered, endRaiseHold_keeps, hraise]
    exact ⟨hle, min_le_left _ _, fun hp => absurd hp hne, hlisten⟩
  | _ =>
    have hsame : endRaiseHold s = s := by simp [endRaiseHold, hs]
    rwa [hsame]

theorem claimsOrdered_periodClaimPoint {s : State} (h : claimsOrdered s) : claimsOrdered (periodClaimPoint s) := by
  unfold periodClaimPoint
  split
  · exact claimsOrdered_startRaise (claimsOrdered_claimPoint h)
  · exact h

theorem claimsOrdered_periodicNotice {s : State} (h : claimsOrdered s) : claimsOrdered (periodicNotice s) := by
  obtain ⟨hle, hraise, -, -⟩ := id h
  unfold periodicNotice
  split
  next hnone => exact claimsOrdered_offerNotice h le_rfl (by simp [hnone])
  next => exact claimsOrdered_offerNotice h hle (fun pre r hw => by simpa [hw] using hraise)

theorem claimsOrdered_noticePeriod {s : State} (h : claimsOrdered s) : claimsOrdered (noticePeriod s) := by
  unfold noticePeriod
  split
  · exact h
  · exact claimsOrdered_periodicNotice (claimsOrdered_compute (claimsOrdered_periodClaimPoint
      ((claimsOrdered_iff_of_keepsClaims (by simp [keepsClaims])).2 h)))

theorem claimsOrdered_endListenIn {s : State} (h : claimsOrdered s) : claimsOrdered (endListenIn s) := by
  unfold endListenIn
  split
  · exact h
  next hrunning =>
    obtain ⟨hle, hraise, hstandby, hlisten⟩ := h
    obtain ⟨hzero, hnone⟩ := hstandby (hlisten hrunning)
    exact claimsOrdered_offerNotice ⟨hle, hraise, hstandby, fun hl => absurd rfl hl⟩ hzero.le (by simp [hnone])

/-! #### The power state -/

theorem claimsOrdered_powerChanged {s : State} (h : claimsOrdered s) : claimsOrdered (powerChanged s) :=
  (claimsOrdered_iff_of_keepsClaims (by simp [keepsClaims])).2 h

theorem claimsOrdered_judgeRecovery {s : State} (h : claimsOrdered s) : claimsOrdered (judgeRecovery s) :=
  (claimsOrdered_iff_of_keepsClaims (by simp [keepsClaims])).2 h

/-- Outside listen-in the power state may move away from STANDBY. -/
theorem claimsOrdered_setPower {s : State} {p : Power} {x : Option Nat} (h : claimsOrdered s) (hp : p ≠ .standby)
    (hl : s.ssu.listenIn = none) : claimsOrdered { s with od.power := p, link.silence := x } := by
  obtain ⟨hle, hraise, -, -⟩ := h
  exact ⟨hle, hraise, fun hs => absurd hs hp, fun hn => absurd hl hn⟩

theorem claimsOrdered_wakeUp {s : State} (h : claimsOrdered s) (hl : s.ssu.listenIn = none) :
    claimsOrdered (wakeUp s) := by
  have hset := claimsOrdered_setPower (p := .active) (x := some 0) h (by simp) hl
  unfold wakeUp
  split
  next hp =>
    have hrec := claimsOrdered_recordAllowance hset
    obtain ⟨-, -, hstandby, -⟩ := h
    exact claimsOrdered_judgeRecovery (claimsOrdered_powerChanged (claimsOrdered_startRaise
      (claimsOrdered_offerNotice hrec le_rfl (by simp [(hstandby hp).2]))))
  next => exact claimsOrdered_judgeRecovery (claimsOrdered_powerChanged (claimsOrdered_compute hset))
  next => exact h

theorem claimsOrdered_windDown {s : State} (h : claimsOrdered s) (hl : s.ssu.listenIn = none) :
    claimsOrdered (windDown s) :=
  claimsOrdered_powerChanged (claimsOrdered_compute (claimsOrdered_setPower h (by simp) hl))

/-- STANDBY without a claim in force or a raise, as R56 and the restart leave it. -/
def atRest (s : State) : Prop := s.od.power = .standby ∧ s.ssu.claim = 0 ∧ s.ssu.raise = .none

theorem claimsOrdered_of_atRest {s : State} (h : atRest s) : claimsOrdered s := by
  obtain ⟨hp, hc, hr⟩ := h
  exact ⟨by omega, by simp [hr], fun _ => ⟨hc, hr⟩, fun _ => hp⟩

theorem enterStandby_atRest (s : State) : atRest (enterStandby s) := by simp [atRest, enterStandby, abandonRaise]

theorem claimsOrdered_conclude {s : State} (h : claimsOrdered s) : claimsOrdered (conclude s) := by
  refine (claimsOrdered_iff_of_keepsClaims (s := endWindDown s) (by simp [keepsClaims, conclude])).2 ?_
  unfold endWindDown
  split
  · exact claimsOrdered_of_atRest (enterStandby_atRest s)
  · exact h

theorem conclude_claim (s : State) : (conclude s).ssu.claim = s.ssu.claim ∨ (conclude s).ssu.claim = 0 := by
  simp only [conclude, serviceEvents_keeps, endWindDown]
  split
  · exact .inr (enterStandby_atRest s).2.1
  · exact .inl rfl

/-! #### The restart and the supply -/

theorem restartBlocks_atRest (s : State) : atRest (restartBlocks s) := by
  simp [atRest, restartBlocks, restartSupply, restartDecoder, OrderDecoder.reset, SupplyUnit.reset]

theorem restartEffect_atRest (s : State) : atRest (restartEffect s) := by
  simp only [atRest, restartEffect, serviceEvents_keeps, offerNotice_keeps]
  exact restartBlocks_atRest _

theorem claimsOrdered_abandonRaise {s : State} (h : claimsOrdered s) : claimsOrdered (abandonRaise s) := by
  obtain ⟨hle, -, hstandby, hlisten⟩ := h
  exact ⟨hle, trivial, fun hp => ⟨(hstandby hp).1, rfl⟩, hlisten⟩

/-- What an accepted restart can do to the claims: nothing, the end of a raise, or the restart itself. -/
theorem acceptRestart_claims (s : State) :
    acceptRestart s = s ∨ keepsClaims (abandonRaise s) (acceptRestart s) ∨
      atRest (acceptRestart s) := by
  unfold acceptRestart
  split
  · exact .inl rfl
  · split
    · unfold beginRestart
      dsimp only
      split
      · exact .inr (.inl (by simp [keepsClaims, abandonRaise]))
      · exact .inr (.inr (restartEffect_atRest _))
    · exact .inr (.inr (restartBlocks_atRest _))

end Sys2Proof.Machine.Sharing
end

section
/-! What every command does with the claims (R49): NewClaimWithinHeadroom and ClaimsStayOrdered. -/

namespace Sys2Proof.Machine.Sharing

/-! ### What each command does with the claims -/

/-- The claims stay in order, and a claim that takes a new value is within the headroom or the aux draw (R49). -/
structure ClaimSafe (s t : State) : Prop where
  ordered : claimsOrdered s → claimsOrdered t
  within : t.ssu.claim = s.ssu.claim ∨ t.ssu.claim ≤ max (headroom t) t.config.aux

theorem ClaimSafe.of_keepsClaims {s t : State} (h : keepsClaims s t) : ClaimSafe s t :=
  ⟨(claimsOrdered_iff_of_keepsClaims h).2, .inl h.claim⟩

/-- What moves no claim may come first. -/
theorem ClaimSafe.after {s t u : State} (h : keepsClaims s t) (k : ClaimSafe t u) : ClaimSafe s u :=
  ⟨fun hs => k.ordered ((claimsOrdered_iff_of_keepsClaims h).2 hs), h.claim ▸ k.within⟩

/-- A claim that is kept or given up raises only the question of the order. -/
theorem ClaimSafe.of_ordered {s t : State} (h : claimsOrdered s → claimsOrdered t)
    (hc : t.ssu.claim = s.ssu.claim ∨ t.ssu.claim = 0) : ClaimSafe s t :=
  ⟨h, hc.imp id (fun h0 => by omega)⟩

theorem ClaimSafe.of_atRest {s t : State} (h : atRest t) : ClaimSafe s t :=
  .of_ordered (fun _ => claimsOrdered_of_atRest h) (.inr h.2.1)

theorem ClaimSafe.refl (s : State) : ClaimSafe s s := .of_ordered id (.inl rfl)

theorem ClaimSafe.whenRunning {f : State → State} {s : State} (h : ClaimSafe s (f s)) :
    ClaimSafe s (whenRunning f s) := by
  unfold Machine.whenRunning
  split
  · exact h
  · exact .refl s

theorem ClaimSafe.conclude {s t : State} (h : keepsClaims s t) : ClaimSafe s (conclude t) :=
  .after h (.of_ordered claimsOrdered_conclude (conclude_claim t))

theorem ClaimSafe.answer {c : Confirmation} {s t : State} (h : ClaimSafe s t) : ClaimSafe s (answer c t) :=
  ⟨fun hs => (claimsOrdered_iff_of_keepsClaims (by simp [keepsClaims])).2 (h.ordered hs), h.within⟩

/-- An order is safe where its effect is, on a state that admits it. -/
theorem ClaimSafe.runOrder {α : Type} {sender : Addr} {parsed : Option α} {busy : Bool} {refusal : α → Option Reason}
    {act : α → State} {s : State} (h : ∀ a, busy = false → refusal a = none → ClaimSafe s (act a)) :
    ClaimSafe s (runOrder sender parsed busy refusal act s) := by
  obtain ⟨c, -, heq⟩ | ⟨a, -, -, hb, -, hr, heq⟩ := runOrder_cases sender parsed busy refusal act s
  · rw [heq]
    exact (ClaimSafe.refl s).answer
  · rw [heq]
    exact (h a hb hr).answer

/-! #### The claim point -/

/-- The allowance never exceeds the headroom, or the aux draw where that is more (R48). -/
theorem allowance_le (s : State) : allowance s ≤ max (headroom s) s.config.aux := by
  unfold allowance
  split <;> omega

theorem headroom_congr {s t : State} (hp : t.ssu.peers = s.ssu.peers) (hc : t.config = s.config) :
    headroom t = headroom s := by
  simp only [headroom, othersClaim, countedPeers, hp, hc]

/-- Whatever follows a claim point, the claim it leaves is within its allowance, and so within the headroom. -/
theorem within_of_claimPoint {s t : State} (hclaim : t.ssu.claim = (claimPoint s).ssu.claim)
    (hp : t.ssu.peers = s.ssu.peers) (hc : t.config = s.config) :
    t.ssu.claim ≤ max (headroom t) t.config.aux := by
  rw [hclaim, claimPoint_claim, headroom_congr hp hc, hc]
  exact (min_le_right _ _).trans (allowance_le s)

theorem claimSafe_windowStart (s : State) : ClaimSafe s (windowStart s) where
  ordered h := by
    have hpoint := claimsOrdered_claimPoint (s := { s with lpd.half := 0 }) h
    have hplan := (claimsOrdered_iff_of_keepsClaims (t := planWindow (claimPoint { s with lpd.half := 0 }))
      (by simp [keepsClaims])).2 hpoint
    exact (claimsOrdered_iff_of_keepsClaims (by simp [keepsClaims, windowStart])).2 (claimsOrdered_startRaise hplan)
  within := .inr (within_of_claimPoint (s := { s with lpd.half := 0 }) (by simp [windowStart]) (by simp) (by simp))

theorem claimSafe_enterRunning (s : State) : ClaimSafe s (enterRunning s) :=
  .after (t := { s with lpd.drive := .running, lpd.sinceCrossing := 0 }) ⟨rfl, rfl, rfl, rfl, rfl⟩
    (claimSafe_windowStart _)

theorem claimSafe_crossing (iv : Nat) (s : State) : ClaimSafe s (crossing iv s) := by
  unfold crossing
  split
  next reference count sum _ =>
    unfold measureCrossing
    dsimp only
    (repeat' split)
    · exact .of_keepsClaims ⟨rfl, rfl, rfl, rfl, rfl⟩
    · refine .after ?_ (claimSafe_enterRunning _)
      exact ⟨rfl, rfl, rfl, rfl, rfl⟩
    · exact .of_keepsClaims ⟨rfl, rfl, rfl, rfl, rfl⟩
  next =>
    unfold acceptCrossing
    dsimp only
    (repeat' split)
    · exact .refl s
    · refine .after ?_ (claimSafe_windowStart _)
      exact ⟨rfl, rfl, rfl, rfl, rfl⟩
    · exact .of_keepsClaims ⟨rfl, rfl, rfl, rfl, rfl⟩
  next reference count _ =>
    unfold recoverCrossing
    (repeat' split)
    · exact .refl s
    · exact .of_keepsClaims ⟨rfl, rfl, rfl, rfl, rfl⟩
    · exact claimSafe_enterRunning s
    · exact .of_keepsClaims ⟨rfl, rfl, rfl, rfl, rfl⟩

theorem claimSafe_noticePeriod (s : State) : ClaimSafe s (noticePeriod s) where
  ordered := claimsOrdered_noticePeriod
  within := by
    unfold noticePeriod
    split
    · exact .inl rfl
    · unfold periodClaimPoint
      split
      · exact .inr (within_of_claimPoint (s := { s with ssu.period := some 0 }) (by simp) (by simp) (by simp))
      · exact .inl (by simp)

/-! #### The orders -/

theorem claimSafe_orderWake (a : Addr) (args : List Byte) (s : State) : ClaimSafe s (orderWake a args s) :=
  .runOrder fun _ hbusy _ => .of_ordered
    (fun h => claimsOrdered_conclude (claimsOrdered_wakeUp h (by simpa [listening] using hbusy)))
    ((conclude_claim _).imp (fun hc => by simp [hc]) id)

theorem claimSafe_orderSleep (a : Addr) (args : List Byte) (s : State) : ClaimSafe s (orderSleep a args s) := by
  refine .runOrder fun _ hbusy _ => ?_
  have hl : s.ssu.listenIn = none := by simpa [listening] using hbusy
  unfold goToSleep
  split
  · have hkeeps : keepsClaims s (if s.cr.owner = .manual then endRequest s else s) := by
      split <;> simp [keepsClaims]
    refine .after hkeeps (.of_ordered (fun h => claimsOrdered_conclude (claimsOrdered_windDown h ?_)) ?_)
    · rw [hkeeps.listenIn, hl]
    · exact (conclude_claim _).imp (fun hc => by simp [hc]) id
  · exact .refl s

theorem claimSafe_acceptRestart (s : State) : ClaimSafe s (acceptRestart s) := by
  obtain hsame | hend | hreset := acceptRestart_claims s
  · rw [hsame]
    exact .refl s
  · exact .of_ordered (fun h => (claimsOrdered_iff_of_keepsClaims hend).2 (claimsOrdered_abandonRaise h))
      (.inl (hend.claim.trans (by simp)))
  · exact .of_atRest hreset

theorem claimSafe_orderRestart (a : Addr) (args : List Byte) (s : State) : ClaimSafe s (orderRestart a args s) := by
  unfold orderRestart
  (repeat' split)
  · exact (ClaimSafe.refl s).answer
  · exact (ClaimSafe.refl s).answer
  · exact (claimSafe_acceptRestart s).answer

theorem claimSafe_orderDropPeer (a : Addr) (args : List Byte) (s : State) : ClaimSafe s (orderDropPeer a args s) := by
  refine .runOrder fun i _ _ => ?_
  unfold dropPeer
  split
  · exact .after (t := setPeer i .empty s) (by simp [keepsClaims]) (.of_ordered claimsOrdered_compute (.inl (by simp)))
  · exact .refl s

theorem claimSafe_orderClearTrip (a : Addr) (args : List Byte) (s : State) : ClaimSafe s (orderClearTrip a args s) :=
  .runOrder fun _ _ _ => .conclude (by simp [keepsClaims])

/-- An order whose effect moves no claim. -/
theorem ClaimSafe.runOrder_of_keepsClaims {α : Type} {sender : Addr} {parsed : Option α} {busy : Bool}
    {refusal : α → Option Reason} {act : α → State} {s : State} (h : ∀ a, keepsClaims s (act a)) :
    ClaimSafe s (Machine.runOrder sender parsed busy refusal act s) :=
  .runOrder fun a _ _ => .of_keepsClaims (h a)

/-- The orders of the climate, the loading, the recipe and the descale move no claim; WAKE, SLEEP, RESTART, DROP_PEER and
CLEAR_TRIP keep them in order. -/
theorem claimSafe_orderArrives (a : Addr) (payload : List Byte) (s : State) : ClaimSafe s (orderArrives a payload s) := by
  unfold orderArrives
  split
  · exact .runOrder_of_keepsClaims fun _ => by simp [keepsClaims]
  · split
    case h_1 => exact claimSafe_orderWake a _ s
    case h_2 => exact claimSafe_orderSleep a _ s
    case h_3 => exact claimSafe_orderRestart a _ s
    case h_18 => exact claimSafe_orderDropPeer a _ s
    case h_19 => exact claimSafe_orderClearTrip a _ s
    all_goals exact .runOrder_of_keepsClaims fun _ => by simp [keepsClaims]

/-! #### The line -/

theorem claimSafe_noticeArrives (a : Addr) (n : Notice) (s : State) : ClaimSafe s (noticeArrives a n s) := by
  unfold noticeArrives
  split
  · exact .refl s
  next i _ =>
    dsimp only
    have hkeeps (t : State) : keepsClaims t (serviceEvents t) := by simp [keepsClaims]
    refine .of_ordered (fun h => (claimsOrdered_iff_of_keepsClaims (hkeeps _)).2 (claimsOrdered_compute ?_)) (.inl ?_)
    · refine (claimsOrdered_iff_of_keepsClaims ?_).2 h
      split <;> simp [keepsClaims]
    · split <;> simp

theorem claimSafe_frameArrives (chars : List Byte) (s : State) : ClaimSafe s (frameArrives chars s) := by
  have huse (t : Taken) (u : State) : ClaimSafe u (useFrame t u) := by
    unfold useFrame
    (repeat' split)
    · exact claimSafe_noticeArrives _ _ u
    · exact .of_keepsClaims (by simp [keepsClaims])
    · exact claimSafe_orderArrives _ _ u
    · exact .refl u
    · exact .refl u
    · exact .of_keepsClaims (by simp [keepsClaims])
  have htake (t : Taken) (u : State) : ClaimSafe u (takeFrame t u) := .after (by simp [keepsClaims]) (huse t _)
  unfold frameArrives judgeFrame
  (repeat' split)
  · exact .of_keepsClaims (by simp [keepsClaims])
  · exact .after (by simp [keepsClaims]) (htake _ _)
  · exact .after (by simp [keepsClaims]) (htake _ _)
  · exact .of_keepsClaims (by simp [keepsClaims])
  · exact .refl s

theorem claimsOrdered_raiseDropped {s : State} (h : claimsOrdered s) : claimsOrdered (raiseDropped s) := by
  unfold raiseDropped
  split
  next pre hs =>
    obtain ⟨hle, hraise, hstandby, hlisten⟩ := h
    simp only [hs] at hraise
    exact ⟨hraise, trivial, fun hp => ⟨(hstandby hp).1, rfl⟩, hlisten⟩
  next => exact h

theorem claimsOrdered_raiseSent {s : State} (h : claimsOrdered s) : claimsOrdered (raiseSent s) := by
  unfold raiseSent
  split
  next pre hs =>
    obtain ⟨hle, -, hstandby, hlisten⟩ := h
    exact ⟨hle, trivial, fun hp => by simp [(hstandby hp).2] at hs, hlisten⟩
  next => exact h

/-- A notice leaves the queue: the restart takes effect, or a raise moves on (R11, R33, R54). -/
theorem claimSafe_noticeLeft (f : Frame) (sent : Bool) (s : State) : ClaimSafe s (noticeLeft f sent s) := by
  unfold noticeLeft
  (repeat' split)
  · exact .of_atRest (restartEffect_atRest s)
  · exact .of_ordered claimsOrdered_raiseSent (.inl (by simp))
  · exact .of_ordered claimsOrdered_raiseDropped (.inl (by simp))
  · exact .refl s

theorem claimSafe_collide (s : State) : ClaimSafe s (collide s) := by
  unfold collide
  split
  · dsimp only
    split
    · refine .after ?_ (claimSafe_noticeLeft _ _ _)
      simp [keepsClaims]
    · exact .of_keepsClaims (by simp [keepsClaims])
  · exact .refl s

theorem claimSafe_frameGone (s : State) : ClaimSafe s (frameGone s) := by
  unfold frameGone
  split
  · split
    · refine .after ?_ (claimSafe_noticeLeft _ _ _)
      exact ⟨rfl, rfl, rfl, rfl, rfl⟩
    · exact .of_keepsClaims ⟨rfl, rfl, rfl, rfl, rfl⟩
  · exact .refl s

/-! #### The supply's coming and going, and the console's silence -/

/-- A power-on starts from STANDBY with nothing claimed; listen-in may begin (R17, R59, R63). -/
theorem powerOn_atRest (config : Option (List Byte)) (retained : RetainedRead) (s : State) :
    atRest (powerOn config retained s) := by
  unfold powerOn
  dsimp only
  split <;> simp [atRest, powerUp, State.reset, OrderDecoder.reset, SupplyUnit.reset]

theorem powerFails_atRest (left : StoredRecord) (s : State) : atRest (powerFails left s) := by
  simp [atRest, powerFails, powerUp, State.reset, OrderDecoder.reset, SupplyUnit.reset]

/-- Listen-in is a time of STANDBY, so that the ACTIVE in which a console is lost is outside it. -/
theorem claimSafe_silenceExpires (s : State) : ClaimSafe s (silenceExpires s) := by
  unfold silenceExpires
  split
  · exact .refl s
  next hguard =>
    have hactive : s.od.power = .active := by tauto
    refine .of_ordered (fun h => claimsOrdered_conclude ?_) ((conclude_claim _).imp (fun hc => by simp [hc]) id)
    have hl : s.ssu.listenIn = none := by
      obtain ⟨-, -, -, hlisten⟩ := h
      by_contra hn
      simp [hlisten hn] at hactive
    unfold consoleLost
    dsimp only
    have hkeeps : keepsClaims s (redirect (abortRecipe (endRequest { s with link.silence := none }))) := by
      simp [keepsClaims]
    have hordered := (claimsOrdered_iff_of_keepsClaims hkeeps).2 h
    split
    · exact claimsOrdered_windDown hordered (hkeeps.listenIn.trans hl)
    · exact hordered

/-! #### The processes' events -/

theorem claimSafe_peerStale (a : Addr) (s : State) : ClaimSafe s (peerStale a s) := by
  refine .of_ordered (fun h => ?_) (.inl (by simp))
  unfold peerStale
  (repeat' split)
  · exact h
  · exact claimsOrdered_compute ((claimsOrdered_iff_of_keepsClaims (by simp [keepsClaims])).2 h)
  · exact h
  · exact h

theorem claimSafe_regulatorTick (s : State) : ClaimSafe s (regulatorTick s) := by
  refine .of_ordered (fun h => claimsOrdered_compute ((claimsOrdered_iff_of_keepsClaims ?_).2 h)) (.inl (by simp))
  split <;> simp [keepsClaims]

theorem claimSafe_disagreementPersists (s : State) : ClaimSafe s (disagreementPersists s) := by
  unfold disagreementPersists
  split
  · exact .conclude (by simp [keepsClaims])
  · exact .refl s

theorem claimSafe_drainComplete (s : State) : ClaimSafe s (drainComplete s) := by
  unfold drainComplete
  split
  · exact .conclude (by simp [keepsClaims])
  · exact .refl s

theorem claimSafe_travelTimesOut (s : State) : ClaimSafe s (travelTimesOut s) := by
  unfold travelTimesOut
  split
  · exact .conclude (by simp [keepsClaims])
  · exact .refl s

/-! #### Every command -/

/-- The claims under every command: only the claim points, the raise protocol, the moves of the power state and the restart
move them. -/
theorem claimSafe_exec {c : Instr} {s t : State} (h : exec c s = .next t) : ClaimSafe s t := by
  cases c
  case powerOn => obtain rfl := Host.Outcome.next.inj h; exact .of_atRest (powerOn_atRest _ _ s)
  case powerFailure => obtain rfl := Host.Outcome.next.inj h; exact .of_atRest (powerFails_atRest _ s)
  all_goals
    obtain rfl := Host.Outcome.next.inj h
    refine .whenRunning ?_
  case frameReceived => exact claimSafe_frameArrives _ s
  case noticeReceived => exact claimSafe_noticeArrives _ _ s
  case wake => exact claimSafe_orderWake _ _ s
  case sleep => exact claimSafe_orderSleep _ _ s
  case restart => exact claimSafe_orderRestart _ _ s
  case dropPeer => exact claimSafe_orderDropPeer _ _ s
  case clearTrip => exact claimSafe_orderClearTrip _ _ s
  case orderMalformedCode | setClimate | stopClimate | loadOpen | loadStage | loadClose | loadAbandon | recipeStart
      | recipeConfirm | recipeSkip | recipeAbort | descaleStart | descaleConfirm | descaleAbort | setHardness | drainNow =>
    exact .runOrder_of_keepsClaims fun _ => by simp [keepsClaims]
  case collisionDetected => exact claimSafe_collide s
  case frameSent => exact claimSafe_frameGone s
  case consoleSilenceExpired => exact claimSafe_silenceExpires s
  case peerEntryStale => exact claimSafe_peerStale _ s
  case raiseHoldEnd => exact .of_ordered claimsOrdered_endRaiseHold (.inl (by simp))
  case noticePeriodExpired => exact claimSafe_noticePeriod s
  case listenInEnd => exact .of_ordered claimsOrdered_endListenIn (.inl (by simp))
  case zeroCrossing => exact claimSafe_crossing _ s
  case regulatorStep => exact claimSafe_regulatorTick s
  case samplingRound => exact .conclude (by simp [keepsClaims])
  case disagreementCondition => exact claimSafe_disagreementPersists s
  case drainComplete => exact claimSafe_drainComplete s
  case lockTravelTimeout => exact claimSafe_travelTimesOut s
  all_goals exact .of_keepsClaims (by simp [keepsClaims])

/-- A millisecond ages a raise that is held and runs listen-in on; no claim moves. -/
theorem claimsOrdered_tick {s : State} (h : claimsOrdered s) : claimsOrdered (tick s) := by
  unfold tick
  split
  · obtain ⟨hle, hraise, hstandby, hlisten⟩ := h
    have hnone : s.ssu.raise = .none → s.ssu.raise.older = .none := by
      intro hs
      rw [hs]
      rfl
    refine ⟨hle, ?_, fun hp => ⟨(hstandby hp).1, hnone (hstandby hp).2⟩, fun hl => hlisten ?_⟩
    · simp only [advance]
      cases hs : s.ssu.raise with
      | none | holding => trivial
      | queued | waiting =>
        simp only [hs] at hraise
        exact hraise
    · simpa [advance, runOn] using hl
  · exact h

/-- Settles O40: the bound that every command's inversion gives. -/
theorem newClaimWithinHeadroom : Obligations.NewClaimWithinHeadroom := by
  intro c s t h hne
  exact (claimSafe_exec h).within.resolve_left hne

/-- Settles O55: a step is a command, which keeps the claims in order, or a millisecond. -/
theorem claimsStayOrdered : Obligations.ClaimsStayOrdered := by
  intro s t hs h
  unfold step at h
  split at h
  · obtain rfl := Host.Outcome.next.inj h
    exact claimsOrdered_tick hs
  next c rest _ => exact (claimSafe_exec h).ordered ((claimsOrdered_iff_of_keepsClaims ⟨rfl, rfl, rfl, rfl, rfl⟩).2 hs)

end Sys2Proof.Machine.Sharing
end

section
/-! The supply sharing unit's orders, notices and timers (R42 to R60): DropPeerEmptiesStale, NoticeReplacesEntry and SupplyTimersEnd. -/

namespace Sys2Proof.Machine.Sharing

/-- A command that acts in a started C40 leaves what its action leaves. -/
theorem exec_next {c : Instr} {f : State → State} {s t : State} (hc : exec c s = .next (whenRunning f s))
    (hrun : s.run = .running) (ht : f s = t) : exec c s = .next t := by
  rw [hc, whenRunning_of_running hrun, ht]

/-! ### What an allowance computation reads -/

/-- The two states agree on what an allowance computation reads (R46 to R48). -/
def sameInputs (s t : State) : Prop :=
  t.config = s.config ∧ t.od.power = s.od.power ∧ t.ssu.peers = s.ssu.peers ∧ t.lpd.loads = s.lpd.loads ∧
    t.cr.owner = s.cr.owner ∧ t.sdu.phase = s.sdu.phase

theorem ownWanted_congr {s t : State} (h : sameInputs s t) : ownWanted t = ownWanted s := by
  obtain ⟨hc, hp, -, hl, -, -⟩ := h
  simp only [ownWanted, loadWanted, hc, hp, hl]

theorem floorInEffect_congr {s t : State} (h : sameInputs s t) : floorInEffect t = floorInEffect s := by
  obtain ⟨hc, hp, -, -, ho, hf⟩ := id h
  have hwork : hasWork t = hasWork s := by simp only [hasWork, hp, ho, hf]
  simp only [floorInEffect, hwork, ownWanted_congr h, hc]

theorem target_congr {s t : State} (h : sameInputs s t) : target t = target s := by
  obtain ⟨hc, -, hpeers, -, -, -⟩ := id h
  have hcounted : countedPeers t = countedPeers s := by simp only [countedPeers, hpeers]
  have hwanted : totalWanted t = totalWanted s := by simp only [totalWanted, hcounted, ownWanted_congr h]
  have hcontention : inContention t = inContention s := by simp only [inContention, hwanted, hc]
  have hfloor : totalFloor t = totalFloor s := by simp only [totalFloor, hcounted, floorInEffect_congr h]
  have hweights : weightSum t = weightSum s := by
    simp only [weightSum, hcounted, floorInEffect_congr h, ownWanted_congr h, hc]
  simp only [target, hcontention, hfloor, hweights, ownWanted_congr h, floorInEffect_congr h, hc]

theorem allowance_congr {s t : State} (h : sameInputs s t) : allowance t = allowance s := by
  obtain ⟨hc, hp, hpeers, -, -, -⟩ := id h
  simp only [allowance, target_congr h, headroom_congr hpeers hc, hc, hp]

/-! ### The frame of the supply sharing unit's operations -/

/-- Outside the link unit, the supply sharing unit and the POWER hold nothing has moved. -/
def withinSupply (s t : State) : Prop :=
  ∃ l u p, t = { s with link := l, ssu := u, re.holds.power := p }

theorem withinSupply.eq {s t : State} (h : withinSupply s t) :
    t = { s with link := t.link, ssu := t.ssu, re.holds.power := t.re.holds.power } := by
  obtain ⟨l, u, p, rfl⟩ := h
  rfl

theorem withinSupply.refl (s : State) : withinSupply s s := ⟨_, _, _, rfl⟩

theorem withinSupply.trans {s t u : State} (h : withinSupply s t) (k : withinSupply t u) : withinSupply s u := by
  obtain ⟨_, _, _, rfl⟩ := h
  obtain ⟨_, _, _, rfl⟩ := k
  exact ⟨_, _, _, rfl⟩

theorem withinSupply.sameInputs {s t : State} (h : withinSupply s t) (hp : t.ssu.peers = s.ssu.peers) :
    Sharing.sameInputs s t := by
  obtain ⟨_, _, _, rfl⟩ := h
  exact ⟨rfl, rfl, hp, rfl, rfl, rfl⟩

theorem withinSupply_holdPower (b : Bool) (s : State) : withinSupply s (holdPower b s) := by
  unfold holdPower
  split <;> exact ⟨_, _, _, rfl⟩

theorem withinSupply_leaveStarved (s : State) : withinSupply s (leaveStarved s) :=
  .trans ⟨_, _, _, rfl⟩ (withinSupply_holdPower false _)

theorem withinSupply_evalStarved (s : State) : withinSupply s (evalStarved s) := by
  unfold evalStarved
  (repeat' split)
  · exact withinSupply_leaveStarved s
  all_goals exact ⟨_, _, _, rfl⟩

theorem withinSupply_recordAllowance (s : State) : withinSupply s (recordAllowance s) :=
  .trans ⟨_, _, _, rfl⟩ (withinSupply_evalStarved _)

theorem withinSupply_offer (b : Body) (s : State) : withinSupply s (offer b s) := by
  unfold offer
  dsimp only
  (repeat' split) <;> exact ⟨_, _, _, rfl⟩

theorem withinSupply_offerNotice (c : Nat) (s : State) : withinSupply s (offerNotice c s) := by
  unfold offerNotice
  split
  · exact .refl s
  · exact .trans ⟨_, _, _, rfl⟩ (withinSupply_offer _ _)

theorem withinSupply_raiseDropped (s : State) : withinSupply s (raiseDropped s) := by
  unfold raiseDropped
  split <;> exact ⟨_, _, _, rfl⟩

theorem withinSupply_startRaise (s : State) : withinSupply s (startRaise s) := by
  unfold startRaise
  dsimp only
  have hoffer := withinSupply_offer (.notice (raiseNotice s))
    { s with ssu.raise := .queued s.ssu.announced, ssu.announced := s.ssu.lastA }
  (repeat' split)
  · exact .trans ⟨_, _, _, rfl⟩ hoffer
  · exact .trans (.trans ⟨_, _, _, rfl⟩ hoffer) (withinSupply_raiseDropped _)
  · exact .refl s

theorem withinSupply_compute (s : State) : withinSupply s (compute s) :=
  (withinSupply_recordAllowance s).trans (withinSupply_startRaise _)

/-- As `withinSupply`, with the order decoder, whose events and events timer an EVENTS report moves (R36). -/
def withinSupplyEvents (s t : State) : Prop :=
  ∃ l o u p, t = { s with link := l, od := o, ssu := u, re.holds.power := p }

theorem withinSupplyEvents.eq {s t : State} (h : withinSupplyEvents s t) :
    t = { s with link := t.link, od := t.od, ssu := t.ssu, re.holds.power := t.re.holds.power } := by
  obtain ⟨l, o, u, p, rfl⟩ := h
  rfl

theorem withinSupplyEvents.trans {s t u : State} (h : withinSupplyEvents s t) (k : withinSupply t u) :
    withinSupplyEvents s u := by
  obtain ⟨_, _, _, _, rfl⟩ := h
  obtain ⟨_, _, _, rfl⟩ := k
  exact ⟨_, _, _, _, rfl⟩

theorem withinSupplyEvents.serviceEvents {s t : State} (h : withinSupplyEvents s t) :
    withinSupplyEvents s (serviceEvents t) := by
  unfold Machine.serviceEvents
  split
  · obtain ⟨_, _, _, _, rfl⟩ := h
    exact .trans ⟨_, _, _, _, rfl⟩ (withinSupply_offer _ _)
  · exact h

/-! ### What the transmit queue holds after an offer -/

theorem queueTakes_of_room {l : LinkUnit} (h : l.queue.length < 4) : queueTakes l = true := by simp [queueTakes, h]

theorem mem_queue_iff (l : LinkUnit) (f : Frame) : f ∈ l.queue ↔ f ∈ fixedPart l ∨ f ∈ waitingPart l := by
  rw [← fixedPart_append_waitingPart l, List.mem_append]

/-- An offered frame that the queue takes is in it. -/
theorem fresh_mem_offer {b : Body} {s : State} (h : queueTakes s.link = true) :
    Frame.fresh b ∈ (offer b s).link.queue := by
  unfold offer
  dsimp only
  (repeat' split)
  · simp [mem_insertFrame]
  · simp [mem_insertFrame]
  · simp_all [queueTakes]

/-- A full queue gives up a REPORT for a new frame, never a NOTICE (R10). -/
theorem notice_mem_offer {b : Body} {s : State} {f : Frame} (hf : f.isNotice = true) (h : f ∈ s.link.queue) :
    f ∈ (offer b s).link.queue := by
  have hparts := (mem_queue_iff s.link f).1 h
  unfold offer
  dsimp only
  (repeat' split)
  · simp only [List.mem_append, mem_insertFrame]
    tauto
  · have hkept : f ∈ waitingPart s.link → f ∈ displace s.link :=
      (List.mem_eraseP_of_neg (by simp [hf])).2
    simp only [countDropped_keeps, List.mem_append, mem_insertFrame]
    tauto
  · simpa using h

theorem notice_mem_serviceEvents {s : State} {f : Frame} (hf : f.isNotice = true) (h : f ∈ s.link.queue) :
    f ∈ (serviceEvents s).link.queue := by
  unfold serviceEvents
  split
  · exact notice_mem_offer hf h
  · exact h

/-- A frame put in behind the fixed part is one frame more. -/
theorem length_enqueued (l : LinkUnit) (f : Frame) :
    (fixedPart l ++ insertFrame f (waitingPart l)).length = l.queue.length + 1 := by
  have hparts := congrArg List.length (fixedPart_append_waitingPart l)
  simp only [List.length_append, length_insertFrame] at hparts ⊢
  omega

theorem offer_not_taken {b : Body} {s : State} (h : queueTakes s.link = false) : offer b s = countDropped s := by
  simp only [queueTakes, Bool.or_eq_false_iff, decide_eq_false_iff_not] at h
  exact offer_full b s h.1 h.2

/-! ### An allowance computation -/

/-- What an allowance computation leaves (R46, R48, R53): A, W and Fo of the state, the claim in force as it is, a raise
queued with its notice where one is due, and a raise in progress as it is. -/
def computedFrom (s t : State) : Prop :=
  t.ssu.lastA = allowance s ∧ t.ssu.lastW = ownWanted s ∧ t.ssu.lastFo = floorInEffect s ∧
    t.ssu.claim = s.ssu.claim ∧ (s.ssu.raise ≠ .none → t.ssu.raise = s.ssu.raise ∧ t.ssu.announced = s.ssu.announced) ∧
    (s.ssu.raise = .none → s.ssu.claim + 5 ≤ allowance s → s.od.power ≠ .standby → s.od.restartPending = false →
      s.link.queue.length < 4 →
      t.ssu.raise = .queued s.ssu.announced ∧ t.ssu.announced = allowance s ∧
        ∃ f ∈ t.link.queue, f.body =
          .notice
            { cls := s.config.cls, raise := true, leave := false, asleep := false, claim := allowance s,
              wanted := ownWanted s, floor := floorInEffect s }) ∧
    (allowance s < s.ssu.claim + 5 → t.ssu.raise = s.ssu.raise ∧ t.ssu.announced = s.ssu.announced)

/-- A raise that is due and finds room stands in the queue with its notice (R53). -/
theorem startRaise_notice_mem {s : State} (hd : raiseDue s = true) (hq : s.link.queue.length < 4) :
    Frame.fresh (.notice (raiseNotice s)) ∈ (startRaise s).link.queue := by
  have htakes := queueTakes_of_room hq
  have hmem := fresh_mem_offer (b := .notice (raiseNotice s))
    (s := { s with ssu.raise := .queued s.ssu.announced, ssu.announced := s.ssu.lastA }) htakes
  simpa only [startRaise, hd, htakes, if_true] using hmem

theorem raiseDue_recordAllowance (s : State) :
    raiseDue (recordAllowance s) = true ↔
      s.ssu.claim + 5 ≤ allowance s ∧ s.ssu.raise = .none ∧ s.od.power ≠ .standby ∧ s.od.restartPending = false := by
  simp only [raiseDue_iff, recordAllowance_keeps, recordAllowance_last]

theorem computedFrom_compute (s : State) : computedFrom s (compute s) := by
  have hquiet (h : ¬ (s.ssu.claim + 5 ≤ allowance s ∧ s.ssu.raise = .none)) :
      (compute s).ssu.raise = s.ssu.raise ∧ (compute s).ssu.announced = s.ssu.announced := by
    have hd : raiseDue (recordAllowance s) = false := by
      rw [Bool.eq_false_iff, ne_eq, raiseDue_recordAllowance]
      tauto
    simp [compute, startRaise_not_due hd]
  refine ⟨by simp [compute], by simp [compute], by simp [compute], by simp, fun h => hquiet (by tauto), ?_,
    fun h => hquiet (by omega)⟩
  intro hnone hA hpower hrestart hroom
  have hd := (raiseDue_recordAllowance s).2 ⟨hA, hnone, hpower, hrestart⟩
  have hq : (recordAllowance s).link.queue.length < 4 := by simpa using hroom
  obtain ⟨hr, ha⟩ := (startRaise_raise hd).1 (queueTakes_of_room hq)
  refine ⟨by simpa [compute] using hr, by simpa [compute] using ha, _, startRaise_notice_mem hd hq, ?_⟩
  simp [Frame.fresh, raiseNotice]

/-- The EVENTS report that may follow takes no notice from the queue. -/
theorem computedFrom_serviceEvents {s t : State} (h : computedFrom s t) : computedFrom s (serviceEvents t) := by
  obtain ⟨hA, hW, hF, hC, hprogress, hdue, hquiet⟩ := h
  simp only [computedFrom, serviceEvents_keeps]
  refine ⟨hA, hW, hF, hC, hprogress, ?_, hquiet⟩
  intro h1 h2 h3 h4 h5
  obtain ⟨hr, ha, f, hmem, hbody⟩ := hdue h1 h2 h3 h4 h5
  exact ⟨hr, ha, f, notice_mem_serviceEvents (by simp [Frame.isNotice, hbody]) hmem, hbody⟩

/-! ### The peer table: notices, ageing and DROP_PEER -/

theorem peerIndex_eq {a : Addr} {i : Fin 15} (h : a.toNat = i.val + 1) : peerIndex a = some i := by
  simp [peerIndex, h]

theorem peerField_eq {p : Byte} {i : Fin 15} (h : p.toNat = i.val + 1) : peerField [p] = some i := by
  have hi := i.isLt
  simp only [peerField]
  rw [if_pos (by omega)]
  exact peerIndex_eq (by simp [BitVec.toNat_setWidth]; omega)

/-- A notice's arrival: the entry is set, DUP_ADDRESS raised for the own address, and the allowance computed (R42, R44). -/
theorem noticeArrives_cases {a : Addr} {i : Fin 15} {s : State} (n : Notice) (h : peerIndex a = some i) :
    ∃ s1, noticeArrives a n s = serviceEvents (compute s1) ∧ s1.ssu.peers = s.ssu.peers.set i (.ofNotice n) ∧
      computedFrom (setPeer i (.ofNotice n) s) (compute s1) ∧
      s1.od.events = (if a = s.config.own then s.od.events ||| Event.dupAddress.mask else s.od.events) ∧
      withinSupplyEvents s (serviceEvents (compute s1)) := by
  by_cases hown : a = s.config.own
  · refine ⟨raise .dupAddress (setPeer i (.ofNotice n) s), by simp only [noticeArrives, h, if_pos hown], rfl,
      computedFrom_compute (raise .dupAddress _), by simp [hown], ?_⟩
    exact .serviceEvents (.trans ⟨_, _, _, _, rfl⟩ (withinSupply_compute _))
  · refine ⟨setPeer i (.ofNotice n) s, by simp [noticeArrives, h, hown], rfl, computedFrom_compute _, by simp [hown], ?_⟩
    exact .serviceEvents (.trans ⟨_, _, _, _, rfl⟩ (withinSupply_compute _))

/-- Settles O36: each command is the table's change followed by an allowance computation. -/
theorem noticeReplacesEntry : Obligations.NoticeReplacesEntry := by
  intro a i n s hrun ha
  have hindex := peerIndex_eq ha
  refine ⟨?_, ?_, ?_⟩
  · obtain ⟨s1, harrives, hpeers, hcomputed, hevents, hframe⟩ := noticeArrives_cases n hindex
    refine ⟨_, exec_next rfl hrun harrives,
      ?_, ?_, by simpa using hevents, hframe.eq⟩
    · simp only [serviceEvents_keeps, compute_keeps, hpeers, PeerEntry.ofNotice]
    · exact computedFrom_serviceEvents hcomputed
  · intro v hv
    refine ⟨compute (setPeer i (.stale v) s), ?_, by simp [setPeer], computedFrom_compute _, ?_⟩
    · refine exec_next rfl hrun ?_
      simp [peerStale, hindex, hv]
    · exact (withinSupply.trans ⟨_, _, _, rfl⟩ (withinSupply_compute _)).eq
  · intro hne
    refine exec_next rfl hrun ?_
    simp only [peerStale, hindex]
    split
    next v age hv =>
      rw [if_neg]
      rintro rfl
      exact hne v hv
    next => rfl

/-- Settles O26: the order is admitted, and what follows depends on the entry alone. -/
theorem dropPeerEmptiesStale : Obligations.DropPeerEmptiesStale := by
  intro a p i s hadm hp
  obtain ⟨hrun, hsender, -, hbusy, hrestart⟩ := hadm
  have hlisten : listening s = false := by
    simpa [meetsBusy, neverBusy, asksLock, listening] using hbusy
  have hexec : exec (.dropPeer a [p]) s = .next (orderDropPeer a [p] s) := exec_next rfl hrun rfl
  have hconsole : a = s.config.console := Option.some.inj hsender
  have haccept (hfresh : (s.ssu.peers[i]).isFresh = false) :
      exec (.dropPeer a [p]) s = .next (answer .accept (dropPeer i s)) :=
    hexec.trans (congrArg Host.Outcome.next
      (runOrder_accept hconsole (peerField_eq hp) hlisten hrestart (by simpa [firstOf] using hfresh)))
  refine ⟨fun v age hv => ?_, fun hv => ?_, fun v hv => ?_⟩
  · rw [hexec]
    simp [orderDropPeer, runOrder, hconsole, peerField_eq hp, hlisten, hrestart, firstOf, hv, PeerEntry.isFresh, answer,
      answered]
  · rw [haccept (by rw [hv]; rfl)]
    simp only [dropPeer, hv]
    rfl
  · rw [haccept (by rw [hv]; rfl)]
    simp only [dropPeer, hv]
    refine ⟨_, rfl, rfl, by simp [setPeer], ?_, by simp, ?_⟩
    · simp only [answer_keeps]
      exact (computedFrom_compute _).1
    · obtain ⟨_, _, _, heq⟩ := withinSupply.trans ⟨_, _, _, rfl⟩ (withinSupply_compute (setPeer i .empty s))
      rw [heq]
      rfl

/-! ### The timers of the raise, of listen-in and of starvation -/

/-- Outside listen-in and a pending restart a notice is offered, and its claim announced (R41). -/
theorem offerNotice_offers {c : Nat} {s : State} (hr : s.od.restartPending = false) (hl : s.ssu.listenIn = none) :
    offerNotice c s =
      offer (.notice (ordinaryNotice s c)) { s with ssu.announced := (ordinaryNotice s c).claim } := by
  unfold offerNotice
  rw [if_neg (by simp [hr, hl])]

theorem offerNotice_room {c : Nat} {s : State} (hr : s.od.restartPending = false) (hl : s.ssu.listenIn = none)
    (hq : s.link.queue.length < 4) :
    offerNotice c s =
      { s with
        ssu.announced := (ordinaryNotice s c).claim,
        link.queue := fixedPart s.link ++ insertFrame (.fresh (.notice (ordinaryNotice s c))) (waitingPart s.link) } :=
  (offerNotice_offers hr hl).trans (offer_room _ _ hq)

theorem offerNotice_full {c : Nat} {s : State} (hr : s.od.restartPending = false) (hl : s.ssu.listenIn = none)
    (hq : queueTakes s.link = false) :
    offerNotice c s =
      { s with ssu.announced := (ordinaryNotice s c).claim, link.counters.dropped := bump s.link.counters.dropped } :=
  (offerNotice_offers hr hl).trans (offer_not_taken hq)

theorem holdPower_true (s : State) : (holdPower true s).re.holds.power = (s.re.running.isSome || s.re.holds.power) := by
  unfold holdPower
  split <;> simp_all [Option.isSome_iff_ne_none]

theorem holdPower_false (s : State) :
    holdPower false s = { s with re.holds.power := if s.re.running = none then s.re.holds.power else false } := by
  unfold holdPower
  split <;> rfl

/-- Settles O38: one timer after the other. -/
theorem supplyTimersEnd : Obligations.SupplyTimersEnd := by
  intro s hrun
  have hlistening {n : Nat} (hn : s.ssu.listenIn = some n) :
      endListenIn s = offerNotice 0 { s with ssu.listenIn := none, ssu.period := some 0 } := by simp [endListenIn, hn]
  refine ⟨?_, ?_, ?_, ?_, ?_, ?_, ?_, ?_, ?_⟩
  · intro pre held hs
    refine ⟨endRaiseHold s, exec_next rfl hrun rfl, by simp [endRaiseHold, hs], by simp [endRaiseHold, hs], by simp, by simp,
      by simp, ?_⟩
    have hframe : withinSupply s (endRaiseHold s) := by
      simp only [endRaiseHold, hs]
      exact .trans (withinSupply_recordAllowance s) ⟨_, _, _, rfl⟩
    have hlink : (endRaiseHold s).link = s.link := by simp
    rw [← hlink]
    exact hframe.eq
  · intro hne
    refine exec_next rfl hrun ?_
    unfold endRaiseHold
    split
    · exact absurd ‹_› (hne _ _)
    · rfl
  · intro n hn hordered hrestart hroom
    obtain ⟨-, -, -, hlisten⟩ := hordered
    have hstandby : s.od.power = .standby := hlisten (by simp [hn])
    have hend := (hlistening hn).trans (offerNotice_room hrestart rfl hroom)
    have hasleep : ordinaryNotice { s with ssu.listenIn := none, ssu.period := some 0 } 0 =
        { cls := s.config.cls, raise := false, leave := false, asleep := true, claim := 0, wanted := 0, floor := 0 } := by
      simp [ordinaryNotice, hstandby]
    rw [hasleep] at hend
    refine ⟨_, exec_next rfl hrun hend, ?_, ⟨_, List.mem_append_right _ ((mem_insertFrame _ _ _).2 (.inl rfl)), rfl⟩, rfl⟩
    exact length_enqueued s.link _
  · intro n hn hrestart hfull
    have hzero : (ordinaryNotice { s with ssu.listenIn := none, ssu.period := some 0 } 0).claim = 0 := by
      unfold ordinaryNotice
      split <;> rfl
    refine exec_next rfl hrun (((hlistening hn).trans (offerNotice_full hrestart rfl hfull)).trans ?_)
    rw [hzero]
    rfl
  · intro hnone
    exact exec_next rfl hrun (by simp [endListenIn, hnone])
  · intro htimer hstarved
    have hmoves : becomeStarved s = serviceEvents (holdPower true
        (raise .starved { s with ssu := { s.ssu with starved := true, entryTimer := none } })) := by
      simp [becomeStarved, htimer, hstarved]
    refine ⟨_, exec_next rfl hrun hmoves, by simp, by simp, by simp [holdPower_true], ?_⟩
    exact (withinSupplyEvents.serviceEvents (.trans ⟨_, _, _, _, rfl⟩ (withinSupply_holdPower _ _))).eq
  · intro hne
    refine exec_next rfl hrun ?_
    unfold becomeStarved
    rw [if_neg]
    simp only [not_and_or, Bool.not_eq_false]
    exact hne
  · intro htimer hstarved
    refine exec_next rfl hrun ?_
    simp only [endStarved, htimer, hstarved, and_self, if_true, leaveStarved, holdPower_false]
  · intro hne
    refine exec_next rfl hrun ?_
    unfold endStarved
    rw [if_neg]
    simp only [not_and_or, Bool.not_eq_true]
    exact hne

end Sys2Proof.Machine.Sharing
end

section
/-! The allowance from the peer table, the budget and the demands (R43, R46 to R48): AllowanceSharesBudget. -/

namespace Sys2Proof.Machine.Sharing

/-- The manual's weights (R47) are those of the model's halving. -/
theorem classWeight_eq (c : Nat) : classWeight c = weightOf c := by
  match c with
  | 0 | 1 | 2 | 3 => rfl
  | n + 4 =>
    have h : 16 * 1 ≤ 2 ^ (n + 4) := by
      rw [pow_add, Nat.mul_comm]
      exact Nat.mul_le_mul_right _ Nat.one_le_two_pow
    exact Nat.div_eq_of_lt (by omega)

/-- A sum over the counted entries is a sum over the table in which an EMPTY entry counts 0 (R43). -/
theorem sum_counted (peers : List PeerEntry) (f : PeerValues → Nat) (g : PeerEntry → Nat)
    (h : ∀ e, g e = (e.counted.map f).getD 0) :
    ((peers.filterMap PeerEntry.counted).map f).sum = (peers.map g).sum := by
  induction peers with
  | nil => rfl
  | cons e rest ih => cases hc : e.counted <;> simp [hc, ih, h]

theorem sum_counted_filter (peers : List PeerEntry) (p : PeerValues → Bool) (f : PeerValues → Nat) (g : PeerEntry → Nat)
    (h : ∀ e, g e = (e.counted.map fun v => if p v then f v else 0).getD 0) :
    (((peers.filterMap PeerEntry.counted).filter p).map f).sum = (peers.map g).sum := by
  induction peers with
  | nil => rfl
  | cons e rest ih =>
    cases hc : e.counted with
    | none => simp [hc, ih, h]
    | some v => cases hp : p v <;> simp [hc, hp, ih, h]

/-- Settles O37: the model's sums over the counted entries are the statement's over the table, and each regime of R47 is a
branch of the target. -/
theorem allowanceSharesBudget : Obligations.AllowanceSharesBudget := by
  intro s claimOf wantedOf floorOf clsOf sum part B aux W Fo H D Fs own ws
  have hclaim : othersClaim s = sum claimOf := sum_counted _ _ _ fun e => by cases e <;> rfl
  have hwanted : ((countedPeers s).map PeerValues.wanted).sum = sum wantedOf :=
    sum_counted _ _ _ fun e => by cases e <;> rfl
  have hfloor : ((countedPeers s).map PeerValues.floor).sum = sum floorOf :=
    sum_counted _ _ _ fun e => by cases e <;> rfl
  have hweight : (((countedPeers s).filter fun v => v.floor < v.wanted).map fun v => classWeight v.cls).sum =
      sum fun e => if floorOf e < wantedOf e then weightOf (clsOf e) else 0 :=
    sum_counted_filter _ _ _ _ fun e => by cases e <;> simp [PeerEntry.counted, classWeight_eq, floorOf, wantedOf, clsOf]
  have hW : ownWanted s = W := rfl
  have hFo : floorInEffect s = Fo := by simp [floorInEffect, hasWork, hW, Fo]
  have hH : headroom s = H := by simp only [headroom, hclaim, H, B]
  have hD : totalWanted s = D := by simp only [totalWanted, hwanted, hW, D]
  have hFs : totalFloor s = Fs := by simp only [totalFloor, hfloor, hFo, Fs]
  have hws : weightSum s = ws := by rw [weightSum, hweight, hFo, hW, classWeight_eq]
  refine ⟨hW, hFo, hH, fun hs => by simp [allowance, hs], fun hs => ?_⟩
  have hA : allowance s = max (min (target s) H) aux := by simp only [allowance, hs, if_false, hH, aux]
  have hT : target s =
      if B < D then
        if B ≤ Fs then Fo * B / Fs
        else if Fo < W then min W (Fo + (B - Fs) * own / ws) else min W Fo
      else W := by
    simp only [target, inContention, decide_eq_true_eq, hD, hFs, hFo, hW, hws, classWeight_eq, B, own]
  refine ⟨fun h => ?_, fun h1 h2 => ?_, fun h1 h2 h3 => ?_, fun h1 h2 h3 => ?_⟩ <;> rw [hA, hT]
  · rw [if_neg (by omega)]
  · rw [if_pos h1, if_pos h2]
  · rw [if_pos h1, if_neg (by omega), if_pos h3]
  · rw [if_pos h1, if_neg (by omega), if_neg (by omega)]

end Sys2Proof.Machine.Sharing
end

section
/-! The notice period with its claim point (R50 to R52): NoticePeriodTakesClaim. -/

namespace Sys2Proof.Machine.Sharing

/-! ### The frame of the claim point and of the notice period -/

theorem withinSupply_changeClaim (c : Nat) (s : State) : withinSupply s (changeClaim c s) :=
  .trans ⟨_, _, _, rfl⟩ (withinSupply_evalStarved _)

theorem withinSupply_takeRaised (s : State) : withinSupply s (takeRaised s) := by
  unfold takeRaised
  split
  · exact .trans ⟨_, _, _, rfl⟩ (withinSupply_changeClaim _ _)
  · exact .refl s

theorem withinSupply_lowerClaim (s : State) : withinSupply s (lowerClaim s) := by
  unfold lowerClaim
  split
  · exact withinSupply_changeClaim _ _
  · exact .refl s

theorem withinSupply_claimNotice (ended : Bool) (before : Nat) (s : State) :
    withinSupply s (claimNotice ended before s) := by
  unfold claimNotice
  split
  · exact withinSupply_offerNotice _ _
  · exact .refl s

theorem withinSupply_claimPoint (s : State) : withinSupply s (claimPoint s) :=
  (((withinSupply_recordAllowance s).trans (withinSupply_takeRaised _)).trans (withinSupply_lowerClaim _)).trans
    (withinSupply_claimNotice _ _ _)

theorem withinSupply_periodClaimPoint (s : State) : withinSupply s (periodClaimPoint s) := by
  unfold periodClaimPoint
  split
  · exact (withinSupply_claimPoint s).trans (withinSupply_startRaise _)
  · exact .refl s

/-! ### The claim point, said once -/

/-- The raised value where one waits, and otherwise the claim in force: C after step 2 of a claim point (R50). -/
def claimTaken (s : State) : Nat :=
  match s.ssu.raise with
  | .waiting _ r => r
  | _ => s.ssu.claim

theorem raiseWaits_iff (s : State) : raiseWaits s = true ↔ ∃ pre r, s.ssu.raise = .waiting pre r := by
  unfold raiseWaits
  split <;> simp_all

@[simp] theorem raiseWaits_recordAllowance (s : State) : raiseWaits (recordAllowance s) = raiseWaits s := by
  simp only [raiseWaits, recordAllowance_keeps]

/-- C, A and the announced claim call for the notice of R51. -/
def claimPointOffers (s : State) : Prop :=
  (raiseWaits s = true ∧ min (claimTaken s) (allowance s) < s.ssu.announced) ∨
    ((raiseWaits s = true ∨ s.ssu.raise = .none) ∧ min (claimTaken s) (allowance s) + 20 ≤ claimTaken s)

/-- A claim point up to its step 3. -/
def claimMoved (s : State) : State := lowerClaim (takeRaised (recordAllowance s))

theorem claimMoved_claim (s : State) : (claimMoved s).ssu.claim = min (claimTaken s) (allowance s) := by
  simp only [claimMoved, lowerClaim_claim, takeRaised_claim, takeRaised_keeps, recordAllowance_keeps, recordAllowance_last]
  rfl

theorem claimMoved_raise (s : State) : (claimMoved s).ssu.raise = if raiseWaits s then .none else s.ssu.raise := by
  simp only [claimMoved, lowerClaim_keeps, takeRaised_raise, raiseWaits_recordAllowance, recordAllowance_keeps]

theorem claimMoved_line (s : State) :
    (claimMoved s).link = s.link ∧ (claimMoved s).ssu.announced = s.ssu.announced ∧
      (claimMoved s).ssu.lastW = ownWanted s ∧ (claimMoved s).ssu.lastFo = floorInEffect s ∧
      (claimMoved s).od = s.od ∧ (claimMoved s).config = s.config ∧ (claimMoved s).ssu.listenIn = s.ssu.listenIn := by
  simp [claimMoved]

/-- A claim point moves the claim and then offers the notice of R51 where one is called for. -/
theorem claimPoint_eq (s : State) :
    (claimPointOffers s → claimPoint s = offerNotice (min (claimTaken s) (allowance s)) (claimMoved s)) ∧
      (¬ claimPointOffers s → claimPoint s = claimMoved s) := by
  have hraise : (claimMoved s).ssu.raise = .none ↔ raiseWaits s = true ∨ s.ssu.raise = .none := by
    rw [claimMoved_raise]
    split <;> simp_all
  have htaken : (takeRaised (recordAllowance s)).ssu.claim = claimTaken s := by
    simp only [takeRaised_claim, recordAllowance_keeps]
    rfl
  have hpoint : claimPoint s = claimNotice (raiseWaits s) (claimTaken s) (claimMoved s) := by
    rw [← htaken, ← raiseWaits_recordAllowance]
    rfl
  have hcond : claimPointOffers s ↔
      (raiseWaits s = true ∧ (claimMoved s).ssu.claim < (claimMoved s).ssu.announced) ∨
        ((claimMoved s).ssu.raise = .none ∧ (claimMoved s).ssu.claim + 20 ≤ claimTaken s) := by
    simp only [claimPointOffers, hraise, claimMoved_claim, (claimMoved_line s).2.1]
  rw [hpoint, claimNotice, ← claimMoved_claim, hcond]
  exact ⟨fun h => if_pos h, fun h => if_neg h⟩

/-! ### Where no notice may be offered -/

theorem offerNotice_silent {c : Nat} {s : State} (h : s.od.restartPending = true ∨ s.ssu.listenIn ≠ none) :
    offerNotice c s = s := by
  unfold offerNotice
  rw [if_pos h]

/-- With a restart pending or in STANDBY no raise is due (R53). -/
theorem startRaise_silent {s : State} (h : s.od.restartPending = true ∨ s.od.power = .standby) : startRaise s = s :=
  startRaise_not_due (by
    rw [Bool.eq_false_iff, ne_eq, raiseDue_iff]
    simp only [not_and_or, not_not, Bool.not_eq_false]
    tauto)

theorem compute_silent {s : State} (h : s.od.restartPending = true ∨ s.od.power = .standby) :
    compute s = recordAllowance s :=
  startRaise_silent (by simpa using h)

theorem claimPoint_silent {s : State} (h : s.od.restartPending = true ∨ s.ssu.listenIn ≠ none) :
    claimPoint s = claimMoved s := by
  by_cases ho : claimPointOffers s
  · rw [(claimPoint_eq s).1 ho]
    exact offerNotice_silent (by simpa [claimMoved] using h)
  · exact (claimPoint_eq s).2 ho

/-! ### What stands in the queue -/

theorem length_offer_room {b : Body} {s : State} (h : s.link.queue.length < 4) :
    (offer b s).link.queue.length = s.link.queue.length + 1 := by
  rw [offer_room b s h]
  exact length_enqueued s.link _

theorem length_offer_le (b : Body) (s : State) : (offer b s).link.queue.length ≤ s.link.queue.length + 1 := by
  by_cases hq : s.link.queue.length < 4
  · exact (length_offer_room hq).le
  · unfold offer
    dsimp only
    rw [if_neg hq]
    split
    next hany =>
      have hparts := congrArg List.length (fixedPart_append_waitingPart s.link)
      have hdisplaced := List.length_eraseP_le (p := fun f : Frame => !f.isNotice) (l := waitingPart s.link)
      simp only [List.length_append] at hparts
      simp only [countDropped_keeps, List.length_append, length_insertFrame, displace]
      omega
    next => simp

theorem length_startRaise_le (s : State) : (startRaise s).link.queue.length ≤ s.link.queue.length + 1 := by
  have hoffer := length_offer_le (.notice (raiseNotice s))
    { s with ssu.raise := .queued s.ssu.announced, ssu.announced := s.ssu.lastA }
  unfold startRaise
  dsimp only
  (repeat' split)
  · exact hoffer
  · simpa using hoffer
  · omega

theorem length_claimPoint_le (s : State) : (claimPoint s).link.queue.length ≤ s.link.queue.length + 1 := by
  have hline := (claimMoved_line s).1
  by_cases ho : claimPointOffers s
  · rw [(claimPoint_eq s).1 ho, offerNotice, ← hline]
    split
    · omega
    · exact length_offer_le _ _
  · rw [(claimPoint_eq s).2 ho, hline]
    omega

/-- A notice at the head keeps its place: nothing is put in ahead of it, and it is not displaced (R9, R10). -/
theorem head_offer {b : Body} {s : State} {f : Frame} {rest : List Frame} (h : s.link.queue = f :: rest)
    (hf : f.isNotice = true) : (offer b s).link.queue.head? = some f := by
  have hinsert (q : List Frame) : (insertFrame (.fresh b) (f :: q)).head? = some f := by
    unfold insertFrame
    split <;> simp [hf]
  unfold offer fixedPart displace waitingPart
  dsimp only
  rw [h]
  (repeat' split) <;> simp_all

theorem head_startRaise {s : State} {f : Frame} (h : s.link.queue.head? = some f) (hf : f.isNotice = true) :
    (startRaise s).link.queue.head? = some f := by
  obtain ⟨rest, hqueue⟩ := List.head?_eq_some_iff.1 h
  have hoffer := head_offer (b := .notice (raiseNotice s))
    (s := { s with ssu.raise := .queued s.ssu.announced, ssu.announced := s.ssu.lastA }) hqueue hf
  unfold startRaise
  dsimp only
  (repeat' split)
  · exact hoffer
  · simpa using hoffer
  · exact h

/-! ### The ordinary notice -/

theorem ordinaryNotice_eq (s : State) (c : Nat) :
    ordinaryNotice s c =
      { cls := s.config.cls, raise := false, leave := false, asleep := decide (s.od.power = .standby),
        claim := if s.od.power = .standby then 0 else c, wanted := if s.od.power = .standby then 0 else s.ssu.lastW,
        floor := if s.od.power = .standby then 0 else s.ssu.lastFo } := by
  unfold ordinaryNotice
  split <;> simp_all

/-- In STANDBY the oven wants nothing and has no floor (R46). -/
theorem inputs_standby {s : State} (h : s.od.power = .standby) :
    ownWanted s = 0 ∧ floorInEffect s = 0 ∧ allowance s = 0 := by
  simp [ownWanted, floorInEffect, hasWork, allowance, h]

/-! ### The notice period -/

/-- What the periodic notice of an expired period is offered on: the claim point, where one is due, and the allowance. -/
def periodComputed (s : State) : State := compute (periodClaimPoint s)

theorem withinSupply_periodComputed (s : State) : withinSupply s (periodComputed s) :=
  (withinSupply_periodClaimPoint s).trans (withinSupply_compute _)

theorem periodComputed_last (s : State) :
    (periodComputed s).ssu.lastA = allowance s ∧ (periodComputed s).ssu.lastW = ownWanted s ∧
      (periodComputed s).ssu.lastFo = floorInEffect s := by
  have hinputs := (withinSupply_periodClaimPoint s).sameInputs (by simp)
  obtain ⟨hA, hW, hF, -⟩ := computedFrom_compute (periodClaimPoint s)
  exact ⟨hA.trans (allowance_congr hinputs), hW.trans (ownWanted_congr hinputs), hF.trans (floorInEffect_congr hinputs)⟩

theorem periodClaimPoint_running {s : State} (h : s.lpd.drive = .running) : periodClaimPoint s = s := by
  simp [periodClaimPoint, driveInactive, h]

theorem periodClaimPoint_inactive {s : State} (h : s.lpd.drive ≠ .running) :
    periodClaimPoint s = startRaise (claimPoint s) := by
  simp [periodClaimPoint, driveInactive, h]

theorem claimsOrdered_periodComputed {s : State} (h : claimsOrdered s) : claimsOrdered (periodComputed s) :=
  claimsOrdered_compute (claimsOrdered_periodClaimPoint h)

/-- While the drive runs there is no claim point: a raise in progress goes on as it is (R52). -/
theorem periodComputed_running {s : State} (h : s.lpd.drive = .running) :
    (periodComputed s).ssu.claim = s.ssu.claim ∧
      (s.ssu.raise ≠ .none →
        (periodComputed s).ssu.raise = s.ssu.raise ∧ (periodComputed s).ssu.announced = s.ssu.announced) := by
  rw [periodComputed, periodClaimPoint_running h]
  obtain ⟨-, -, -, hclaim, hprogress, -⟩ := computedFrom_compute s
  exact ⟨hclaim, hprogress⟩

theorem periodComputed_inactive_claim {s : State} (h : s.lpd.drive ≠ .running) :
    (periodComputed s).ssu.claim = min (claimTaken s) (allowance s) := by
  rw [periodComputed, periodClaimPoint_inactive h]
  simp only [compute_keeps, startRaise_keeps]
  exact claimPoint_claim s

/-- Nothing goes out and nothing is announced where no notice may be offered (R57, R59). -/
theorem periodComputed_silent {s : State} (hordered : claimsOrdered s)
    (h : s.od.restartPending = true ∨ s.ssu.listenIn ≠ none) :
    (periodComputed s).link = s.link ∧ (periodComputed s).ssu.announced = s.ssu.announced := by
  obtain ⟨-, -, -, hlisten⟩ := hordered
  have hquiet : s.od.restartPending = true ∨ s.od.power = .standby := h.imp id hlisten
  rw [periodComputed, compute_silent (by simpa using hquiet)]
  by_cases hd : s.lpd.drive = .running
  · simp [periodClaimPoint_running hd]
  · rw [periodClaimPoint_inactive hd, startRaise_silent (by simpa using hquiet), claimPoint_silent h]
    simp [claimMoved]

theorem length_periodComputed_lt {s : State} (h : s.link.queue = []) : (periodComputed s).link.queue.length < 4 := by
  have hcompute : (periodComputed s).link.queue.length ≤ (periodClaimPoint s).link.queue.length + 1 :=
    (length_startRaise_le _).trans (by simp)
  have hpoint : (periodClaimPoint s).link.queue.length ≤ 2 := by
    by_cases hd : s.lpd.drive = .running
    · simp [periodClaimPoint_running hd, h]
    · rw [periodClaimPoint_inactive hd]
      have hclaim := length_claimPoint_le s
      have hraise := length_startRaise_le (claimPoint s)
      simp only [h, List.length_nil] at hclaim
      omega
  omega

/-- The claim notice of a claim point that finds an empty queue stands first in it (R51). -/
theorem claimPoint_head {s : State} (hq : s.link.queue = []) (hr : s.od.restartPending = false)
    (hl : s.ssu.listenIn = none) (ho : claimPointOffers s) :
    (claimPoint s).link.queue.head? =
      some (.fresh (.notice (ordinaryNotice (claimMoved s) (min (claimTaken s) (allowance s))))) := by
  obtain ⟨hlink, -, -, -, hod, -, hlisten⟩ := claimMoved_line s
  have hroom : (claimMoved s).link.queue.length < 4 := by simp [hlink, hq]
  rw [(claimPoint_eq s).1 ho, offerNotice_room (by rw [hod, hr]) (by rw [hlisten, hl]) hroom]
  simp [fixedPart, waitingPart, hlink, hq, insertFrame]

/-- The frame of `ordinaryNotice` with the values of an allowance computation on `s`. -/
def noticeOn (s : State) (c : Nat) : Notice :=
  { cls := s.config.cls, raise := false, leave := false, asleep := decide (s.od.power = .standby), claim := c,
    wanted := ownWanted s, floor := floorInEffect s }

/-- An ordinary notice on the values of an allowance computation, for a claim that is 0 in STANDBY. -/
theorem ordinaryNotice_computed {s t : State} {c : Nat} (hconfig : t.config = s.config) (hpower : t.od.power = s.od.power)
    (hW : t.ssu.lastW = ownWanted s) (hF : t.ssu.lastFo = floorInEffect s) (hc : s.od.power = .standby → c = 0) :
    ordinaryNotice t c = noticeOn s c := by
  rw [ordinaryNotice_eq, hconfig, hpower, hW, hF]
  unfold noticeOn
  by_cases hs : s.od.power = .standby
  · obtain ⟨hW0, hF0, -⟩ := inputs_standby hs
    simp [hs, hW0, hF0, hc hs]
  · simp [hs]

/-- The claim a periodic notice carries: C, or Ca while a raise is in progress (R52). -/
def periodicClaim (s : State) : Nat := if s.ssu.raise = .none then s.ssu.claim else s.ssu.announced

theorem periodicClaim_standby {s : State} (h : claimsOrdered s) (hp : s.od.power = .standby) : periodicClaim s = 0 := by
  obtain ⟨-, -, hstandby, -⟩ := h
  obtain ⟨hclaim, hraise⟩ := hstandby hp
  simp [periodicClaim, hclaim, hraise]

theorem periodicNotice_announced {s : State} (h : claimsOrdered s) (hr : s.od.restartPending = false)
    (hl : s.ssu.listenIn = none) : (periodicNotice s).ssu.announced = periodicClaim s := by
  have hzero := periodicClaim_standby h
  simp only [periodicNotice, offerNotice_announced, hr, hl]
  simp only [periodicClaim] at hzero ⊢
  split <;> simp_all

/-- A raise in progress keeps its announced claim, offered or not. -/
theorem periodicNotice_announced_raise {s : State} (h : claimsOrdered s) (hraise : s.ssu.raise ≠ .none) :
    (periodicNotice s).ssu.announced = s.ssu.announced := by
  obtain ⟨-, -, hstandby, -⟩ := h
  have hpower : s.od.power ≠ .standby := fun hp => hraise (hstandby hp).2
  simp [periodicNotice, offerNotice_announced, hraise, hpower]

/-- With room in the queue the periodic notice enters it, behind a notice that stands first. -/
theorem periodicNotice_queue {s : State} (hr : s.od.restartPending = false) (hl : s.ssu.listenIn = none)
    (hq : s.link.queue.length < 4) :
    .fresh (.notice (ordinaryNotice s (periodicClaim s))) ∈ (periodicNotice s).link.queue ∧
      (periodicNotice s).link.queue.length = s.link.queue.length + 1 ∧
      ∀ f, s.link.queue.head? = some f → f.isNotice = true → (periodicNotice s).link.queue.head? = some f := by
  have hoffer : periodicNotice s = offer (.notice (ordinaryNotice s (periodicClaim s)))
      { s with ssu.announced := (ordinaryNotice s (periodicClaim s)).claim } := offerNotice_offers hr hl
  rw [hoffer]
  refine ⟨fresh_mem_offer (queueTakes_of_room hq), length_offer_room hq, fun f hhead hf => ?_⟩
  obtain ⟨rest, hqueue⟩ := List.head?_eq_some_iff.1 hhead
  exact head_offer hqueue hf

/-- The claim notice of a claim point and the periodic notice behind it (R51, R52). -/
theorem periodComputed_head {s : State} (hd : s.lpd.drive ≠ .running) (hq : s.link.queue = [])
    (hr : s.od.restartPending = false) (hl : s.ssu.listenIn = none) (ho : claimPointOffers s) :
    (periodComputed s).link.queue.head? =
      some (.fresh (.notice (ordinaryNotice (claimMoved s) (min (claimTaken s) (allowance s))))) := by
  rw [periodComputed, periodClaimPoint_inactive hd]
  refine head_startRaise ?_ rfl
  simp only [recordAllowance_keeps]
  exact head_startRaise (claimPoint_head hq hr hl ho) rfl

theorem claimMoved_claim_standby {s : State} (hp : s.od.power = .standby) : min (claimTaken s) (allowance s) = 0 := by
  simp [(inputs_standby hp).2.2]

/-- The end of a notice period on a state whose claims are in order: what R50 to R52 say of it. -/
theorem notices_of_period {s : State} (h : claimsOrdered s) (hr : s.od.restartPending = false)
    (hl : s.ssu.listenIn = none) (hq : s.link.queue = []) :
    (∃ f ∈ (periodicNotice (periodComputed s)).link.queue,
      f.body = .notice (noticeOn s (periodicNotice (periodComputed s)).ssu.announced)) ∧
    (s.lpd.drive ≠ .running → claimPointOffers s →
      (∃ f, (periodicNotice (periodComputed s)).link.queue.head? = some f ∧
        f.body = .notice (noticeOn s (periodicNotice (periodComputed s)).ssu.claim)) ∧
      2 ≤ (periodicNotice (periodComputed s)).link.queue.length) := by
  have hordered := claimsOrdered_periodComputed h
  have hpower : (periodComputed s).od.power = s.od.power := by simp [periodComputed]
  have hr' : (periodComputed s).od.restartPending = false := by simpa [periodComputed] using hr
  have hl' : (periodComputed s).ssu.listenIn = none := by simpa [periodComputed] using hl
  obtain ⟨-, hW, hF⟩ := periodComputed_last s
  obtain ⟨hmem, hlength, hhead⟩ := periodicNotice_queue hr' hl' (length_periodComputed_lt hq)
  refine ⟨⟨_, hmem, ?_⟩, fun hd ho => ?_⟩
  · rw [periodicNotice_announced hordered hr' hl']
    exact congrArg Body.notice (ordinaryNotice_computed (by simp [periodComputed]) hpower hW hF
      (fun hp => periodicClaim_standby hordered (hpower.trans hp)))
  · have hfirst := periodComputed_head hd hq hr hl ho
    obtain ⟨rest, hqueue⟩ := List.head?_eq_some_iff.1 hfirst
    refine ⟨⟨_, hhead _ hfirst rfl, ?_⟩, by rw [hlength, hqueue, List.length_cons]; omega⟩
    obtain ⟨-, -, hW, hF, hod, hconfig, -⟩ := claimMoved_line s
    have hclaim : (periodicNotice (periodComputed s)).ssu.claim = min (claimTaken s) (allowance s) := by
      simpa using periodComputed_inactive_claim hd
    rw [hclaim]
    exact congrArg Body.notice (ordinaryNotice_computed hconfig (by rw [hod]) hW hF claimMoved_claim_standby)

theorem withinSupply_periodicNotice (s : State) : withinSupply s (periodicNotice s) := withinSupply_offerNotice _ _

/-- Settles O39: the claim point where the drive is inactive, the allowance, and the periodic notice, one after another. -/
theorem noticePeriodTakesClaim : Obligations.NoticePeriodTakesClaim := by
  intro s n hrun hordered hperiod
  let s0 : State := { s with ssu.period := some 0 }
  have hexec : exec .noticePeriodExpired s = .next (periodicNotice (periodComputed s0)) :=
    exec_next rfl hrun (by simp [noticePeriod, hperiod, periodComputed, s0])
  have hordered0 : claimsOrdered s0 := (claimsOrdered_iff_of_keepsClaims ⟨rfl, rfl, rfl, rfl, rfl⟩).2 hordered
  have hcomputed := claimsOrdered_periodComputed hordered0
  have hlast : (periodComputed s0).ssu.lastA = allowance s ∧ (periodComputed s0).ssu.lastW = ownWanted s ∧
      (periodComputed s0).ssu.lastFo = floorInEffect s := periodComputed_last s0
  have hpending : (periodComputed s0).od.restartPending = s.od.restartPending := by simp [periodComputed, s0]
  have hlisten : (periodComputed s0).ssu.listenIn = s.ssu.listenIn := by simp [periodComputed, s0]
  obtain ⟨hA, hW, hF⟩ := hlast
  refine ⟨_, hexec, by simp [periodComputed, s0], by simpa using hA, by simpa using hW, by simpa using hF,
    by simp [periodComputed, s0], fun hd => ?_, fun hd => ?_, fun hr hl hraise => ?_, fun hraise hd => ?_,
    fun hr hl hq => ?_, fun hr hl hq hd hoffer => ?_, fun hsilent => ?_, ?_⟩
  · simpa using (periodComputed_running (s := s0) hd).1
  · simp only [periodicNotice_keeps]
    exact periodComputed_inactive_claim (s := s0) hd
  · have hnone : (periodComputed s0).ssu.raise = .none := by simpa using hraise
    rw [periodicNotice_announced hcomputed (hpending.trans hr) (hlisten.trans hl)]
    simp [periodicClaim, hnone]
  · obtain ⟨-, hprogress⟩ := periodComputed_running (s := s0) hd
    obtain ⟨hr, ha⟩ := hprogress hraise
    exact ⟨by simpa using hr, (periodicNotice_announced_raise hcomputed (by rw [hr]; exact hraise)).trans ha⟩
  · exact (notices_of_period hordered0 hr hl hq).1
  · have hclaim : (periodicNotice (periodComputed s0)).ssu.claim = min (claimTaken s) (allowance s) := by
      simp only [periodicNotice_keeps]
      exact periodComputed_inactive_claim (s := s0) hd
    refine (notices_of_period hordered0 hr hl hq).2 hd ?_
    rw [hclaim] at hoffer
    refine hoffer.imp (fun hx => ?_) (fun hx => ?_)
    · obtain ⟨pre, r, hs, hlt⟩ := hx
      exact ⟨(raiseWaits_iff s).2 ⟨pre, r, hs⟩, hlt⟩
    · obtain ⟨hnone, hfall⟩ := hx
      have htaken : claimTaken s = s.ssu.claim := by simp [claimTaken, hnone]
      exact ⟨.inr hnone, hfall.trans htaken.ge⟩
  · obtain ⟨hlink, hannounced⟩ := periodComputed_silent hordered0 hsilent
    rw [periodicNotice, offerNotice_silent (by rwa [hpending, hlisten])]
    exact ⟨hlink, hannounced⟩
  · exact (withinSupply.trans (.trans ⟨_, _, _, rfl⟩ (withinSupply_periodComputed s0))
      (withinSupply_periodicNotice _)).eq

end Sys2Proof.Machine.Sharing
end

section
/-! The window start: claim point, grants, counts, carries and gates (R50, R51, R70 to R79): WindowWithinPool. -/

namespace Sys2Proof.Machine.Sharing

/-! ### The plan order -/

theorem planOrder_eq (m : Option Mode) : planOrder m = inOrder m := by
  cases m with
  | none => rfl
  | some m => cases m <;> rfl

/-- Every load stands once in the plan order (R72). -/
theorem planOrder_perm (m : Option Mode) : (planOrder m).Perm [.steamHeater, .top, .bottom, .ring] := by
  cases m with
  | none => decide
  | some m => cases m <;> decide

theorem planOrder_nodup (m : Option Mode) : (planOrder m).Nodup := (planOrder_perm m).nodup_iff.2 (by decide)

theorem exists_planOrder_getElem? (m : Option Mode) (i : LoadId) : ∃ j : Nat, (planOrder m)[j]? = some i :=
  List.mem_iff_getElem?.1 ((planOrder_perm m).mem_iff.2 (by cases i <;> decide))

theorem sum_planOrder (m : Option Mode) (f : LoadId → Nat) :
    ((planOrder m).map f).sum = f .steamHeater + f .top + f .bottom + f .ring := by
  rw [((planOrder_perm m).map f).sum_eq]
  simp [Nat.add_assoc]

/-! ### The grants (R73) -/

/-- The power a load wants, in W. -/
def wantedW (c : ConfigCopy) (i : LoadId) (l : Load) : Nat := l.demand * ratingW c i / 1000

/-- A load at place `k` of the plan order that is granted what it wants of `left` W. -/
def grantedOf (c : ConfigCopy) (left k : Nat) (i : LoadId) (l : Load) : Load :=
  { l with grant := min (wantedW c i l) left, limited := decide (min (wantedW c i l) left < wantedW c i l), position := k }

theorem giveGrants_cons (c : ConfigCopy) (a : LoadId) (rest : List LoadId) (k left : Nat) (ls : Loads) :
    giveGrants c (a :: rest) k left ls =
      giveGrants c rest (k + 1) (left - (grantedOf c left k a (ls.get a)).grant)
        (ls.set a (grantedOf c left k a (ls.get a))) := rfl

theorem giveGrants_get_of_not_mem (c : ConfigCopy) {order : List LoadId} {i : LoadId} (h : i ∉ order) (k left : Nat)
    (ls : Loads) : (giveGrants c order k left ls).get i = ls.get i := by
  induction order generalizing k left ls with
  | nil => rfl
  | cons a rest ih =>
    obtain ⟨hne, hrest⟩ := List.ne_and_not_mem_of_not_mem_cons h
    rw [giveGrants_cons, ih hrest, Loads.get_set_other _ _ _ _ hne]

/-- The power granted to the loads of a part of the plan order, in W. -/
def grantSum (ls : Loads) (part : List LoadId) : Nat := (part.map fun a => (ls.get a).grant).sum

/-- The load at place `j` of the plan order is granted what it wants of what the loads before it leave. -/
theorem giveGrants_get (c : ConfigCopy) {order : List LoadId} (hnodup : order.Nodup) {j : Nat} {i : LoadId}
    (h : order[j]? = some i) (k left : Nat) (ls : Loads) :
    (giveGrants c order k left ls).get i =
      grantedOf c (left - grantSum (giveGrants c order k left ls) (order.take j)) (k + j) i (ls.get i) := by
  induction order generalizing j k left ls with
  | nil => simp at h
  | cons a rest ih =>
    obtain ⟨hnotin, hrest⟩ := List.nodup_cons.1 hnodup
    rw [giveGrants_cons]
    have hhead := giveGrants_get_of_not_mem c hnotin (k + 1) (left - (grantedOf c left k a (ls.get a)).grant)
      (ls.set a (grantedOf c left k a (ls.get a)))
    rw [Loads.get_set_same] at hhead
    cases j with
    | zero =>
      obtain rfl : a = i := by simpa using h
      simp [grantSum, hhead]
    | succ j =>
      have hj : rest[j]? = some i := by simpa using h
      have hne : i ≠ a := fun heq => hnotin (heq ▸ List.mem_of_getElem? hj)
      rw [ih hrest hj, Loads.get_set_other _ _ _ _ hne]
      simp only [grantSum, List.take_succ_cons, List.map_cons, List.sum_cons, hhead, Nat.sub_sub]
      rw [Nat.add_assoc k 1 j, Nat.add_comm 1 j]

/-! ### The conversion (R74 to R76) -/

/-- The half-cycles a load is given, of `left` W·half-cycles (R74, R75); none under an interlock (R79). -/
def countOf (r left : Nat) (off : Bool) (l : Load) : Nat :=
  if off then 0 else min ((l.grant * 100 + l.carry) / r) (left / r)

/-- What a load gives up of its power, in W·half-cycles, beyond the carry it may keep (R76). -/
def givenUpBy (r n : Nat) (off : Bool) (l : Load) : Nat :=
  if off then 0 else (l.grant * 100 + l.carry - n * r) - (r - 1)

/-- A load after its conversion to `n` half-cycles. -/
def convertedTo (r n : Nat) (off : Bool) (l : Load) : Load :=
  { l with count := n, carry := if off then l.carry else min (l.grant * 100 + l.carry - n * r) (r - 1) }

theorem convertLoad_eq (c : ConfigCopy) (p : Nat) (off : Bool) (i : LoadId) {v : Converted} (hv : v.shed ≤ 65535) :
    let l := v.loads.get i
    let n := countOf (ratingW c i) (p * 100 - v.total) off l
    convertLoad c p off i v =
      { loads := v.loads.set i (convertedTo (ratingW c i) n off l)
        shed := min (v.shed + (givenUpBy (ratingW c i) n off l + 99) / 100) 65535
        total := v.total + n * ratingW c i } := by
  cases off with
  | true => simp [convertLoad, countOf, givenUpBy, convertedTo, hv]
  | false =>
    simp only [convertLoad, countOf, givenUpBy, convertedTo, addSat, ceilDiv]
    simp only [Bool.false_eq_true, if_false]
    generalize (v.loads.get i).grant * 100 + (v.loads.get i).carry = x
    generalize min (x / ratingW c i) ((p * 100 - v.total) / ratingW c i) = n
    split
    next hlt =>
      have h1 : min (x - n * ratingW c i) (ratingW c i - 1) = x - n * ratingW c i := by omega
      have h2 : (x - n * ratingW c i - (ratingW c i - 1) + 99) / 100 = 0 := by omega
      rw [h1, h2, Nat.add_zero, min_eq_left hv]
    next hge =>
      have h1 : min (x - n * ratingW c i) (ratingW c i - 1) = ratingW c i - 1 := by omega
      rw [h1]
      rfl

/-- What the conversion of one load leaves: its record, the shed counter and the running total. -/
theorem convertLoad_spec (c : ConfigCopy) (p : Nat) (off : Bool) (i : LoadId) {v : Converted} (hv : v.shed ≤ 65535) :
    let l' := (convertLoad c p off i v).loads.get i
    l' = convertedTo (ratingW c i) (countOf (ratingW c i) (p * 100 - v.total) off (v.loads.get i)) off (v.loads.get i) ∧
      (∀ j, j ≠ i → (convertLoad c p off i v).loads.get j = v.loads.get j) ∧
      (convertLoad c p off i v).shed =
        min (v.shed + (givenUpBy (ratingW c i) l'.count off (v.loads.get i) + 99) / 100) 65535 ∧
      (convertLoad c p off i v).total = v.total + l'.count * ratingW c i := by
  rw [convertLoad_eq c p off i hv]
  simp only [Loads.get_set_same]
  exact ⟨trivial, fun j hj => Loads.get_set_other _ _ _ _ hj, rfl, rfl⟩

/-- The power the counts of a part of the plan order stand for, in W·half-cycles (R75). -/
def countSum (c : ConfigCopy) (ls : Loads) (part : List LoadId) : Nat :=
  (part.map fun a => (ls.get a).count * ratingW c a).sum

section
variable (c : ConfigCopy) (p : Nat) (s : State)

theorem convertLoads_get_of_not_mem {order : List LoadId} {i : LoadId} (h : i ∉ order) {v : Converted}
    (hv : v.shed ≤ 65535) : (convertLoads c p s order v).loads.get i = v.loads.get i := by
  induction order generalizing v with
  | nil => rfl
  | cons a rest ih =>
    obtain ⟨hne, hrest⟩ := List.ne_and_not_mem_of_not_mem_cons h
    obtain ⟨-, hother, hshed, -⟩ := convertLoad_spec c p (interlocked s a) a hv
    rw [convertLoads, ih hrest (by rw [hshed]; exact min_le_right _ _), hother i hne]

/-- The load at place `j` of the plan order is converted within what the loads before it leave of the pool. -/
theorem convertLoads_get {order : List LoadId} (hnodup : order.Nodup) {j : Nat} {i : LoadId} (h : order[j]? = some i)
    {v : Converted} (hv : v.shed ≤ 65535) :
    (convertLoads c p s order v).loads.get i =
      convertedTo (ratingW c i)
        (countOf (ratingW c i) (p * 100 - (v.total + countSum c (convertLoads c p s order v).loads (order.take j)))
          (interlocked s i) (v.loads.get i))
        (interlocked s i) (v.loads.get i) := by
  induction order generalizing j v with
  | nil => simp at h
  | cons a rest ih =>
    obtain ⟨hnotin, hrest⟩ := List.nodup_cons.1 hnodup
    obtain ⟨hfirst, hother, hshed, htotal⟩ := convertLoad_spec c p (interlocked s a) a hv
    rw [convertLoads]
    generalize convertLoad c p (interlocked s a) a v = v' at hfirst hother hshed htotal ⊢
    have hv' : v'.shed ≤ 65535 := by omega
    have hhead := convertLoads_get_of_not_mem c p s hnotin hv'
    cases j with
    | zero =>
      obtain rfl : a = i := by simpa using h
      rw [hhead, hfirst]
      simp [countSum]
    | succ j =>
      have hj : rest[j]? = some i := by simpa using h
      have hne : i ≠ a := fun heq => hnotin (heq ▸ List.mem_of_getElem? hj)
      rw [ih hrest hj hv', hother i hne, htotal]
      simp only [countSum, List.take_succ_cons, List.map_cons, List.sum_cons, hhead, Nat.add_assoc]

/-- The power the counts stand for, with the total before them, stays within the pool (R75). -/
theorem convertLoads_total {order : List LoadId} (hnodup : order.Nodup) {v : Converted} (hv : v.shed ≤ 65535)
    (ht : v.total ≤ p * 100) : v.total + countSum c (convertLoads c p s order v).loads order ≤ p * 100 := by
  induction order generalizing v with
  | nil => simpa [countSum] using ht
  | cons a rest ih =>
    obtain ⟨hnotin, hrest⟩ := List.nodup_cons.1 hnodup
    obtain ⟨hfirst, -, hshed, htotal⟩ := convertLoad_spec c p (interlocked s a) a hv
    have hcap : (countOf (ratingW c a) (p * 100 - v.total) (interlocked s a) (v.loads.get a)) * ratingW c a ≤
        p * 100 - v.total := by
      unfold countOf
      split
      · omega
      · exact (Nat.mul_le_mul_right _ (min_le_right _ _)).trans (Nat.div_mul_le_self _ _)
    have hcount := congrArg Load.count hfirst
    rw [convertLoads]
    generalize convertLoad c p (interlocked s a) a v = v' at hfirst hshed htotal hcount ⊢
    have hv' : v'.shed ≤ 65535 := by omega
    have hhead := convertLoads_get_of_not_mem c p s hnotin hv'
    have hrec := ih hrest hv' (by rw [htotal, hcount]; simp only [convertedTo]; omega)
    rw [htotal] at hrec
    simp only [countSum, List.map_cons, List.sum_cons, hhead] at hrec ⊢
    omega

/-- The shed counter takes what every load gives up, rounded up to whole watt-windows (R76). -/
theorem convertLoads_shed {order : List LoadId} (hnodup : order.Nodup) {v : Converted} (hv : v.shed ≤ 65535) :
    (convertLoads c p s order v).shed =
      min (v.shed + (order.map fun a =>
        (givenUpBy (ratingW c a) ((convertLoads c p s order v).loads.get a).count (interlocked s a) (v.loads.get a)
          + 99) / 100).sum) 65535 := by
  induction order generalizing v with
  | nil => simpa [convertLoads] using hv
  | cons a rest ih =>
    obtain ⟨hnotin, hrest⟩ := List.nodup_cons.1 hnodup
    obtain ⟨-, hother, hshed, -⟩ := convertLoad_spec c p (interlocked s a) a hv
    rw [convertLoads]
    generalize convertLoad c p (interlocked s a) a v = v' at hother hshed ⊢
    have hv' : v'.shed ≤ 65535 := by omega
    have hhead := convertLoads_get_of_not_mem c p s hnotin hv'
    have hsame : (rest.map fun b => (givenUpBy (ratingW c b) ((convertLoads c p s rest v').loads.get b).count
        (interlocked s b) (v'.loads.get b) + 99) / 100) =
        rest.map fun b => (givenUpBy (ratingW c b) ((convertLoads c p s rest v').loads.get b).count
          (interlocked s b) (v.loads.get b) + 99) / 100 :=
      List.map_congr_left fun b hb => by rw [hother b fun heq => hnotin (heq ▸ hb)]
    rw [ih hrest hv', hsame, hshed, List.map_cons, List.sum_cons, hhead]
    omega

end

/-! ### The plan of a window -/

/-- The grants of a window's plan. -/
def planGranted (s : State) : Loads :=
  giveGrants s.config (planOrder (s.cr.request.map Request.mode)) 0 (poolOf s) s.lpd.loads

/-- The conversion of a window's plan. -/
def planConverted (s : State) : Converted :=
  convertLoads s.config (poolOf s) s (planOrder (s.cr.request.map Request.mode))
    { loads := planGranted s, shed := s.lpd.shed, total := 0 }

theorem planWindow_eq (s : State) :
    planWindow s = { s with lpd.loads := (planConverted s).loads, lpd.shed := (planConverted s).shed,
                            lpd.pool := poolOf s } := rfl

theorem planGranted_get (s : State) {j : Nat} {i : LoadId}
    (h : (planOrder (s.cr.request.map Request.mode))[j]? = some i) :
    (planGranted s).get i =
      grantedOf s.config
        (poolOf s - grantSum (planGranted s) ((planOrder (s.cr.request.map Request.mode)).take j)) j i
        (s.lpd.loads.get i) := by
  have hget := giveGrants_get s.config (planOrder_nodup _) h 0 (poolOf s) s.lpd.loads
  rwa [Nat.zero_add] at hget

section
variable {s : State} (hs : s.lpd.shed ≤ 65535)
include hs

theorem planConverted_get {j : Nat} {i : LoadId} (h : (planOrder (s.cr.request.map Request.mode))[j]? = some i) :
    (planConverted s).loads.get i =
      convertedTo (ratingW s.config i)
        (countOf (ratingW s.config i)
          (poolOf s * 100 -
            countSum s.config (planConverted s).loads ((planOrder (s.cr.request.map Request.mode)).take j))
          (interlocked s i) ((planGranted s).get i))
        (interlocked s i) ((planGranted s).get i) := by
  have hget := convertLoads_get s.config (poolOf s) s (planOrder_nodup _) h
    (v := { loads := planGranted s, shed := s.lpd.shed, total := 0 }) hs
  rwa [Nat.zero_add] at hget

/-- The conversion keeps each load's demand, grant, flag and place. -/
theorem planConverted_keeps (i : LoadId) :
    ((planConverted s).loads.get i).demand = (s.lpd.loads.get i).demand ∧
      ((planConverted s).loads.get i).grant = ((planGranted s).get i).grant ∧
      ((planGranted s).get i).carry = (s.lpd.loads.get i).carry := by
  obtain ⟨j, hj⟩ := exists_planOrder_getElem? (s.cr.request.map Request.mode) i
  rw [planConverted_get hs hj, planGranted_get s hj]
  exact ⟨rfl, rfl, rfl⟩

/-- A load of a window's plan: its place, its grant of what the loads before it leave of the pool, and its count and carry,
or none and the old carry under an interlock (R72 to R76, R79). -/
theorem planConverted_load (i : LoadId) :
    let l := (planConverted s).loads.get i
    let old := s.lpd.loads.get i
    let R := ratingW s.config i
    let before := (planOrder (s.cr.request.map Request.mode)).take l.position
    let x := l.grant * 100 + old.carry
    (planOrder (s.cr.request.map Request.mode))[l.position]? = some i ∧
      l.demand = old.demand ∧
      l.grant = min (old.demand * R / 1000) (poolOf s - grantSum (planConverted s).loads before) ∧
      (l.limited = true ↔ l.grant < old.demand * R / 1000) ∧
      (interlocked s i = true → l.count = 0 ∧ l.carry = old.carry) ∧
      (interlocked s i = false →
        l.count = min (x / R) ((poolOf s * 100 - countSum s.config (planConverted s).loads before) / R) ∧
          l.carry = min (x - l.count * R) (R - 1)) := by
  obtain ⟨j, hj⟩ := exists_planOrder_getElem? (s.cr.request.map Request.mode) i
  have hgrants : grantSum (planGranted s) = grantSum (planConverted s).loads := by
    funext part
    simp only [grantSum, fun a => (planConverted_keeps hs a).2.1]
  have hgranted := planGranted_get s hj
  have hload := planConverted_get hs hj
  obtain ⟨hdemand, hgrant, hcarry⟩ := planConverted_keeps hs i
  intro l old R before x
  have hplace : l.position = j := by rw [show l = _ from hload, hgranted]; rfl
  have hbefore : before = (planOrder (s.cr.request.map Request.mode)).take j := by simp only [before, hplace]
  have hx : x = ((planGranted s).get i).grant * 100 + ((planGranted s).get i).carry := by
    simp only [x, l, old, hgrant, hcarry]
  rw [hgrants] at hgranted
  rw [hbefore, hplace, hx]
  have hwants : l.grant = min (old.demand * R / 1000)
      (poolOf s - grantSum (planConverted s).loads ((planOrder (s.cr.request.map Request.mode)).take j)) :=
    hgrant.trans (congrArg Load.grant hgranted)
  have hcount : l.count = _ := congrArg Load.count hload
  have hkept : l.carry = _ := congrArg Load.carry hload
  refine ⟨hj, hdemand, hwants, ?_, fun hoff => ?_, fun hon => ?_⟩
  · have hlimited : l.limited = ((planGranted s).get i).limited := by rw [show l = _ from hload]; rfl
    rw [hlimited, hwants, hgranted]
    simp [grantedOf, wantedW, old, R]
  · rw [hcount, hkept]
    simp [convertedTo, countOf, hoff, hcarry, old]
  · rw [hkept, hcount]
    simp [convertedTo, countOf, hon, R]

/-- The heater power planned, in W·half-cycles, is within the pool (R75). -/
theorem planConverted_within :
    let power (i : LoadId) : Nat := ((planConverted s).loads.get i).count * ratingW s.config i
    power .steamHeater + power .top + power .bottom + power .ring ≤ poolOf s * 100 := by
  have htotal := convertLoads_total s.config (poolOf s) s (planOrder_nodup (s.cr.request.map Request.mode))
    (v := { loads := planGranted s, shed := s.lpd.shed, total := 0 }) hs (Nat.zero_le _)
  rwa [Nat.zero_add, countSum, sum_planOrder] at htotal

/-- What the loads give up between them goes to the shed counter (R76). -/
theorem planConverted_shed :
    let l (i : LoadId) : Load := (planConverted s).loads.get i
    let R := ratingW s.config
    let givenUp (i : LoadId) : Nat :=
      if interlocked s i then 0
      else ((l i).grant * 100 + (s.lpd.loads.get i).carry - (l i).count * R i) - (R i - 1)
    (planConverted s).shed =
      min (s.lpd.shed + ((givenUp .steamHeater + 99) / 100 + (givenUp .top + 99) / 100 + (givenUp .bottom + 99) / 100 +
        (givenUp .ring + 99) / 100)) 65535 := by
  intro l R givenUp
  have hgiven (i : LoadId) :
      givenUpBy (R i) (l i).count (interlocked s i) ((planGranted s).get i) = givenUp i := by
    obtain ⟨-, hgrant, hcarry⟩ := planConverted_keeps hs i
    simp only [givenUpBy, givenUp, l, hgrant, hcarry]
  have hshed := convertLoads_shed s.config (poolOf s) s (planOrder_nodup (s.cr.request.map Request.mode))
    (v := { loads := planGranted s, shed := s.lpd.shed, total := 0 }) hs
  rw [sum_planOrder] at hshed
  simp only [← hgiven]
  exact hshed
end

/-! ### The window start -/

/-- A raise that is not left in progress by its start leaves the announced claim as it was (R54). -/
theorem startRaise_announced_of_none {s : State} (h : (startRaise s).ssu.raise = .none) :
    (startRaise s).ssu.announced = s.ssu.announced := by
  cases hd : raiseDue s with
  | false => rw [startRaise_not_due hd]
  | true =>
    obtain ⟨htaken, hdropped⟩ := startRaise_raise hd
    cases hq : queueTakes s.link with
    | true => simp [(htaken hq).1] at h
    | false => exact (hdropped hq).2

/-- The interlocks read the power state, the published set, the trips and the boiler alone (R79). -/
theorem interlocked_congr {s t : State} (ho : t.od = s.od) (hm : t.mu = s.mu) (hp : t.pu = s.pu) (hb : t.sgc = s.sgc)
    (i : LoadId) : interlocked t i = interlocked s i := by
  simp only [interlocked, doorOpen, lowWet, ho, hm, hp, hb]

/-- The state a window start's gates are decided on: the claim point, the plan, and the raise that may start on it (R50,
R70). -/
def windowPlanned (s : State) : State := startRaise (planWindow (claimPoint s))

section
variable (s : State)

theorem windowPlanned_line :
    (windowPlanned s).od = s.od ∧ (windowPlanned s).mu = s.mu ∧ (windowPlanned s).pu = s.pu ∧
      (windowPlanned s).sgc = s.sgc ∧ (windowPlanned s).lpd.half = s.lpd.half ∧
      (windowPlanned s).ssu.claim = min (claimTaken s) (allowance s) := by
  simp only [windowPlanned, startRaise_keeps, planWindow_keeps, claimPoint_keeps]
  exact ⟨trivial, trivial, trivial, trivial, trivial, claimPoint_claim s⟩

/-- A raise not left in progress leaves the announced claim of the claim point. -/
theorem windowPlanned_announced (h : (windowPlanned s).ssu.raise = .none) :
    (windowPlanned s).ssu.announced = (claimPoint s).ssu.announced := by
  exact (startRaise_announced_of_none h).trans (by simp)

/-- Where the claim point calls for a notice, its claim is announced and the notice goes out (R51). -/
theorem windowPlanned_offers (ho : claimPointOffers s) (hr : s.od.restartPending = false) (hl : s.ssu.listenIn = none) :
    ((windowPlanned s).ssu.raise = .none →
      (windowPlanned s).ssu.announced = if s.od.power = .standby then 0 else min (claimTaken s) (allowance s)) ∧
    (s.link.queue = [] →
      .fresh (.notice (ordinaryNotice (claimMoved s) (min (claimTaken s) (allowance s)))) ∈
        (windowPlanned s).link.queue) := by
  obtain ⟨-, -, -, -, hod, -, hlisten⟩ := claimMoved_line s
  refine ⟨fun hraise => ?_, fun hq => ?_⟩
  · rw [windowPlanned_announced s hraise, (claimPoint_eq s).1 ho, offerNotice_announced, hod, hlisten]
    simp [hr, hl]
  · have hhead : (planWindow (claimPoint s)).link.queue.head? = _ := claimPoint_head hq hr hl ho
    exact List.mem_of_mem_head? (head_startRaise hhead rfl)

theorem windowPlanned_quiet (ho : ¬ claimPointOffers s) (hraise : (windowPlanned s).ssu.raise = .none) :
    (windowPlanned s).ssu.announced = s.ssu.announced := by
  rw [windowPlanned_announced s hraise, (claimPoint_eq s).2 ho, (claimMoved_line s).2.1]

/-- A raise on its way to a claim point goes on through a window start. -/
theorem windowPlanned_progress (hraise : s.ssu.raise ≠ .none) (hw : raiseWaits s = false) :
    (windowPlanned s).ssu.raise = s.ssu.raise ∧ (windowPlanned s).ssu.announced = s.ssu.announced := by
  have hpoint : claimPoint s = claimMoved s := (claimPoint_eq s).2 (by simp [claimPointOffers, hw, hraise])
  have hkept : (claimMoved s).ssu.raise = s.ssu.raise := by simp [claimMoved_raise, hw]
  have hdue : raiseDue (planWindow (claimMoved s)) = false := by
    rw [Bool.eq_false_iff, ne_eq, raiseDue_iff]
    simp [hkept, hraise]
  rw [windowPlanned, hpoint, startRaise_not_due hdue]
  exact ⟨by simpa using hkept, by simpa using (claimMoved_line s).2.1⟩

theorem windowPlanned_silent (h : s.od.restartPending = true) :
    (windowPlanned s).link = s.link ∧ (windowPlanned s).ssu.announced = s.ssu.announced := by
  rw [windowPlanned, startRaise_silent (.inl (by simpa using h)), claimPoint_silent (.inl h)]
  simp [claimMoved]

/-- What the window's plan reads is what the claim point finds, but for the claim. -/
theorem windowPlanned_lpd :
    (windowPlanned s).lpd.loads = (planConverted (claimPoint s)).loads ∧
      (windowPlanned s).lpd.shed = (planConverted (claimPoint s)).shed ∧
      (windowPlanned s).lpd.pool =
        (if s.od.power = .standby ∨ doorOpen s = true then 0
         else ((windowPlanned s).ssu.claim - s.config.aux) * 10) ∧
      (windowPlanned s).lpd.pool = poolOf (claimPoint s) := by
  simp [windowPlanned, planWindow_eq, poolOf, doorOpen]

end

/-- A load's run of half-cycles begins 25 half-cycles later for each place of the plan order (R77). -/
theorem fires_eq (k n i : Nat) : fires k n i = decide ((-25 * (k : Int) + i) % 100 < n) := by
  simp only [fires]
  exact decide_eq_decide.2 (by omega)

theorem decideGates_get (s : State) (i : LoadId) :
    (decideGates s).lpd.gates.get i =
      (decide ((-25 * ((s.lpd.loads.get i).position : Int) + s.lpd.half) % 100 < (s.lpd.loads.get i).count) &&
        !interlocked s i) := by
  have hgate : (decideGates s).lpd.gates.get i = gateOf s i := by cases i <;> rfl
  rw [hgate, gateOf, fires_eq]

/-- Outside the link unit, the supply sharing unit, the planner and the POWER hold nothing has moved. -/
def withinWindow (s t : State) : Prop :=
  ∃ l u d p, t = { s with link := l, ssu := u, lpd := d, re.holds.power := p }

theorem withinWindow.eq {s t : State} (h : withinWindow s t) :
    t = { s with link := t.link, ssu := t.ssu, lpd := t.lpd, re.holds.power := t.re.holds.power } := by
  obtain ⟨l, u, d, p, rfl⟩ := h
  rfl

theorem withinWindow.trans {s t u : State} (h : withinWindow s t) (k : withinSupply t u) : withinWindow s u := by
  obtain ⟨_, _, _, _, rfl⟩ := h
  obtain ⟨_, _, _, rfl⟩ := k
  exact ⟨_, _, _, _, rfl⟩

/-- A change of the planner alone stays within the window's blocks. -/
theorem withinWindow.setPlanner {s t : State} (h : withinWindow s t) (d : Planner) :
    withinWindow s { t with lpd := d } := by
  obtain ⟨_, _, _, _, rfl⟩ := h
  exact ⟨_, _, _, _, rfl⟩

theorem withinWindow_windowPlanned {s s0 : State} (h : withinWindow s s0) :
    withinWindow s (decideGates (windowPlanned s0)) :=
  .setPlanner (.trans (.setPlanner (h.trans (withinSupply_claimPoint s0)) (planWindow (claimPoint s0)).lpd)
    (withinSupply_startRaise _)) _

/-- Settles O42: the claim point's part, and the plan's load by load. -/
theorem windowWithinPool : Obligations.WindowWithinPool := by
  intro iv m s hrun hdrive hmains hband hhalf hshed R waits raised
  let s0 : State := { s with lpd.sinceCrossing := 0, lpd.half := 0 }
  have hexec : exec (.zeroCrossing iv) s = .next (decideGates (windowPlanned s0)) := by
    refine exec_next rfl hrun ?_
    have hregular : regularBand m = bandLimits m := by cases m <;> rfl
    have haccepted : ¬ iv < (regularBand m).1 := by rw [hregular]; omega
    simp [crossing, hdrive, bandOf, hmains, haccepted, acceptCrossing, hhalf, windowStart, windowPlanned, s0]
  obtain ⟨hod, hmu, hpu, hsgc, hhalf0, hclaim⟩ := windowPlanned_line s0
  have hwaits : raiseWaits s0 = true ↔ waits := raiseWaits_iff s
  have hclaim : (decideGates (windowPlanned s0)).ssu.claim = min raised (allowance s) := by
    simp only [decideGates_keeps]
    exact hclaim
  refine ⟨_, hexec, by simpa using hhalf0, hclaim, fun hr hl => ?_, fun hraise hw => ?_, fun hr => ?_, ?_, ?_, ?_⟩
  · intro offered
    have hoffers : offered ↔ claimPointOffers s0 := by
      simp only [offered, hclaim, claimPointOffers, hwaits]
      rfl
    simp only [decideGates_keeps] at hclaim ⊢
    refine ⟨fun ho hraise => ?_, fun ho hq => ?_, fun ho hraise => ?_⟩
    · rw [hclaim]
      exact (windowPlanned_offers s0 (hoffers.1 ho) hr hl).1 hraise
    · refine ⟨_, (windowPlanned_offers s0 (hoffers.1 ho) hr hl).2 hq, ?_⟩
      obtain ⟨-, -, hW, hF, hod, hconfig, -⟩ := claimMoved_line s0
      rw [hclaim]
      simp only [Frame.fresh, ordinaryNotice_eq, hW, hF, hod, hconfig]
      rfl
    · exact windowPlanned_quiet s0 (fun h => ho (hoffers.2 h)) hraise
  · simp only [decideGates_keeps]
    exact windowPlanned_progress s0 hraise (by rw [Bool.eq_false_iff, ne_eq, hwaits]; exact hw)
  · simp only [decideGates_keeps]
    exact windowPlanned_silent s0 hr
  · simp only [decideGates_keeps]
    exact (windowPlanned_lpd s0).2.2.1
  · intro l before x givenUp shed
    let c := claimPoint s0
    have hcshed : c.lpd.shed ≤ 65535 := by simpa [c, s0] using hshed
    have hinter (i : LoadId) : interlocked c i = interlocked s i :=
      interlocked_congr (s := s0) (by simp [c]) (by simp [c]) (by simp [c]) (by simp [c]) i
    obtain ⟨hloads, hshed', -, hpool⟩ := windowPlanned_lpd s0
    have hloads : (decideGates (windowPlanned s0)).lpd.loads = (planConverted c).loads := by
      simp only [decideGates_keeps, hloads, c]
    have hpool : (decideGates (windowPlanned s0)).lpd.pool = poolOf c := by simp only [decideGates_keeps, hpool, c]
    have hload := planConverted_load hcshed
    have hwithin := planConverted_within hcshed
    have hgiven := planConverted_shed hcshed
    simp only [hinter, planOrder_eq, ← hpool, ← hloads] at hload hwithin hgiven
    simp only [c, claimPoint_keeps] at hload hwithin hgiven
    refine ⟨hwithin, fun i => ?_, ?_⟩
    · obtain ⟨hplace, hdemand, hgrant, hlimited, hoff, hon⟩ := hload i
      have hgate : (decideGates (windowPlanned s0)).lpd.gates.get i =
          (decide ((-25 * ((l i).position : Int)) % 100 < (l i).count) && !interlocked s i) := by
        rw [decideGates_get, interlocked_congr (s := s0) hod hmu hpu hsgc, hhalf0, Nat.cast_zero, add_zero]
        rfl
      rw [hdemand]
      refine ⟨hplace, rfl, hgrant, hlimited, fun h => ?_, fun h => ?_⟩
      · obtain ⟨hcount, hcarry⟩ := hoff h
        exact ⟨hcount, hcarry, by rw [hgate, h]; simp⟩
      · obtain ⟨hcount, hcarry⟩ := hon h
        exact ⟨hcount, hcarry, by rw [hgate, h]; simp⟩
    · have htaken : (decideGates (windowPlanned s0)).lpd.shed = min (s.lpd.shed + shed) 65535 := by
        simp only [decideGates_keeps, hshed']
        exact hgiven
      rw [htaken]
      split <;> omega
  · exact (withinWindow_windowPlanned (s := s) (s0 := s0) ⟨_, _, _, _, rfl⟩).eq

end Sys2Proof.Machine.Sharing
end

section
/-! The regulator step (R101 to R110): RegulatorStepFollowsRules. -/

namespace Sys2Proof.Machine.Sharing

/-! ### One step of one regulator (R102 to R106) -/

theorem clampInt_eq {lo hi : Int} (h : lo ≤ hi) (x : Int) : clampInt lo hi x = max lo (min hi x) := by
  unfold clampInt
  (repeat' split) <;> omega

theorem regOutput_eq (p : Int) (i : Nat) : (regOutput p i : Int) = max 0 (min 1000 (p + (i : Int) / 256)) := by
  rw [regOutput, clampInt_eq (by omega)]
  omega

theorem regHeld_iff (x : StepInput) (last : Nat) (e : Int) :
    regHeld x last e = true ↔
      (last = 1000 ∧ 0 < e) ∨ (last = 0 ∧ e < 0) ∨ (0 < e ∧ x.limited = true) ∨ x.doorOpen = true ∨
        (0 < e ∧ x.starved = true) ∨ (x.noSteam = true ∧ 0 < e) := by
  simp [regHeld, or_assoc]

/-- The model's step of a regulator is the manual's. -/
theorem regStep_moves (x : StepInput) (c : RegContext) :
    regulatorMoves x.setpoint x.measured x.kp x.ki (x.limited = true) (x.doorOpen = true) (x.starved = true)
      (x.noSteam = true) c (regStep x c) := by
  refine ⟨fun hnone => by simp [regStep, hnone], fun m hm => ?_⟩
  have herror : regError x.setpoint m = max (-500) (min 500 (x.setpoint - m)) := clampInt_eq (by omega) _
  intro e p out held raw
  have hheld : regHeld x c.output e = true ↔ held := regHeld_iff x c.output e
  have hstep : regStep x c =
      if regHeld x c.output e then
        { error := e, integrator := c.integrator, output := regOutput p c.integrator, holds := bump c.holds }
      else
        { error := e, integrator := (clampInt 0 256000 raw).toNat, output := regOutput p (clampInt 0 256000 raw).toNat,
          holds := if raw < 0 ∨ 256000 < raw then bump c.holds else c.holds } := by
    simp only [regStep, hm, herror]
    rfl
  by_cases h : held
  · rw [hstep, if_pos (hheld.2 h)]
    exact ⟨rfl, regOutput_eq _ _, fun _ => ⟨rfl, rfl⟩, fun hn => absurd h hn⟩
  · rw [hstep, if_neg (fun hb => h (hheld.1 hb))]
    refine ⟨rfl, regOutput_eq _ _, fun hh => absurd hh h, fun _ => ⟨?_, rfl⟩⟩
    change ((clampInt 0 256000 raw).toNat : Int) = max 0 (min 256000 raw)
    rw [clampInt_eq (by omega)]
    omega

/-! ### The mode table -/

theorem gains_eq (m : Mode) : gains m = (m.kp, m.ki) := by cases m <;> rfl

theorem shares_eq (m : Mode) : shares m = (m.split .top, m.split .bottom, m.split .ring) := by cases m <;> rfl

theorem ownLimited_iff (s : State) (m : Mode) :
    ownLimited s m = true ↔ ∃ i ∈ ownLoads m, (s.lpd.loads.get i).limited = true := by
  cases m <;> simp [ownLimited, ownLoads, Mode.owns]

/-! ### What a step hands on -/

/-- Outside the regulators, their loads, the vent and the steam demand nothing has moved. -/
def withinStep (s t : State) : Prop :=
  ∃ ls tc hc v d, t = { s with lpd.loads := ls, cr.temperature := tc, cr.humidity := hc, cr.ventOpen := v,
                               sgc.steamDemand := d }

theorem withinStep_writeElements {s t : State} (h : withinStep s t) (a b c : Nat) :
    withinStep s (writeElements a b c t) := by
  obtain ⟨_, _, _, _, _, rfl⟩ := h
  exact ⟨_, _, _, _, _, rfl⟩

theorem withinStep_handSteam {s t : State} (h : withinStep s t) (u : Nat) : withinStep s (handSteam u t) := by
  obtain ⟨_, _, _, _, _, rfl⟩ := h
  rw [handSteam, handSteamDemand, writeHeater]
  split_ifs <;> exact ⟨_, _, _, _, _, rfl⟩

theorem withinStep_judgeVent {s t : State} (h : withinStep s t) : withinStep s (judgeVent t) := by
  obtain ⟨_, _, _, _, _, rfl⟩ := h
  exact ⟨_, _, _, _, _, rfl⟩

/-- The contexts have stepped and the elements have their demands, the steam not yet (R101 to R107). -/
def elementsStepped (r : Request) (s : State) : State :=
  writeElements (share (stepTemperature r s).output r.mode .top) (share (stepTemperature r s).output r.mode .bottom)
    (share (stepTemperature r s).output r.mode .ring)
    { s with cr.temperature := stepTemperature r s, cr.humidity := stepHumidity r s }

theorem withinStep_elementsStepped (r : Request) (s : State) : withinStep s (elementsStepped r s) :=
  withinStep_writeElements ⟨_, _, _, _, _, rfl⟩ _ _ _

theorem stepRegulators_steam {r : Request} (h : r.mode = .steam) (s : State) :
    stepRegulators r s = handSteam (stepTemperature r s).output (elementsStepped r s) := by
  simp only [stepRegulators, elementsStepped, h]

theorem stepRegulators_combi {r : Request} (h : r.mode = .combi) (s : State) :
    stepRegulators r s = judgeVent (handSteam (stepHumidity r s).output (elementsStepped r s)) := by
  simp only [stepRegulators, elementsStepped, h]

theorem stepRegulators_dry {r : Request} (h : r.mode ≠ .steam) (k : r.mode ≠ .combi) (s : State) :
    stepRegulators r s = elementsStepped r s := by
  unfold stepRegulators elementsStepped
  dsimp only
  split <;> simp_all

/-- What a step does by mode: with steam, with steam and humidity, or with the elements only. -/
theorem stepRegulators_cases {P : State → Prop} {r : Request} {s : State}
    (steam : r.mode = .steam → P (handSteam (stepTemperature r s).output (elementsStepped r s)))
    (combi : r.mode = .combi → P (judgeVent (handSteam (stepHumidity r s).output (elementsStepped r s))))
    (dry : r.mode ≠ .steam → r.mode ≠ .combi → P (elementsStepped r s)) : P (stepRegulators r s) := by
  by_cases h : r.mode = .steam
  · exact stepRegulators_steam h s ▸ steam h
  by_cases k : r.mode = .combi
  · exact stepRegulators_combi k s ▸ combi k
  · exact stepRegulators_dry h k s ▸ dry h k

theorem withinStep_stepRegulators (r : Request) (s : State) : withinStep s (stepRegulators r s) :=
  have hwithin := withinStep_elementsStepped r s
  stepRegulators_cases (fun _ => withinStep_handSteam hwithin _)
    (fun _ => withinStep_judgeVent (withinStep_handSteam hwithin _)) (fun _ _ => hwithin)

theorem stepRegulators_contexts (r : Request) (s : State) :
    (stepRegulators r s).cr.temperature = stepTemperature r s ∧
      (stepRegulators r s).cr.humidity = stepHumidity r s :=
  stepRegulators_cases (P := fun t => t.cr.temperature = stepTemperature r s ∧ t.cr.humidity = stepHumidity r s)
    (fun _ => by simp [elementsStepped]) (fun _ => by simp [elementsStepped]) (fun _ _ => by simp [elementsStepped])

theorem stepRegulators_elements (r : Request) (s : State) :
    (stepRegulators r s).lpd.loads.top.demand = share (stepTemperature r s).output r.mode .top ∧
      (stepRegulators r s).lpd.loads.bottom.demand = share (stepTemperature r s).output r.mode .bottom ∧
      (stepRegulators r s).lpd.loads.ring.demand = share (stepTemperature r s).output r.mode .ring := by
  have hstepped : (elementsStepped r s).lpd.loads.top.demand = share (stepTemperature r s).output r.mode .top ∧
      (elementsStepped r s).lpd.loads.bottom.demand = share (stepTemperature r s).output r.mode .bottom ∧
      (elementsStepped r s).lpd.loads.ring.demand = share (stepTemperature r s).output r.mode .ring := by
    simp [elementsStepped, writeElements, writeDemand, Loads.set]
  exact stepRegulators_cases
    (P := fun t => t.lpd.loads.top.demand = share (stepTemperature r s).output r.mode .top ∧
      t.lpd.loads.bottom.demand = share (stepTemperature r s).output r.mode .bottom ∧
      t.lpd.loads.ring.demand = share (stepTemperature r s).output r.mode .ring)
    (fun _ => by simpa using hstepped) (fun _ => by simpa using hstepped) (fun _ _ => hstepped)

/-! ### The steam demand, the vent and the heater -/

theorem steamShould_elementsStepped {r : Request} {s : State} (hr : s.cr.request = some r)
    (h : r.mode.steams = true) : steamShould (elementsStepped r s) = !s.pu.trips.boilerDry := by
  simp [steamShould, elementsStepped, hr, h]

theorem stepRegulators_vent {r : Request} {s : State} (hr : s.cr.request = some r) (h : r.mode = .combi) :
    (stepRegulators r s).cr.ventOpen = ventFor (some r) s.mu.hum.value := by
  simp [stepRegulators_combi h, judgeVent, elementsStepped, hr]

theorem stepRegulators_vent_kept {r : Request} (h : r.mode ≠ .combi) (s : State) :
    (stepRegulators r s).cr.ventOpen = s.cr.ventOpen := by
  by_cases k : r.mode = .steam
  · simp [stepRegulators_steam k, elementsStepped]
  · simp [stepRegulators_dry k h, elementsStepped]

theorem heaterOf_eq (s : State) : heaterOf s = heaterDemand s := by
  unfold heaterOf heaterDemand baseDemand lowWet boilerValue
  cases s.mu.boiler.value <;> cases s.sgc.state <;> simp [Reading.isValue]

theorem handSteamDemand_steamDemand (d : Nat) (s : State) : (handSteamDemand d s).sgc.steamDemand = d := by
  unfold handSteamDemand writeHeater
  split <;> simp

/-- The steam demand handed over is kept, and under the user CLIMATE the heater demand written from it (R120, R121). -/
theorem handSteamDemand_heater (d : Nat) (s : State) :
    (s.sgc.user = .climate →
      (handSteamDemand d s).lpd.loads.steamHeater.demand = heaterDemand (handSteamDemand d s)) ∧
    (s.sgc.user ≠ .climate → (handSteamDemand d s).lpd.loads.steamHeater = s.lpd.loads.steamHeater) := by
  refine ⟨fun h => ?_, fun h => by simp [handSteamDemand, writeHeater, h]⟩
  have hsame : heaterDemand (handSteamDemand d s) = heaterDemand { s with sgc.steamDemand := d } := by
    simp [heaterDemand, baseDemand, boilerValue, lowWet, handSteamDemand_steamDemand]
  rw [hsame, handSteamDemand, writeHeater_demand]
  exact h

theorem handSteam_steamDemand {r : Request} {s : State} (hr : s.cr.request = some r) (h : r.mode.steams = true)
    (u : Nat) : (handSteam u (elementsStepped r s)).sgc.steamDemand = if s.pu.trips.boilerDry then 0 else u := by
  rw [handSteam, handSteamDemand_steamDemand, steamShould_elementsStepped hr h]
  cases s.pu.trips.boilerDry <;> rfl

/-- The steam demand by mode (R108). -/
theorem stepRegulators_steamDemand {r : Request} {s : State} (hr : s.cr.request = some r) :
    (r.mode = .steam → (stepRegulators r s).sgc.steamDemand =
      if s.pu.trips.boilerDry then 0 else (stepTemperature r s).output) ∧
    (r.mode = .combi → (stepRegulators r s).sgc.steamDemand =
      if s.pu.trips.boilerDry then 0 else (stepHumidity r s).output) ∧
    (r.mode ≠ .steam → r.mode ≠ .combi → (stepRegulators r s).sgc.steamDemand = s.sgc.steamDemand) := by
  refine ⟨fun h => ?_, fun h => ?_, fun h k => ?_⟩
  · rw [stepRegulators_steam h, handSteam_steamDemand hr (by simp [h, Mode.steams])]
  · rw [← handSteam_steamDemand hr (by simp [h, Mode.steams]), stepRegulators_combi h, judgeVent]
  · simp [stepRegulators_dry h k, elementsStepped]

theorem stepRegulators_heater (r : Request) (s : State) :
    ((r.mode = .steam ∨ r.mode = .combi) ∧ s.sgc.user = .climate →
      (stepRegulators r s).lpd.loads.steamHeater.demand = heaterOf (stepRegulators r s)) ∧
    (¬ ((r.mode = .steam ∨ r.mode = .combi) ∧ s.sgc.user = .climate) →
      (stepRegulators r s).lpd.loads.steamHeater = s.lpd.loads.steamHeater) := by
  have huser : (elementsStepped r s).sgc.user = s.sgc.user := by simp [elementsStepped]
  have hheater : (elementsStepped r s).lpd.loads.steamHeater = s.lpd.loads.steamHeater := by simp [elementsStepped]
  obtain hsteam | hdry := em (r.mode = .steam ∨ r.mode = .combi)
  · obtain ⟨u, v, hu⟩ : ∃ u v, stepRegulators r s =
        { handSteam u (elementsStepped r s) with cr.ventOpen := v } := by
      obtain h | h := hsteam
      · exact ⟨_, _, stepRegulators_steam h s⟩
      · exact ⟨_, _, stepRegulators_combi h s⟩
    have hhand := handSteamDemand_heater (if steamShould (elementsStepped r s) then u else 0) (elementsStepped r s)
    rw [huser, hheater, ← handSteam] at hhand
    rw [heaterOf_eq, hu]
    exact ⟨fun h => hhand.1 h.2, fun h => hhand.2 fun hc => h ⟨hsteam, hc⟩⟩
  · rw [stepRegulators_dry (fun h => hdry (.inl h)) (fun h => hdry (.inr h))]
    exact ⟨fun h => absurd h.1 hdry, fun _ => hheater⟩

/-! ### The obligation -/

theorem stepTemperature_moves (r : Request) (s : State) :
    regulatorMoves r.cavity s.mu.regulated (gains r.mode).1 (gains r.mode).2
      (∃ i ∈ ownLoads r.mode, (s.lpd.loads.get i).limited = true) (doorOpen s = true) (s.ssu.starved = true)
      (r.mode = .steam ∧ s.sgc.state ≠ .steam) s.cr.temperature (stepTemperature r s) := by
  have hmoves := regStep_moves (temperatureInput r s) s.cr.temperature
  simpa [stepTemperature, temperatureInput, gains_eq, ownLimited_iff] using hmoves

theorem stepHumidity_moves {r : Request} (h : r.mode = .combi) (s : State) :
    regulatorMoves ((r.humidity.getD 0 : Nat) : Int) s.mu.hum.value.toOption 768 24
      (s.lpd.loads.steamHeater.limited = true) (doorOpen s = true) (s.ssu.starved = true) (s.sgc.state ≠ .steam)
      s.cr.humidity (stepHumidity r s) := by
  have hmoves := regStep_moves (humidityInput r s) s.cr.humidity
  simpa [stepHumidity, h, humidityInput] using hmoves

/-- The frame of the tick: the regulators' step and the allowance computation after it. -/
theorem regulatorTick_frame {s u : State} (h : withinStep s u) :
    compute u = { s with
      link := (compute u).link, ssu := (compute u).ssu, lpd.loads := (compute u).lpd.loads,
      cr.temperature := (compute u).cr.temperature, cr.humidity := (compute u).cr.humidity,
      cr.ventOpen := (compute u).cr.ventOpen, sgc.steamDemand := (compute u).sgc.steamDemand,
      re.holds.power := (compute u).re.holds.power } := by
  obtain ⟨_, _, _, heq⟩ := withinSupply_compute u
  rw [heq]
  obtain ⟨_, _, _, _, _, rfl⟩ := h
  rfl

/-- Settles O47: the step of each regulator, what it hands on by mode, and the tick's allowance computation. -/
theorem regulatorStepFollowsRules : Obligations.RegulatorStepFollowsRules := by
  intro s hrun
  obtain ⟨u, hu⟩ : ∃ u, u = match s.cr.request with
    | some r => stepRegulators r s
    | none => s := ⟨_, rfl⟩
  have htick : regulatorTick s = compute u := by
    rw [hu]
    rfl
  have hwithin : withinStep s u := by
    rw [hu]
    split
    · exact withinStep_stepRegulators _ _
    · exact ⟨_, _, _, _, _, rfl⟩
  have hallowance : (compute u).ssu.lastA = allowance (compute u) := by
    rw [allowance_congr ((withinSupply_compute u).sameInputs (by simp))]
    exact (computedFrom_compute u).1
  have hkept : (compute u).ssu.claim = s.ssu.claim ∧ (compute u).ssu.peers = s.ssu.peers := by
    obtain ⟨_, _, _, _, _, rfl⟩ := hwithin
    simp
  have hcr : (compute u).cr = u.cr := by simp
  have hlpd : (compute u).lpd = u.lpd := by simp
  have hsgc : (compute u).sgc = u.sgc := by simp
  refine ⟨compute u, exec_next rfl hrun htick, hallowance, hkept.1, hkept.2, regulatorTick_frame hwithin, ?_, ?_⟩
  · intro hnone
    have hus : u = s := by rw [hu, hnone]
    exact ⟨by rw [hcr, hus], by rw [hlpd, hus], by rw [hsgc, hus]⟩
  intro r hr
  have hur : u = stepRegulators r s := by rw [hu, hr]
  obtain ⟨htemp, hhum⟩ := stepRegulators_contexts r s
  obtain ⟨htop, hbottom, hring⟩ := stepRegulators_elements r s
  obtain ⟨hsteam, hcombi, hdry⟩ := stepRegulators_steamDemand hr
  have hheaterOf : heaterOf (compute u) = heaterOf u := by simp [heaterOf]
  rw [hheaterOf, hcr, hlpd, hsgc, hur, htemp, hhum, htop, hbottom, hring, shares_eq]
  refine ⟨stepTemperature_moves r s, fun h => stepHumidity_moves h s, fun h => ?_, rfl, rfl, rfl, ?_,
    fun h v hv => ?_, fun h hv => ?_, stepRegulators_heater r s⟩
  · exact ⟨by simp [stepHumidity, h], stepRegulators_vent_kept h s⟩
  · cases hm : r.mode with
    | steam => exact hsteam hm
    | combi => exact hcombi hm
    | convection | topBottom | grill | keepWarm => exact hdry (by simp [hm]) (by simp [hm])
  · simp [stepRegulators_vent hr h, ventFor, h, hv]
  · rw [stepRegulators_vent hr h]
    cases hm : s.mu.hum.value with
    | value v => exact absurd hm (hv v)
    | invalid | absent => simp [ventFor, h]

end Sys2Proof.Machine.Sharing
end

section
/-! The gates, which zero crossings alone bring on (R78, R79): OnlyCrossingsDriveGates. -/

namespace Sys2Proof.Machine.Planning

open Sharing

/-! ### The gates under each operation -/

/-- The gates have not moved, or every one is off. -/
def gatesNotRaised (s t : State) : Prop := t.lpd.gates = s.lpd.gates ∨ t.lpd.gates = .off

theorem gatesNotRaised.get {s t : State} (h : gatesNotRaised s t) {i : LoadId} (hi : t.lpd.gates.get i = true) :
    t.lpd.gates.get i = s.lpd.gates.get i := by
  obtain h | h := h
  · rw [h]
  · simp [h] at hi

theorem gatesNotRaised.refl (s : State) : gatesNotRaised s s := .inl rfl

theorem gatesNotRaised_whenRunning {f : State → State} {s : State} (h : gatesNotRaised s (f s)) :
    gatesNotRaised s (whenRunning f s) := by
  unfold whenRunning
  split
  · exact h
  · exact .refl s

theorem gatesNotRaised_powerOn (config : Option (List Byte)) (retained : RetainedRead) (s : State) :
    gatesNotRaised s (powerOn config retained s) := by
  unfold powerOn
  dsimp only
  split <;> exact .inr (by simp [powerUp, State.reset, Planner.reset])

/-- A restart ends the window (R82). -/
theorem restartBlocks_gates (s : State) : (restartBlocks s).lpd.gates = .off := by
  simp [restartBlocks, restartPlanner, Planner.reset]

theorem restartEffect_gates (s : State) : (restartEffect s).lpd.gates = .off := by
  simp [restartEffect, restartBlocks_gates]

theorem gatesNotRaised_acceptRestart (s : State) : gatesNotRaised s (acceptRestart s) := by
  unfold acceptRestart
  (repeat' split)
  · exact .refl s
  · unfold beginRestart
    dsimp only
    split
    · exact .inl (by simp)
    · exact .inr (restartEffect_gates _)
  · exact .inr (restartBlocks_gates _)

theorem gatesNotRaised_runOrder {α : Type} {sender : Addr} {parsed : Option α} {busy : Bool}
    {refusal : α → Option Reason} {act : α → State} {s : State} (h : ∀ a, (act a).lpd.gates = s.lpd.gates) :
    gatesNotRaised s (runOrder sender parsed busy refusal act s) := by
  obtain ⟨c, -, heq⟩ | ⟨a, -, -, -, -, -, heq⟩ := runOrder_cases sender parsed busy refusal act s
  · exact .inl (by simp [heq])
  · exact .inl (by simp [heq, h])

theorem gatesNotRaised_orderRestart (a : Addr) (args : List Byte) (s : State) :
    gatesNotRaised s (orderRestart a args s) := by
  unfold orderRestart
  (repeat' split)
  · exact .inl (by simp)
  · exact .inl (by simp)
  · exact (gatesNotRaised_acceptRestart s).imp (fun h => by simp [h]) (fun h => by simp [h])

theorem gatesNotRaised_orderArrives (a : Addr) (payload : List Byte) (s : State) :
    gatesNotRaised s (orderArrives a payload s) := by
  unfold orderArrives
  split
  · exact gatesNotRaised_runOrder fun _ => rfl
  · split
    case h_3 => exact gatesNotRaised_orderRestart a _ s
    all_goals exact gatesNotRaised_runOrder fun _ => by simp

theorem gatesNotRaised_frameArrives (chars : List Byte) (s : State) : gatesNotRaised s (frameArrives chars s) := by
  have huse (t : Taken) {u : State} (hu : u.lpd.gates = s.lpd.gates) : gatesNotRaised s (takeFrame t u) := by
    unfold takeFrame useFrame
    (repeat' split)
    · exact .inl (by simp [hu])
    · exact .inl (by simp [hu])
    · exact (gatesNotRaised_orderArrives _ _ _).imp_left (fun h => h.trans (by simp [hu]))
    · exact .inl (by simp [hu])
    · exact .inl (by simp [hu])
    · exact .inl (by simp [hu])
  unfold frameArrives judgeFrame
  (repeat' split)
  · exact .inl (by simp)
  · exact huse _ (by simp)
  · exact huse _ (by simp)
  · exact .inl (by simp)
  · exact .refl s

theorem gatesNotRaised_noticeLeft (f : Frame) (sent : Bool) (s : State) : gatesNotRaised s (noticeLeft f sent s) := by
  unfold noticeLeft
  (repeat' split)
  · exact .inr (restartEffect_gates s)
  all_goals exact .inl (by simp)

theorem gatesNotRaised_collide (s : State) : gatesNotRaised s (collide s) := by
  unfold collide
  split
  · dsimp only
    split
    · exact (gatesNotRaised_noticeLeft _ _ _).imp_left (fun h => h.trans (by simp))
    · exact .inl (by simp)
  · exact .refl s

theorem gatesNotRaised_frameGone (s : State) : gatesNotRaised s (frameGone s) := by
  unfold frameGone
  (repeat' split)
  · exact (gatesNotRaised_noticeLeft _ _ _).imp_left (fun h => h.trans rfl)
  · exact .inl rfl
  · exact .refl s

theorem gatesNotRaised_mainsLost (s : State) : gatesNotRaised s (mainsLost s) := by
  unfold mainsLost
  split
  · exact .inr rfl
  · exact .refl s

/-- Every command but a zero crossing leaves the gates as they are or turns every one off. -/
theorem gatesNotRaised_exec {c : Instr} {s t : State} (h : exec c s = .next t) (hc : ∀ iv, c ≠ .zeroCrossing iv) :
    gatesNotRaised s t := by
  cases c
  case zeroCrossing iv => exact absurd rfl (hc iv)
  case powerOn => obtain rfl := Host.Outcome.next.inj h; exact gatesNotRaised_powerOn _ _ s
  case powerFailure => obtain rfl := Host.Outcome.next.inj h; exact .inr rfl
  all_goals
    obtain rfl := Host.Outcome.next.inj h
    refine gatesNotRaised_whenRunning ?_
  case frameReceived => exact gatesNotRaised_frameArrives _ s
  case restart => exact gatesNotRaised_orderRestart _ _ s
  case orderMalformedCode | wake | sleep | setClimate | stopClimate | loadOpen | loadStage | loadClose | loadAbandon
      | recipeStart | recipeConfirm | recipeSkip | recipeAbort | descaleStart | descaleConfirm | descaleAbort
      | setHardness | dropPeer | clearTrip | drainNow =>
    exact gatesNotRaised_runOrder fun _ => by simp
  case collisionDetected => exact gatesNotRaised_collide s
  case frameSent => exact gatesNotRaised_frameGone s
  case mainsTimeout => exact gatesNotRaised_mainsLost s
  all_goals exact .inl (by simp)

/-! ### What a crossing does with the gates -/

/-- The gates of a running drive were decided on the state as it stands: none is on under an interlock (R78, R79). -/
def gatesDecided (t : State) : Prop :=
  t.lpd.drive = .running ∧ ∀ i, t.lpd.gates.get i = true → interlocked t i = false

theorem gatesDecided_decideGates {s : State} (h : s.lpd.drive = .running) : gatesDecided (decideGates s) := by
  refine ⟨by simpa using h, fun i hi => ?_⟩
  rw [decideGates_get, Bool.and_eq_true, Bool.not_eq_true'] at hi
  rw [interlocked_congr (s := s) (by simp) (by simp) (by simp) (by simp)]
  exact hi.2

theorem gatesDecided_windowStart {s : State} (h : s.lpd.drive = .running) : gatesDecided (windowStart s) :=
  gatesDecided_decideGates (by simpa using h)

theorem gatesDecided_acceptCrossing {s : State} (h : s.lpd.drive = .running) : gatesDecided (acceptCrossing s) := by
  unfold acceptCrossing
  dsimp only
  split
  · exact gatesDecided_windowStart h
  · exact gatesDecided_decideGates h

theorem gatesDecided_enterRunning (s : State) : gatesDecided (enterRunning s) := gatesDecided_windowStart rfl

/-- A crossing leaves the gates alone, or decides them in RUNNING (R65, R66, R69). -/
theorem crossing_gates (iv : Nat) (s : State) :
    (crossing iv s).lpd.gates = s.lpd.gates ∨ gatesDecided (crossing iv s) := by
  unfold crossing
  split
  next =>
    unfold measureCrossing
    dsimp only
    (repeat' split)
    · exact .inl rfl
    · exact .inr (gatesDecided_enterRunning _)
    · exact .inl rfl
  next hrunning =>
    split
    · exact .inl rfl
    · exact .inr (gatesDecided_acceptCrossing hrunning)
  next =>
    unfold recoverCrossing
    (repeat' split)
    · exact .inl rfl
    · exact .inl rfl
    · exact .inr (gatesDecided_enterRunning s)
    · exact .inl rfl

theorem heaterOff_eq_false_iff (b : BoilerState) :
    b.heaterOff = false ↔ b ∈ ([.fill, .heat, .steam, .refill] : List BoilerState) := by
  cases b <;> decide

/-- The interlocks of a load, in the words of R79. -/
theorem interlocked_eq_false_iff (s : State) (i : LoadId) :
    interlocked s i = false ↔
      s.od.power ≠ .standby ∧ s.mu.door.published = some false ∧ s.pu.trips.lock = false ∧
        (i = .steamHeater →
          s.mu.levelLow.published = some true ∧ s.sgc.state ∈ ([.fill, .heat, .steam, .refill] : List BoilerState) ∧
            s.pu.trips.boilerDry = false) ∧
        (i ≠ .steamHeater → s.pu.trips.cavityOvertemp = false ∧ s.pu.trips.sensor = false) := by
  rw [← heaterOff_eq_false_iff]
  cases i <;> simp [interlocked, doorOpen, lowWet, and_assoc]

/-- Settles O43: only a zero crossing decides gates, in RUNNING, and it lets none on under an interlock. -/
theorem onlyCrossingsDriveGates : Obligations.OnlyCrossingsDriveGates := by
  intro c s t i h hi
  by_cases hc : ∃ iv, c = .zeroCrossing iv
  · obtain ⟨iv, rfl⟩ := hc
    obtain rfl := Host.Outcome.next.inj h
    by_cases hrun : s.run = .running
    · rw [whenRunning_of_running hrun] at hi ⊢
      obtain hkept | ⟨hdrive, hfree⟩ := crossing_gates iv s
      · exact .inl (by rw [hkept])
      · exact .inr ⟨⟨iv, rfl⟩, hdrive, (interlocked_eq_false_iff _ i).1 (hfree i hi)⟩
    · exact .inl (by rw [whenRunning_of_stopped hrun])
  · exact .inl ((gatesNotRaised_exec h fun iv hiv => hc ⟨iv, hiv⟩).get hi)

end Sys2Proof.Machine.Planning
end

section
/-! Zero crossings and their absence, in each drive state (R65 to R69, R77, R78): CrossingsCountHalfCycles. -/

namespace Sys2Proof.Machine.Planning

open Sharing

/-! ### Bands and half-cycles -/

theorem regularBand_eq (m : Mains) : regularBand m = bandLimits m := by cases m <;> rfl

theorem bandOf_of_mains {s : State} {m : Mains} (h : s.mu.mains = some m) : bandOf s = bandLimits m := by
  simp [bandOf, h, regularBand_eq]

/-- The mean of 20 intervals is 9.17 ms or more exactly where their sum is 183.4 ms or more (R65). -/
theorem mainsOf_eq (sum : Nat) : mainsOf sum = if 183400 ≤ sum then .hz50 else .hz60 := by
  simp only [mainsOf, show (9170 ≤ sum / 20) ↔ 183400 ≤ sum by omega]

theorem enterRunning_begins (s : State) :
    (enterRunning s).lpd.drive = .running ∧ (enterRunning s).lpd.half = 0 ∧ (enterRunning s).mu = s.mu := by
  simp [enterRunning, windowStart]

/-- The gates of the half-cycle that an accepted crossing within a window begins (R66, R77, R78). -/
theorem acceptCrossing_within {s : State} (h : s.lpd.half < 99) :
    let gate (i : LoadId) : Bool :=
      let l := s.lpd.loads.get i
      decide (((s.lpd.half : Int) + 1 - 25 * l.position) % 100 < l.count) && !interlocked s i
    acceptCrossing s =
      { s with
        lpd.sinceCrossing := 0, lpd.half := s.lpd.half + 1,
        lpd.gates := ⟨gate .steamHeater, gate .top, gate .bottom, gate .ring⟩ } := by
  intro gate
  have hgate (i : LoadId) :
      gateOf { s with lpd.sinceCrossing := 0, lpd.half := s.lpd.half + 1 } i = gate i := by
    have hfires : (-25 * ((s.lpd.loads.get i).position : Int) + ((s.lpd.half + 1 : Nat) : Int)) =
        (s.lpd.half : Int) + 1 - 25 * (s.lpd.loads.get i).position := by
      push_cast
      ring
    rw [gateOf, fires_eq, hfires]
    rfl
  simp only [acceptCrossing, Nat.not_le.2 h, if_false, decideGates, hgate]

/-! ### A crossing while measuring (R65) -/

section
variable {ref : Bool} {count sum iv : Nat} {s : State}

theorem measureCrossing_restarts (h : ¬ (ref = true ∧ 7000 ≤ iv ∧ iv ≤ 12000)) :
    measureCrossing ref count sum iv s = { s with lpd.drive := .measuring true 0 0, lpd.sinceCrossing := 0 } := by
  simp only [measureCrossing, if_neg h]

theorem measureCrossing_counts (h : ref = true ∧ 7000 ≤ iv ∧ iv ≤ 12000) (hcount : count < 19) :
    measureCrossing ref count sum iv s =
      { s with lpd.drive := .measuring true (count + 1) (sum + iv), lpd.sinceCrossing := 0 } := by
  simp only [measureCrossing, if_pos h, if_pos (show count + 1 < 20 by omega)]

theorem measureCrossing_ends (h : ref = true ∧ 7000 ≤ iv ∧ iv ≤ 12000) (hcount : count = 19) :
    measureCrossing ref count sum iv s =
      enterRunning { s with lpd.sinceCrossing := 0, mu.mains := some (mainsOf (sum + iv)) } := by
  simp only [measureCrossing, if_pos h, if_neg (show ¬ count + 1 < 20 by omega)]

end

/-! ### A crossing with the mains absent (R69) -/

section
variable {band : Nat × Nat} {ref : Bool} {count iv : Nat} {s : State}

theorem recoverCrossing_early (href : ref = true) (h : iv < band.1) : recoverCrossing band ref count iv s = s := by
  simp only [recoverCrossing, if_pos (And.intro href h)]

theorem recoverCrossing_restarts (hband : band.1 ≤ band.2) (h : ref = false ∨ band.2 < iv) :
    recoverCrossing band ref count iv s = { s with lpd.drive := .mainsAbsent true 0, lpd.sinceCrossing := 0 } := by
  have hregular : ¬ (ref = true ∧ iv ≤ band.2) := by
    rintro ⟨rfl, hiv⟩
    have hlate := h.resolve_left (by decide)
    omega
  have hearly : ¬ (ref = true ∧ iv < band.1) := fun ⟨href, hiv⟩ => hregular ⟨href, by omega⟩
  simp only [recoverCrossing, if_neg hearly, if_neg hregular]

theorem recoverCrossing_counts (href : ref = true) (hlow : band.1 ≤ iv) (hhigh : iv ≤ band.2) (hcount : count < 19) :
    recoverCrossing band ref count iv s =
      { s with lpd.drive := .mainsAbsent true (count + 1), lpd.sinceCrossing := 0 } := by
  simp only [recoverCrossing, if_neg (show ¬ (ref = true ∧ iv < band.1) by omega), if_pos (And.intro href hhigh),
    if_pos (show count + 1 < 20 by omega)]

theorem recoverCrossing_ends (href : ref = true) (hlow : band.1 ≤ iv) (hhigh : iv ≤ band.2) (hcount : count = 19) :
    recoverCrossing band ref count iv s = enterRunning s := by
  simp only [recoverCrossing, if_neg (show ¬ (ref = true ∧ iv < band.1) by omega), if_pos (And.intro href hhigh),
    if_neg (show ¬ count + 1 < 20 by omega)]

end

/-! ### The obligation -/

/-- A crossing or a limit of the drive, in a started C40. -/
theorem exec_drive {s : State} (hrun : s.run = .running) :
    (∀ iv, exec (.zeroCrossing iv) s = .next (crossing iv s)) ∧ exec .measureTimeout s = .next (abandonMeasure s) ∧
      exec .mainsTimeout s = .next (mainsLost s) ∧ exec .recoveryTimeout s = .next (abandonRecovery s) :=
  ⟨fun _ => exec_next rfl hrun rfl, exec_next rfl hrun rfl, exec_next rfl hrun rfl, exec_next rfl hrun rfl⟩

/-- Settles O41: the crossing of each drive state against its band and count, and the limit of each. -/
theorem crossingsCountHalfCycles : Obligations.CrossingsCountHalfCycles := by
  intro iv s hrun drive gate
  obtain ⟨hcrossing, hmeasure, hmains, hrecovery⟩ := exec_drive hrun
  rw [hcrossing, hmeasure, hmains, hrecovery]
  refine ⟨fun m hd hm => ?_, fun ref count sum hd => ?_, fun ref count m hd hm => ?_, fun hd => ?_⟩
  · have hcross : crossing iv s = if iv < (bandLimits m).1 then s else acceptCrossing s := by
      simp only [crossing, hd, bandOf_of_mains hm]
    rw [hcross]
    refine ⟨fun hiv => by rw [if_pos hiv], fun hiv hhalf => ?_⟩
    rw [if_neg (by omega), acceptCrossing_within hhalf]
  · have hcross : crossing iv s = measureCrossing ref count sum iv s := by simp only [crossing, hd]
    rw [hcross]
    refine ⟨fun hno => ?_, fun hyes hlt => ?_, fun hyes heq => ?_, ?_, ?_, ?_⟩
    · rw [measureCrossing_restarts hno]
    · rw [measureCrossing_counts hyes hlt]
    · rw [measureCrossing_ends hyes heq, ← mainsOf_eq]
      exact ⟨_, rfl, enterRunning_begins _⟩
    · simp only [abandonMeasure, hd, drive]
    · simp only [mainsLost, hd]
    · simp only [abandonRecovery, hd]
  · have hcross : crossing iv s = recoverCrossing (bandLimits m) ref count iv s := by
      simp only [crossing, hd, bandOf_of_mains hm]
    have hband : (bandLimits m).1 ≤ (bandLimits m).2 := by cases m <;> decide
    rw [hcross]
    refine ⟨fun href hiv => ?_, fun hout => ?_, fun href hlow hhigh hlt => ?_, fun href hlow hhigh heq => ?_, ?_, ?_, ?_⟩
    · rw [recoverCrossing_early href hiv]
    · rw [recoverCrossing_restarts hband hout]
    · rw [recoverCrossing_counts href hlow hhigh hlt]
    · rw [recoverCrossing_ends href hlow hhigh heq]
      exact ⟨_, rfl, enterRunning_begins s⟩
    · simp only [abandonRecovery, hd, drive]
    · simp only [mainsLost, hd]
    · simp only [abandonMeasure, hd]
  · refine ⟨?_, ?_, ?_⟩
    · simp only [mainsLost, hd]
      rfl
    · simp only [abandonMeasure, hd]
    · simp only [abandonRecovery, hd]

end Sys2Proof.Machine.Planning
end

section
/-! The ranges of the regulators, the loads, the shed counter, the account and the hardness under the operations of the
blocks (R64, R76, R100, R105, R137, R139). -/

namespace Sys2Proof.Machine.Planning

open Sharing

/-! ### The ranges -/

/-- The regulators, the loads and the shed counter are in range, and under the derate signal the STEAM_HEATER demand is at
most 600, whatever account the signal follows (R64, R76, R100, R139). -/
def drivenInRange (s : State) : Prop :=
  controlInRange s ∧ (s.sgc.derate = true → s.lpd.loads.steamHeater.demand ≤ 600)

/-- The account and the hardness are in range, and the derate signal follows the account (R137, R139). -/
def accountInRange (s : State) : Prop :=
  s.sdu.account ≤ 400000 ∧ s.sdu.hardness ≤ 40 ∧ s.sgc.derate = derateOf s.sdu.account

/-- All the ranges. -/
def inRanges (s : State) : Prop := drivenInRange s ∧ accountInRange s

theorem inRanges_iff (s : State) : inRanges s ↔ controlInRange s ∧ scaleInRange s := by
  have hderate : s.sgc.derate = derateOf s.sdu.account ↔ (s.sgc.derate = true ↔ 200000 ≤ s.sdu.account) := by
    rw [Bool.eq_iff_iff, derateOf, decide_eq_true_iff]
  simp only [inRanges, drivenInRange, accountInRange, scaleInRange, hderate]
  constructor
  · rintro ⟨⟨hcontrol, hheater⟩, haccount, hhardness, hsignal⟩
    exact ⟨hcontrol, haccount, hhardness, hsignal, fun h => hheater (hsignal.2 h)⟩
  · rintro ⟨hcontrol, haccount, hhardness, hsignal, hheater⟩
    exact ⟨⟨hcontrol, fun h => hheater (hsignal.1 h)⟩, haccount, hhardness, hsignal⟩

/-- Nothing the ranges speak of has moved. -/
def sameRanges (s t : State) : Prop :=
  t.config = s.config ∧ t.cr.temperature = s.cr.temperature ∧ t.cr.humidity = s.cr.humidity ∧
    t.sgc.steamDemand = s.sgc.steamDemand ∧ t.sgc.derate = s.sgc.derate ∧ t.lpd.loads = s.lpd.loads ∧
    t.lpd.shed = s.lpd.shed ∧ t.sdu.account = s.sdu.account ∧ t.sdu.hardness = s.sdu.hardness

theorem inRanges_of_same {s t : State} (k : sameRanges s t) (h : inRanges s) : inRanges t := by
  obtain ⟨hc, ht, hh, hsteam, hderate, hloads, hshed, ha, hhard⟩ := k
  simpa only [inRanges, drivenInRange, accountInRange, controlInRange, hc, ht, hh, hsteam, hderate, hloads, hshed, ha,
    hhard] using h

theorem inRanges_ite {p : Prop} [Decidable p] {s t : State} (hs : inRanges s) (ht : inRanges t) :
    inRanges (if p then s else t) := by
  split
  · exact hs
  · exact ht

/-- The blocks that the ranges speak of as a reset leaves them, with a hardness (R82, R95, R116, R136, R158). -/
def atResetValues (s : State) : Prop :=
  s.cr = .reset ∧ s.sgc.steamDemand = 0 ∧ s.sgc.derate = false ∧ s.lpd.loads = .reset ∧ s.lpd.shed = 0 ∧
    s.sdu.account = 0 ∧ s.sdu.hardness ≤ 40

theorem inRanges_of_atResetValues {s : State} (h : atResetValues s) : inRanges s := by
  obtain ⟨hcr, hsteam, hderate, hloads, hshed, ha, hhard⟩ := h
  refine ⟨⟨⟨?_, ?_, by omega, by omega, fun i => ?_⟩, by simp [hderate]⟩, by omega, hhard, by simp [hderate, ha, derateOf]⟩
  · simp [hcr, Climate.reset, RegContext.inRange]
  · simp [hcr, Climate.reset, RegContext.inRange]
  · rw [hloads]
    cases i <;> simp [Load.inRange, Loads.reset, Load.rest]

/-! ### Demands -/

theorem controlInRange_writeDemand {i : LoadId} {d : Nat} {s : State} (h : controlInRange s) (hd : d ≤ 1000) :
    controlInRange (writeDemand i d s) := by
  obtain ⟨htemp, hhum, hsteam, hshed, hloads⟩ := h
  simp only [controlInRange, writeDemand_keeps]
  refine ⟨htemp, hhum, hsteam, hshed, fun j => ?_⟩
  by_cases hj : j = i
  · subst hj
    obtain ⟨-, hgrant, hcount, hcarry, hposition⟩ := hloads j
    simp [Load.inRange, writeDemand, hd, hgrant, hcount, hcarry, hposition]
  · rw [writeDemand_other _ _ _ _ hj]
    exact hloads j

/-- A STEAM_HEATER demand written is in range where it is at most 600 under the derate signal; the one before it does not
matter. -/
theorem drivenInRange_writeHeat {d : Nat} {s : State} (h : controlInRange s) (hd : d ≤ 1000)
    (hcap : s.sgc.derate = true → d ≤ 600) : drivenInRange (writeDemand .steamHeater d s) := by
  refine ⟨controlInRange_writeDemand h hd, fun hderate => ?_⟩
  rw [← Loads.get_steamHeater, writeDemand_demand]
  exact hcap (by simpa using hderate)

theorem drivenInRange_writeElement {i : LoadId} {d : Nat} {s : State} (hi : i ≠ .steamHeater) (h : drivenInRange s)
    (hd : d ≤ 1000) : drivenInRange (writeDemand i d s) := by
  refine ⟨controlInRange_writeDemand h.1 hd, fun hderate => ?_⟩
  rw [← Loads.get_steamHeater, writeDemand_other _ _ _ _ hi.symm]
  exact h.2 (by simpa using hderate)

/-- A demand written moves neither the account nor its signal. -/
theorem accountInRange_writeDemand {i : LoadId} {d : Nat} {s : State} (h : accountInRange s) :
    accountInRange (writeDemand i d s) := by
  simpa [accountInRange] using h

theorem inRanges_writeHeat {d : Nat} {s : State} (h : inRanges s) (hd : d ≤ 1000)
    (hcap : s.sgc.derate = true → d ≤ 600) : inRanges (writeDemand .steamHeater d s) :=
  ⟨drivenInRange_writeHeat h.1.1 hd hcap, accountInRange_writeDemand h.2⟩

theorem inRanges_writeElement {i : LoadId} {d : Nat} {s : State} (hi : i ≠ .steamHeater) (h : inRanges s)
    (hd : d ≤ 1000) : inRanges (writeDemand i d s) :=
  ⟨drivenInRange_writeElement hi h.1 hd, accountInRange_writeDemand h.2⟩

theorem inRanges_writeElements {a b c : Nat} {s : State} (h : inRanges s) (ha : a ≤ 1000) (hb : b ≤ 1000)
    (hc : c ≤ 1000) : inRanges (writeElements a b c s) :=
  inRanges_writeElement nofun (inRanges_writeElement nofun (inRanges_writeElement nofun h ha) hb) hc

theorem inRanges_heaterOff {s : State} (h : inRanges s) : inRanges (writeDemand .steamHeater 0 s) :=
  inRanges_writeHeat h (by omega) (by omega)

theorem heaterDemand_le {s : State} (h : s.sgc.steamDemand ≤ 1000) :
    heaterDemand s ≤ 1000 ∧ (s.sgc.derate = true → heaterDemand s ≤ 600) := by
  have hbase : baseDemand s ≤ 1000 := by
    unfold baseDemand
    (repeat' split) <;> omega
  unfold heaterDemand
  (repeat' split) <;> simp_all

/-- The heater demand written from the boiler's state is in range, whatever stood before it (R121). -/
theorem drivenInRange_writeHeater {s : State} (h : controlInRange s) (hu : s.sgc.user = .climate) :
    drivenInRange (writeHeater s) := by
  obtain ⟨-, -, hsteam, -⟩ := id h
  obtain ⟨hle, hcap⟩ := heaterDemand_le hsteam
  unfold writeHeater
  rw [if_pos hu]
  exact drivenInRange_writeHeat h hle hcap

theorem inRanges_writeHeater {s : State} (h : inRanges s) : inRanges (writeHeater s) := by
  by_cases hu : s.sgc.user = .climate
  · exact ⟨drivenInRange_writeHeater h.1.1 hu, by simpa [accountInRange] using h.2⟩
  · simpa [writeHeater, hu] using h

section
variable {s : State}

/-! ### What moves no range -/

theorem inRanges_serviceEvents (h : inRanges s) : inRanges (serviceEvents s) := inRanges_of_same (by simp [sameRanges]) h

theorem inRanges_requestWrite (h : inRanges s) : inRanges (requestWrite s) := inRanges_of_same (by simp [sameRanges]) h

theorem inRanges_setMark {m : Mark} (h : inRanges s) : inRanges (setMark m s) := inRanges_of_same (by simp [sameRanges]) h

theorem inRanges_holdTrip {k : Trip} (h : inRanges s) : inRanges (holdTrip k s) := inRanges_of_same (by simp [sameRanges]) h

theorem inRanges_compute (h : inRanges s) : inRanges (compute s) := inRanges_of_same (by simp [sameRanges]) h

theorem inRanges_recordAllowance (h : inRanges s) : inRanges (recordAllowance s) :=
  inRanges_of_same (by simp [sameRanges]) h

theorem inRanges_leaveStarvedWithoutWork (h : inRanges s) : inRanges (leaveStarvedWithoutWork s) :=
  inRanges_of_same (by simp [sameRanges]) h

theorem inRanges_refreshFan (h : inRanges s) : inRanges (refreshFan s) := inRanges_of_same (by simp [sameRanges]) h

theorem inRanges_endTravel (h : inRanges s) : inRanges (endTravel s) := inRanges_of_same (by simp [sameRanges]) h

/-! ### The boiler -/

theorem inRanges_becomeBoiler {st : BoilerState} (h : inRanges s) : inRanges (becomeBoiler st s) := by
  unfold becomeBoiler
  dsimp only
  refine inRanges_writeHeater (inRanges_of_same ?_ h)
  split <;> simp [sameRanges]

theorem inRanges_enterWaitWater {b : Bool} (h : inRanges s) : inRanges (enterWaitWater b s) := inRanges_becomeBoiler h

theorem inRanges_givePulse (h : inRanges s) : inRanges (givePulse s) :=
  inRanges_ite (inRanges_enterWaitWater h) h

theorem inRanges_judgePump (h : inRanges s) : inRanges (judgePump s) :=
  inRanges_ite (inRanges_ite (inRanges_givePulse h) h) h

theorem inRanges_startFill {st : BoilerState} (h : inRanges s) : inRanges (startFill st s) :=
  inRanges_ite (inRanges_judgePump (inRanges_becomeBoiler h)) (inRanges_enterWaitWater h)

theorem inRanges_enterSteam (h : inRanges s) : inRanges (enterSteam s) := inRanges_becomeBoiler h

theorem inRanges_enterHeat (h : inRanges s) : inRanges (enterHeat s) := by
  have hheat : inRanges (becomeBoiler .heat { s with sgc.pulseTimer := none }) := inRanges_becomeBoiler h
  exact inRanges_ite (inRanges_ite (inRanges_enterSteam hheat) hheat) (inRanges_startFill hheat)

theorem inRanges_enterFill (h : inRanges s) : inRanges (enterFill s) :=
  inRanges_ite (inRanges_enterHeat h) (inRanges_startFill h)

theorem inRanges_enterCool (h : inRanges s) : inRanges (enterCool s) := inRanges_requestWrite (inRanges_becomeBoiler h)

theorem inRanges_enterDrain (h : inRanges s) : inRanges (enterDrain s) := inRanges_becomeBoiler h

theorem inRanges_enterOff (h : inRanges s) : inRanges (enterOff s) := by
  have hoff : inRanges (becomeBoiler .off { s with sgc.drainCount := 0 }) := inRanges_becomeBoiler h
  exact inRanges_ite (inRanges_enterFill hoff) hoff

theorem inRanges_enterDryFault (h : inRanges s) : inRanges (enterDryFault s) :=
  inRanges_ite h (inRanges_becomeBoiler h)

theorem inRanges_handSteamDemand {d : Nat} (h : inRanges s) (hd : d ≤ 1000) : inRanges (handSteamDemand d s) := by
  obtain ⟨⟨⟨htemp, hhum, -, hrest⟩, hcap⟩, haccount⟩ := h
  exact inRanges_writeHeater ⟨⟨⟨htemp, hhum, hd, hrest⟩, hcap⟩, haccount⟩

theorem inRanges_startSteam (h : inRanges s) : inRanges (startSteam s) := by
  unfold startSteam
  split
  · exact inRanges_enterFill h
  · exact inRanges_enterFill h
  · exact inRanges_ite (inRanges_ite (inRanges_enterSteam h) (inRanges_enterHeat h)) (inRanges_enterFill h)
  · exact h

theorem inRanges_stopSteam (h : inRanges s) : inRanges (stopSteam s) := by
  unfold stopSteam
  split
  case h_6 => exact h
  all_goals exact inRanges_enterCool h

theorem inRanges_setSteamWanted {w : Bool} (h : inRanges s) : inRanges (setSteamWanted w s) :=
  inRanges_ite h (inRanges_ite (inRanges_ite (inRanges_startSteam h) (inRanges_stopSteam h)) h)

theorem inRanges_judgeSteam (h : inRanges s) : inRanges (judgeSteam s) :=
  inRanges_ite (inRanges_setSteamWanted h)
    (inRanges_setSteamWanted (inRanges_ite h (inRanges_handSteamDemand h (by omega))))

theorem inRanges_judgeCool (h : inRanges s) : inRanges (judgeCool s) := inRanges_ite (inRanges_enterDrain h) h

theorem inRanges_boilerPublication {b : Bool} (h : inRanges s) : inRanges (boilerPublication b s) := by
  have hheater := inRanges_writeHeater h
  have hpump := inRanges_ite (p := tankReady s = true) (inRanges_judgePump hheater) (inRanges_enterWaitWater (b := false) h)
  unfold boilerPublication
  split
  · exact inRanges_enterDryFault h
  · split
    · exact inRanges_ite (inRanges_enterCool h) h
    · exact inRanges_ite (inRanges_enterHeat h) hpump
    · exact inRanges_ite (inRanges_ite (inRanges_enterSteam h) hheater) (inRanges_enterFill h)
    · exact inRanges_ite (inRanges_ite hheater (inRanges_enterHeat h)) (inRanges_startFill h)
    · exact inRanges_ite (inRanges_enterSteam h) hpump
    · exact inRanges_of_same (by simp [sameRanges]) hheater
    · exact inRanges_judgeCool hheater
    · exact hheater
    · exact hheater

theorem inRanges_requestFill (h : inRanges s) : inRanges (requestFill s) := by
  unfold requestFill
  split
  case h_4 => exact h
  all_goals exact inRanges_enterFill h

theorem inRanges_requestDrain (h : inRanges s) : inRanges (requestDrain s) := by
  unfold requestDrain
  split
  case h_6 => exact h
  all_goals exact inRanges_enterDrain h

theorem inRanges_takeUser (h : inRanges s) : inRanges (takeUser s) := inRanges_heaterOff h

theorem inRanges_returnUser (h : inRanges s) : inRanges (returnUser s) := by
  have hreturned : inRanges (writeHeater { s with sgc.user := .climate }) := inRanges_writeHeater h
  exact inRanges_ite hreturned (inRanges_stopSteam hreturned)

/-! ### The climate -/

theorem inRanges_setContexts {tc hc : RegContext} (h : inRanges s) (htc : tc.inRange) (hhc : hc.inRange) :
    inRanges { s with cr.temperature := tc, cr.humidity := hc } := by
  obtain ⟨⟨⟨-, -, hrest⟩, hcap⟩, haccount⟩ := h
  exact ⟨⟨⟨htc, hhc, hrest⟩, hcap⟩, haccount⟩

/-- A context at rest is in range (R100). -/
theorem inRange_rest (c : RegContext) : c.rest.inRange := by simp [RegContext.inRange, RegContext.rest]

theorem inRanges_restRegulators (h : inRanges s) : inRanges (restRegulators s) :=
  inRanges_handSteamDemand
    (inRanges_writeElements (inRanges_setContexts h (inRange_rest _) (inRange_rest _)) (by omega) (by omega) (by omega))
    (by omega)

theorem inRanges_writeRequest {o : Owner} {r : Request} (h : inRanges s) : inRanges (writeRequest o r s) :=
  inRanges_refreshFan (s := judgeVent _)
    (inRanges_judgeSteam (inRanges_ite h (inRanges_restRegulators h)))

theorem inRanges_dropRequest {o : Owner} (h : inRanges s) : inRanges (dropRequest o s) :=
  inRanges_leaveStarvedWithoutWork
    (inRanges_refreshFan (s := judgeVent _) (inRanges_judgeSteam (inRanges_restRegulators h)))

theorem inRanges_endRequest (h : inRanges s) : inRanges (endRequest s) := inRanges_ite h (inRanges_dropRequest h)

theorem inRanges_climateTripped (h : inRanges s) : inRanges (climateTripped s) := by
  unfold climateTripped
  split
  · exact h
  · exact inRanges_endRequest h
  · exact inRanges_ite h (inRanges_dropRequest h)

theorem regOutput_le (p : Int) (i : Nat) : regOutput p i ≤ 1000 := by
  have hout := regOutput_eq p i
  omega

/-- A step keeps a context in range (R100, R104, R105). -/
theorem inRange_regStep {x : StepInput} {c : RegContext} (h : c.inRange) : (regStep x c).inRange := by
  obtain ⟨hi, -⟩ := h
  unfold regStep
  split
  · exact ⟨hi, Nat.zero_le _⟩
  · dsimp only
    split
    · exact ⟨hi, regOutput_le _ _⟩
    · refine ⟨?_, regOutput_le _ _⟩
      simp only [clampInt_eq (show (0 : Int) ≤ 256000 by omega)]
      omega

theorem share_le {u : Nat} (hu : u ≤ 1000) (m : Mode) (i : LoadId) : share u m i ≤ 1000 := by
  have hsplit : m.split i ≤ 100 := by cases m <;> cases i <;> decide
  calc u * m.split i / 100 ≤ 1000 * 100 / 100 := Nat.div_le_div_right (Nat.mul_le_mul hu hsplit)
    _ = 1000 := by norm_num

theorem inRanges_handSteam {u : Nat} (h : inRanges s) (hu : u ≤ 1000) : inRanges (handSteam u s) := by
  refine inRanges_handSteamDemand h ?_
  split <;> omega

theorem inRanges_stepRegulators {r : Request} (h : inRanges s) : inRanges (stepRegulators r s) := by
  obtain ⟨⟨⟨htemp, hhum, -⟩, -⟩, -⟩ := id h
  have ht : (stepTemperature r s).inRange := inRange_regStep htemp
  have hh : (stepHumidity r s).inRange := by
    unfold stepHumidity
    split
    · exact inRange_regStep hhum
    · exact hhum
  have hstepped : inRanges (elementsStepped r s) :=
    inRanges_writeElements (inRanges_setContexts h ht hh) (share_le ht.2 _ _) (share_le ht.2 _ _) (share_le ht.2 _ _)
  exact stepRegulators_cases (fun _ => inRanges_handSteam hstepped ht.2)
    (fun _ => inRanges_handSteam (s := elementsStepped r s) hstepped hh.2) (fun _ _ => hstepped)

theorem inRanges_regulatorTick (h : inRanges s) : inRanges (regulatorTick s) := by
  refine inRanges_compute ?_
  split
  · exact inRanges_stepRegulators h
  · exact h

/-! ### Trips and the lock -/

theorem inRanges_tellAdded {k : Trip} (h : inRanges s) : inRanges (tellAdded k s) := by
  cases k with
  | cavityOvertemp | sensor => exact inRanges_holdTrip (inRanges_climateTripped h)
  | boilerDry => exact inRanges_holdTrip (inRanges_judgeSteam (inRanges_enterDryFault h))
  | lock => exact inRanges_holdTrip (inRanges_ite (inRanges_heaterOff h) h)

theorem inRanges_addTrip {k : Trip} (h : inRanges s) : inRanges (addTrip k s) := inRanges_ite h (inRanges_tellAdded h)

theorem inRanges_lockFault (h : inRanges s) : inRanges (lockFault s) := inRanges_addTrip h

theorem inRanges_travelIn (h : inRanges s) : inRanges (travelIn s) := inRanges_ite (inRanges_lockFault h) h

theorem inRanges_takeLockCommand (h : inRanges s) : inRanges (takeLockCommand s) := by
  unfold takeLockCommand
  split
  case h_2 | h_3 | h_4 => exact inRanges_travelIn h
  all_goals exact h

theorem inRanges_requestLock {c : LockCommand} (h : inRanges s) : inRanges (requestLock c s) :=
  inRanges_takeLockCommand h

theorem inRanges_releaseIdleLock (h : inRanges s) : inRanges (releaseIdleLock s) :=
  inRanges_ite (inRanges_requestLock h) h

/-- A lock that the door or its feedback contradicts faults (R199). -/
theorem inRanges_judgeLock (h : inRanges s) : inRanges (if lockContradicted s then lockFault s else s) :=
  inRanges_ite (inRanges_lockFault h) h

theorem inRanges_lockPublication {b : Bool} (h : inRanges s) : inRanges (lockPublication b s) := by
  have htravel : inRanges (if b = true ∧ s.pu.trips.lock = false then { s with pu.lock := lockFromFeedback s }
      else endTravel s) := inRanges_ite h (inRanges_endTravel h)
  have hjudged := inRanges_judgeLock htravel
  exact inRanges_ite (inRanges_releaseIdleLock hjudged) hjudged

theorem inRanges_tripPublication (h : inRanges s) : inRanges (tripPublication s) := by
  unfold tripPublication
  extract_lets s1 s2
  have h1 : inRanges s1 := inRanges_ite (inRanges_addTrip h) h
  have h2 : inRanges s2 := inRanges_ite (inRanges_addTrip h1) h1
  exact inRanges_ite (inRanges_addTrip h2) h2

/-! ### The account -/

/-- The derate signal handed over caps the STEAM_HEATER demand (R121, R139). -/
theorem drivenInRange_handDerate {d : Bool} (h : drivenInRange s) : drivenInRange (handDerate d s) := by
  obtain ⟨hcontrol, -⟩ := id h
  unfold handDerate
  split
  · exact h
  · have hset : controlInRange { s with sgc.derate := d } := hcontrol
    split
    next =>
      cases d with
      | false => exact ⟨hset, nofun⟩
      | true => exact drivenInRange_writeHeat hset (by omega) fun _ => by omega
    next hu =>
      refine drivenInRange_writeHeater hset ?_
      cases hs : s.sgc.user with
      | climate => rfl
      | descale => exact absurd hs hu

/-- An account set is in range where its value is: the derate signal and the heater follow it (R139). -/
theorem inRanges_setAccount {a : Nat} (h : inRanges s) (ha : a ≤ 400000) : inRanges (setAccount a s) := by
  obtain ⟨hdriven, -, hhardness, -⟩ := h
  exact ⟨drivenInRange_handDerate (s := { s with sdu.account := a }) hdriven,
    by simpa using ha, by simpa using hhardness, by simp⟩

theorem inRanges_judgeAdvice {a : Nat} (h : inRanges s) : inRanges (judgeAdvice a s) := inRanges_ite h h

theorem meteredAccount_le (d : Scale) : meteredAccount d ≤ 400000 := min_le_right _ _

theorem inRanges_addMetered (h : inRanges s) : inRanges (addMetered s) := by
  have hadded : inRanges (judgeAdvice s.sdu.account (setAccount (meteredAccount s.sdu) { s with sdu.meteringSum := 0 })) :=
    inRanges_judgeAdvice (inRanges_setAccount h (meteredAccount_le _))
  exact inRanges_ite hadded (inRanges_requestWrite hadded)

/-! ### The descale -/

theorem inRanges_sduHeat {d : Nat} (h : inRanges s) (hd : d ≤ 1000) : inRanges (sduHeat d s) := by
  unfold sduHeat
  split
  · refine inRanges_writeHeat h ?_ fun hderate => ?_
    · (repeat' split) <;> omega
    · rw [if_pos hderate]
      split <;> omega
  · exact h

theorem phaseDemand_le (h : inRanges s) : phaseDemand s ≤ 1000 := by
  have hdemand : s.lpd.loads.steamHeater.demand ≤ 1000 := by
    obtain ⟨⟨⟨-, -, -, -, hloads⟩, -⟩, -⟩ := h
    exact (hloads .steamHeater).1
  have hfull : fullHeat s ≤ 1000 := by
    unfold fullHeat
    split <;> omega
  unfold phaseDemand
  split
  · exact hfull
  · unfold soakHeatDemand
    (repeat' split) <;> omega
  · split <;> omega
  · omega

theorem inRanges_writePhaseDemand (h : inRanges s) : inRanges (writePhaseDemand s) :=
  inRanges_sduHeat h (phaseDemand_le h)

theorem inRanges_enterPhase {p : Phase} (h : inRanges s) : inRanges (enterPhase p s) :=
  inRanges_writePhaseDemand (s := { s with sdu.phase := p }) h

theorem inRanges_enterLocking {f : LockingFrom} (h : inRanges s) : inRanges (enterLocking f s) :=
  inRanges_requestLock (inRanges_enterPhase h)

theorem inRanges_enterAwait {p : Phase} (h : inRanges s) : inRanges (enterAwait p s) :=
  inRanges_enterPhase (p := p) h

theorem inRanges_enterDrainAgent (h : inRanges s) : inRanges (enterDrainAgent s) := inRanges_enterPhase h

theorem inRanges_enterSoakFill (h : inRanges s) : inRanges (enterSoakFill s) := inRanges_setMark (inRanges_enterPhase h)

theorem inRanges_enterSoak (h : inRanges s) : inRanges (enterSoak s) := inRanges_enterPhase h

theorem inRanges_enterRinseFill {n : Nat} (h : inRanges s) : inRanges (enterRinseFill n s) := inRanges_enterPhase h

theorem inRanges_enterRinseHeat (h : inRanges s) : inRanges (enterRinseHeat s) := inRanges_enterPhase h

theorem inRanges_enterRinseDrain (h : inRanges s) : inRanges (enterRinseDrain s) := inRanges_enterPhase h

theorem inRanges_enterUnlocking (h : inRanges s) : inRanges (enterUnlocking s) :=
  inRanges_requestLock (inRanges_enterPhase h)

theorem inRanges_leaveDescale (h : inRanges s) : inRanges (leaveDescale s) :=
  inRanges_leaveStarvedWithoutWork (inRanges_returnUser h)

theorem inRanges_enterDone (h : inRanges s) : inRanges (enterDone s) :=
  inRanges_leaveDescale (inRanges_requestWrite (inRanges_setAccount (s := { s with sdu.mark := .none }) h (by omega)))

theorem inRanges_afterLocking (h : inRanges s) : inRanges (afterLocking s) := by
  unfold afterLocking
  split
  · exact inRanges_enterSoakFill h
  · exact inRanges_enterDrainAgent h
  · exact inRanges_enterAwait h

theorem inRanges_endRinseDrain (h : inRanges s) : inRanges (endRinseDrain s) :=
  inRanges_ite (inRanges_enterRinseFill h) (inRanges_enterUnlocking h)

/-- The state a phase moves on to, if it moves, is in range. -/
def nextInRanges (next : Option State) : Prop := ∀ t ∈ next, inRanges t

theorem nextInRanges_none : nextInRanges none := by simp [nextInRanges]

theorem nextInRanges_some {t : State} (h : inRanges t) : nextInRanges (some t) := by simpa [nextInRanges] using h

theorem nextInRanges_ite {p : Prop} [Decidable p] {a b : Option State} (ha : nextInRanges a) (hb : nextInRanges b) :
    nextInRanges (if p then a else b) := by
  split
  · exact ha
  · exact hb

theorem nextInRanges_awaitDrain (h : inRanges s) : nextInRanges (awaitDrain s) :=
  nextInRanges_ite (nextInRanges_some (inRanges_requestDrain h)) nextInRanges_none

theorem nextInRanges_sduNext (h : inRanges s) : nextInRanges (sduNext s) := by
  have hnone := nextInRanges_none
  have hfill := nextInRanges_some (inRanges_requestFill h)
  have hdrain := nextInRanges_awaitDrain h
  have hlocking (f : LockingFrom) := nextInRanges_some (inRanges_enterLocking (f := f) h)
  unfold sduNext
  split
  · exact hnone
  · split
    case h_1 => exact nextInRanges_ite (nextInRanges_some (inRanges_enterAwait h)) hdrain
    case h_2 => exact nextInRanges_ite (nextInRanges_some (inRanges_afterLocking h)) hnone
    case h_3 => exact nextInRanges_ite (nextInRanges_some (inRanges_enterPhase h)) (nextInRanges_ite hfill hnone)
    case h_4 => exact nextInRanges_ite hfill hnone
    case h_5 =>
      exact nextInRanges_ite (nextInRanges_ite hnone (nextInRanges_some (inRanges_enterDrainAgent h)))
        (nextInRanges_ite hfill hnone)
    case h_6 => exact nextInRanges_ite (nextInRanges_some (inRanges_enterAwait (inRanges_setMark h))) hdrain
    case h_7 =>
      split
      · exact nextInRanges_ite (nextInRanges_some (inRanges_enterRinseHeat h)) (nextInRanges_ite hfill hnone)
      · exact nextInRanges_ite hfill hnone
      · exact nextInRanges_ite (nextInRanges_some (inRanges_endRinseDrain h)) hdrain
    case h_8 => exact nextInRanges_ite (nextInRanges_some (inRanges_enterDone h)) hnone
    case h_9 | h_10 => exact nextInRanges_ite (hlocking _) hnone
    all_goals exact hnone

theorem inRanges_followFor {n : Nat} (h : inRanges s) : inRanges (followFor n s) := by
  induction n generalizing s with
  | zero => exact h
  | succ n ih =>
    unfold followFor
    split
    next t ht => exact ih (nextInRanges_sduNext h t ht)
    next => exact h

theorem inRanges_sduFollow (h : inRanges s) : inRanges (sduFollow s) := inRanges_followFor h

theorem inRanges_judgeHeating (h : inRanges s) : inRanges (judgeHeating s) := by
  have hdemand := inRanges_writePhaseDemand h
  unfold judgeHeating
  split
  · exact h
  · split
    · exact inRanges_ite (inRanges_enterSoak h) hdemand
    · exact hdemand
    · exact inRanges_ite (inRanges_ite (inRanges_enterRinseDrain h) hdemand) h
    · exact h

theorem inRanges_sduPublication (h : inRanges s) : inRanges (sduPublication s) :=
  inRanges_sduFollow (inRanges_judgeHeating (inRanges_sduFollow h))

theorem inRanges_endRinseHeat (h : inRanges s) : inRanges (endRinseHeat s) :=
  inRanges_sduFollow (inRanges_enterRinseDrain h)

theorem inRanges_soakTick (h : inRanges s) : inRanges (soakTick s) := by
  have hcount : inRanges { s with sdu.soakCount := min (s.sdu.soakCount + 1) 1200 } := h
  exact inRanges_ite (inRanges_ite (inRanges_sduFollow hcount) hcount) h

theorem inRanges_heatingTick (h : inRanges s) : inRanges (heatingTick s) := by
  have hcount : inRanges { s with sdu.heatingTime := s.sdu.heatingTime + 1 } := h
  exact inRanges_ite (inRanges_ite (inRanges_endRinseHeat hcount) hcount) h

theorem inRanges_meteringTick (h : inRanges s) : inRanges (meteringTick s) :=
  inRanges_heatingTick (inRanges_soakTick (inRanges_addMetered h))

theorem inRanges_redirect (h : inRanges s) : inRanges (redirect s) := by
  unfold redirect
  split
  case h_5 => exact h
  all_goals exact inRanges_sduFollow (inRanges_enterDrainAgent h)

theorem inRanges_resumeDescale (h : inRanges s) : inRanges (resumeDescale s) :=
  inRanges_sduFollow (inRanges_writePhaseDemand h)

theorem inRanges_judgeRecovery (h : inRanges s) : inRanges (judgeRecovery s) :=
  inRanges_ite (inRanges_ite h (inRanges_sduFollow h)) h

theorem inRanges_startFromMark (h : inRanges s) : inRanges (startFromMark s) := by
  unfold startFromMark
  split
  · exact h
  · exact inRanges_takeUser h
  · exact inRanges_takeUser h

/-! ### The window's plan -/

/-- A load of a window's plan is in range: its grant is within its rating, so that its count is at most 100 (R73, R74, R76). -/
theorem inRange_planConverted (h : controlInRange s) (i : LoadId) :
    ((planConverted s).loads.get i).inRange (ratingW s.config i) := by
  obtain ⟨-, -, -, hshed, hloads⟩ := h
  obtain ⟨hdemand, -, -, hcarry, -⟩ := hloads i
  obtain ⟨hplace, hsame, hgrant, -, hoff, hon⟩ := planConverted_load hshed i
  generalize (planConverted s).loads.get i = l at hplace hsame hgrant hoff hon ⊢
  have hposition : l.position < 4 := by
    have hlt := (List.getElem?_eq_some_iff.1 hplace).1
    rwa [(planOrder_perm _).length_eq] at hlt
  have hwants : l.grant ≤ ratingW s.config i :=
    calc l.grant ≤ (s.lpd.loads.get i).demand * ratingW s.config i / 1000 := hgrant ▸ min_le_left _ _
      _ ≤ 1000 * ratingW s.config i / 1000 := Nat.div_le_div_right (Nat.mul_le_mul_right _ hdemand)
      _ = ratingW s.config i := Nat.mul_div_cancel_left _ (by omega)
  have hquotient : (l.grant * 100 + (s.lpd.loads.get i).carry) / ratingW s.config i ≤ 100 := by
    obtain hzero | hpos := Nat.eq_zero_or_pos (ratingW s.config i)
    · simp [hzero]
    · exact Nat.le_of_lt_succ ((Nat.div_lt_iff_lt_mul hpos).2 (by omega))
  refine ⟨hsame ▸ hdemand, hwants, ?_, ?_, by omega⟩
  all_goals cases hlocked : interlocked s i with
    | true =>
      obtain ⟨hcount, hkept⟩ := hoff hlocked
      omega
    | false =>
      obtain ⟨hcount, hkept⟩ := hon hlocked
      omega

theorem inRanges_planWindow (h : inRanges s) : inRanges (planWindow s) := by
  obtain ⟨⟨hcontrol, hcap⟩, haccount⟩ := h
  obtain ⟨htemp, hhum, hsteam, hshed, -⟩ := id hcontrol
  have hheater : (planConverted s).loads.steamHeater.demand = s.lpd.loads.steamHeater.demand :=
    (planConverted_keeps hshed .steamHeater).1
  have hgiven : (planConverted s).shed ≤ 65535 := by
    rw [planConverted_shed hshed]
    exact min_le_right _ _
  exact ⟨⟨⟨htemp, hhum, hsteam, hgiven, inRange_planConverted hcontrol⟩, fun hderate => hheater ▸ hcap hderate⟩, haccount⟩

theorem inRanges_windowStart (h : inRanges s) : inRanges (windowStart s) := by
  have hpoint : inRanges (claimPoint { s with lpd.half := 0 }) :=
    inRanges_of_same (s := { s with lpd.half := 0 }) (by simp [sameRanges]) h
  exact inRanges_of_same (by simp [sameRanges, windowStart]) (inRanges_planWindow hpoint)

theorem inRanges_acceptCrossing (h : inRanges s) : inRanges (acceptCrossing s) :=
  inRanges_ite (inRanges_windowStart h) h

theorem inRanges_enterRunning (h : inRanges s) : inRanges (enterRunning s) := inRanges_windowStart h

theorem inRanges_crossing {iv : Nat} (h : inRanges s) : inRanges (crossing iv s) := by
  unfold crossing
  split
  · exact inRanges_ite (inRanges_ite h (inRanges_enterRunning h)) h
  · exact inRanges_ite h (inRanges_acceptCrossing h)
  · exact inRanges_ite h (inRanges_ite (inRanges_ite h (inRanges_enterRunning h)) h)

/-- The window that ends with the mains keeps the demands (R67, R68). -/
theorem inRanges_enterMainsAbsent (h : inRanges s) : inRanges (enterMainsAbsent s) := by
  obtain ⟨⟨⟨htemp, hhum, hsteam, hshed, hloads⟩, hcap⟩, haccount⟩ := h
  refine ⟨⟨⟨htemp, hhum, hsteam, hshed, fun i => ?_⟩, hcap⟩, haccount⟩
  obtain ⟨hdemand, -, -, -, hposition⟩ := hloads i
  simp [enterMainsAbsent, Load.inRange, hdemand, hposition]

end

end Sys2Proof.Machine.Planning
end

section
/-! The ranges under every command and every millisecond (R64, R76, R100, R105, R137, R139): RangesKept. -/

namespace Sys2Proof.Machine.Planning

open Sharing

section
variable {s : State}

/-! ### The recipe -/

theorem inRanges_writeStage {r : Request} (h : inRanges s) : inRanges (writeStage r s) :=
  inRanges_ite (inRanges_dropRequest h) (inRanges_writeRequest h)

theorem inRanges_enterStage {k : Nat} {st : Stage} (h : inRanges s) : inRanges (enterStage k st s) := by
  cases st with
  | heating r c l p =>
    have hwritten := inRanges_writeStage (r := r)
      (s := raise .stageStarted { s with re.context := some (entryContext k (.heating r c l p)) }) h
    exact inRanges_ite hwritten hwritten
  | prompt | loop | finish => exact inRanges_ite h h

theorem inRanges_firstPrompt (h : inRanges s) : inRanges (firstPrompt s) := by
  unfold firstPrompt
  split
  · exact inRanges_dropRequest h
  · exact h

theorem inRanges_runSlot {i : SlotId} (h : inRanges s) : inRanges (runSlot i s) := inRanges_firstPrompt h

theorem inRanges_finishProgram (h : inRanges s) : inRanges (finishProgram s) :=
  inRanges_of_same (by simp [sameRanges]) h

theorem inRanges_reach {n k : Nat} (h : inRanges s) : inRanges (reach n k s) := by
  induction n generalizing k s with
  | zero => exact h
  | succ n ih =>
    unfold reach
    split
    · exact inRanges_ite (ih h) (ih h)
    · split
      · exact ih (inRanges_runSlot (inRanges_finishProgram h))
      · exact inRanges_endRequest (inRanges_finishProgram h)
    · exact inRanges_enterStage h
    · exact h

theorem inRanges_endStage (h : inRanges s) : inRanges (endStage s) := by
  unfold endStage
  split
  · exact inRanges_reach h
  · exact h

theorem inRanges_startRecipe {i : SlotId} (h : inRanges s) : inRanges (startRecipe i s) :=
  inRanges_ite (inRanges_reach (inRanges_runSlot h)) h

theorem inRanges_abortRecipe (h : inRanges s) : inRanges (abortRecipe s) := by
  unfold abortRecipe
  split
  · exact h
  · refine inRanges_endRequest (s := dropRun _) ?_
    split <;> exact h

theorem inRanges_stageTick (h : inRanges s) : inRanges (stageTick s) := by
  unfold stageTick
  split
  · dsimp only
    split
    · exact h
    · exact inRanges_endStage h
    · exact inRanges_endStage (s := raise _ _) h
  · exact h

theorem inRanges_judgeTripHold (h : inRanges s) : inRanges (judgeTripHold s) := by
  unfold judgeTripHold
  split
  · split
    · dsimp only
      split
      · exact inRanges_writeStage h
      · exact h
    · exact h
  · exact h

theorem inRanges_probePublication (h : inRanges s) : inRanges (probePublication s) :=
  inRanges_of_same (by simp [sameRanges]) h

/-! ### The power state -/

theorem inRanges_powerChanged (h : inRanges s) : inRanges (powerChanged s) := inRanges_refreshFan (inRanges_judgeCool h)

theorem inRanges_wakeUp (h : inRanges s) : inRanges (wakeUp s) := by
  unfold wakeUp
  split
  · refine inRanges_judgeRecovery (inRanges_powerChanged (inRanges_of_same ?_ h))
    simp [sameRanges]
  · exact inRanges_judgeRecovery (inRanges_powerChanged (inRanges_compute h))
  · exact h

theorem inRanges_windDown (h : inRanges s) : inRanges (windDown s) := inRanges_powerChanged (inRanges_compute h)

theorem inRanges_enterStandby (h : inRanges s) : inRanges (enterStandby s) := by
  refine inRanges_powerChanged (inRanges_of_same ?_ h)
  simp [sameRanges]

theorem inRanges_conclude (h : inRanges s) : inRanges (conclude s) :=
  inRanges_serviceEvents (inRanges_ite (inRanges_enterStandby h) h)

theorem inRanges_consoleLost (h : inRanges s) : inRanges (consoleLost s) := by
  have hended := inRanges_redirect (inRanges_abortRecipe (inRanges_endRequest h))
  exact inRanges_ite (inRanges_windDown hended) hended

/-! ### Trips cleared -/

theorem inRanges_tellRemoved {k : Trip} (h : inRanges s) : inRanges (tellRemoved k s) := by
  refine inRanges_judgeTripHold ?_
  cases k with
  | cavityOvertemp | sensor => exact h
  | boilerDry => exact inRanges_sduFollow (inRanges_judgeSteam (inRanges_ite (inRanges_enterOff h) h))
  | lock => exact inRanges_resumeDescale (inRanges_releaseIdleLock (inRanges_takeLockCommand h))

theorem inRanges_clearOne {k : Trip} (h : inRanges s) : inRanges (clearOne k s) :=
  inRanges_ite (inRanges_tellRemoved h) h

theorem inRanges_clearTrips (h : inRanges s) : inRanges (clearTrips s) :=
  inRanges_clearOne (inRanges_clearOne (inRanges_clearOne (inRanges_clearOne h)))

/-! ### The restart and the supply -/

/-- The scale and descale unit starts from reset values with an account and a mark (R140, R156, R158). -/
theorem inRanges_startScale {a : Nat} (h : atResetValues s) (ha : a ≤ 400000) :
    inRanges (startFromMark (judgeAdvice 0 (setAccount a s))) :=
  inRanges_startFromMark (inRanges_judgeAdvice (inRanges_setAccount (inRanges_of_atResetValues h) ha))

/-- A restart keeps the hardness, and the account with the metering sum (R158). -/
theorem inRanges_restartBlocks (h : s.sdu.hardness ≤ 40) : inRanges (restartBlocks s) := by
  have hscale {u : State} (hu : u.cr = .reset ∧ u.sgc.steamDemand = 0 ∧ u.sgc.derate = false ∧
      u.lpd.loads = .reset ∧ u.lpd.shed = 0 ∧ u.sdu.hardness ≤ 40) : inRanges (restartScale u) := by
    obtain ⟨hcr, hsteam, hderate, hloads, hshed, hhard⟩ := hu
    exact inRanges_startScale ⟨hcr, hsteam, hderate, hloads, hshed, rfl, hhard⟩ (meteredAccount_le _)
  exact inRanges_recordAllowance (hscale ⟨rfl, rfl, rfl, rfl, rfl, h⟩)

theorem inRanges_restartEffect (h : inRanges s) : inRanges (restartEffect s) := by
  obtain ⟨-, -, hhard, -⟩ := h
  refine inRanges_of_same (s := restartBlocks (restartLink s)) (by simp [sameRanges, restartEffect]) ?_
  exact inRanges_restartBlocks hhard

theorem inRanges_acceptRestart (h : inRanges s) : inRanges (acceptRestart s) := by
  have hoffered (u : State) (hu : inRanges u) : inRanges (offer (.notice (leaveNotice s)) u) :=
    inRanges_of_same (by simp [sameRanges]) hu
  have hpending := hoffered (abandonRaise { s with od.restartPending := true }) h
  obtain ⟨-, -, hhard, -⟩ := id h
  exact inRanges_ite h
    (inRanges_ite (inRanges_ite hpending (inRanges_restartEffect hpending)) (inRanges_restartBlocks hhard))

theorem hardness_of_configOf {bytes : List Byte} {c : ConfigCopy} (h : configOf bytes = some c) : c.hardness ≤ 40 := by
  unfold configOf at h
  split at h
  · dsimp only at h
    split at h
    next hvalid =>
      obtain rfl := Option.some.inj h
      dsimp only
      omega
    next => cases h
  · cases h

theorem readRecord_inRange {r : StoredRecord} {a hard : Nat} {m : Mark} (h : readRecord r = some (a, hard, m)) :
    a ≤ 400000 ∧ hard ≤ 40 := by
  unfold readRecord at h
  split at h
  · split at h
    next hvalid =>
      obtain ⟨-, ha, hhard⟩ := hvalid
      cases h
      exact ⟨ha, hhard⟩
    next => cases h
  · cases h

theorem inRanges_startBlocks {c : ConfigCopy} {found : Option StoredRecord} (h : atResetValues s)
    (hc : c.hardness ≤ 40) : inRanges (startBlocks c found s) := by
  obtain ⟨hcr, hsteam, hderate, hloads, hshed, haccount, -⟩ := h
  refine inRanges_serviceEvents ?_
  split
  next a hard m heq =>
    obtain ⟨r, -, hr⟩ := Option.bind_eq_some_iff.1 heq
    obtain ⟨ha, hhard⟩ := readRecord_inRange hr
    exact inRanges_startScale ⟨hcr, hsteam, hderate, hloads, hshed, haccount, hhard⟩ ha
  next =>
    exact inRanges_requestWrite (s := raise _ _)
      (inRanges_startScale (a := 200000) ⟨hcr, hsteam, hderate, hloads, hshed, haccount, hc⟩ (by omega))

theorem atResetValues_powerUp (store : StoredRecord) (s : State) : atResetValues (powerUp store s) :=
  ⟨rfl, rfl, rfl, rfl, rfl, rfl, Nat.zero_le _⟩

theorem inRanges_powerOn (config : Option (List Byte)) (retained : RetainedRead) (s : State) :
    inRanges (powerOn config retained s) := by
  unfold powerOn
  dsimp only
  split
  next c heq =>
    obtain ⟨bytes, -, hbytes⟩ := Option.bind_eq_some_iff.1 heq
    exact inRanges_startBlocks (atResetValues_powerUp _ s) (hardness_of_configOf hbytes)
  next => exact inRanges_of_atResetValues ⟨rfl, rfl, rfl, rfl, rfl, rfl, Nat.zero_le _⟩

/-! ### The orders -/

theorem inRanges_runOrder {α : Type} {sender : Addr} {parsed : Option α} {busy : Bool} {refusal : α → Option Reason}
    {act : α → State} (h : inRanges s) (hact : ∀ a, inRanges (act a)) :
    inRanges (runOrder sender parsed busy refusal act s) := by
  obtain ⟨c, -, heq⟩ | ⟨a, -, -, -, -, -, heq⟩ := runOrder_cases sender parsed busy refusal act s
  · rw [heq]
    exact h
  · rw [heq]
    exact hact a

theorem inRanges_goToSleep (h : inRanges s) : inRanges (goToSleep s) :=
  inRanges_ite (inRanges_conclude (inRanges_windDown (inRanges_ite (inRanges_endRequest h) h))) h

theorem inRanges_orderRestart {a : Addr} {args : List Byte} (h : inRanges s) : inRanges (orderRestart a args s) := by
  unfold orderRestart
  (repeat' split)
  · exact h
  · exact h
  · exact inRanges_acceptRestart h

theorem inRanges_applyClimate {f : ClimateFields} (h : inRanges s) : inRanges (applyClimate f s) :=
  inRanges_serviceEvents (inRanges_ite (inRanges_writeRequest (r := f.request) h) (inRanges_writeRequest h))

theorem inRanges_applyHardness {n : Nat} (h : inRanges s) : inRanges (applyHardness n s) := by
  have hwritten : inRanges (requestWrite { s with sdu.hardness := min n 40 }) := by
    obtain ⟨hdriven, haccount, -, hsignal⟩ := h
    exact inRanges_requestWrite ⟨hdriven, haccount, min_le_right _ _, hsignal⟩
  have hheld := inRanges_ite (p := min n 40 = s.sdu.hardness) h hwritten
  exact inRanges_serviceEvents (inRanges_ite hheld hheld)

theorem inRanges_startDescale (h : inRanges s) : inRanges (startDescale s) :=
  inRanges_sduFollow (inRanges_enterPhase (inRanges_takeUser h))

theorem inRanges_confirmDescale {c : ConfirmStep} (h : inRanges s) : inRanges (confirmDescale c s) := by
  cases c with
  | agent => exact inRanges_sduFollow (inRanges_enterLocking h)
  | rinse => exact inRanges_sduFollow (inRanges_enterRinseFill h)

theorem inRanges_abortDescale (h : inRanges s) : inRanges (abortDescale s) := by
  unfold abortDescale
  split
  · exact inRanges_leaveDescale h
  · exact inRanges_leaveDescale h
  · exact inRanges_redirect h

/-- An order's effect keeps the ranges, whatever its code. -/
theorem inRanges_orderArrives {a : Addr} {payload : List Byte} (h : inRanges s) : inRanges (orderArrives a payload s) := by
  unfold orderArrives
  split
  · exact inRanges_runOrder h fun _ => h
  · split
    case h_1 => exact inRanges_runOrder h fun _ => inRanges_conclude (inRanges_wakeUp h)
    case h_2 => exact inRanges_runOrder h fun _ => inRanges_goToSleep h
    case h_3 => exact inRanges_orderRestart h
    case h_4 => exact inRanges_runOrder h fun _ => inRanges_applyClimate h
    case h_5 => exact inRanges_runOrder h fun _ => inRanges_endRequest h
    case h_10 => exact inRanges_runOrder h fun _ => inRanges_serviceEvents (inRanges_startRecipe h)
    case h_11 | h_12 => exact inRanges_runOrder h fun _ => inRanges_serviceEvents (inRanges_endStage h)
    case h_13 => exact inRanges_runOrder h fun _ => inRanges_serviceEvents (inRanges_abortRecipe h)
    case h_14 => exact inRanges_runOrder h fun _ => inRanges_serviceEvents (inRanges_startDescale h)
    case h_15 => exact inRanges_runOrder h fun _ => inRanges_serviceEvents (inRanges_confirmDescale h)
    case h_16 => exact inRanges_runOrder h fun _ => inRanges_abortDescale h
    case h_17 => exact inRanges_runOrder h fun _ => inRanges_applyHardness h
    case h_19 => exact inRanges_runOrder h fun _ => inRanges_conclude (inRanges_clearTrips h)
    case h_20 => exact inRanges_runOrder h fun _ => inRanges_enterDrain h
    all_goals exact inRanges_runOrder h fun _ => inRanges_of_same (by simp [sameRanges]) h

/-! ### The line -/

theorem inRanges_noticeArrives {a : Addr} {n : Notice} (h : inRanges s) : inRanges (noticeArrives a n s) :=
  inRanges_of_same (by simp [sameRanges]) h

theorem inRanges_takeFrame {t : Taken} (h : inRanges s) : inRanges (takeFrame t s) := by
  have hheard : inRanges (heardConsole t s) := inRanges_ite h h
  unfold takeFrame useFrame
  (repeat' split)
  · exact inRanges_noticeArrives hheard
  · exact hheard
  · exact inRanges_orderArrives hheard
  · exact hheard
  · exact hheard
  · exact hheard

theorem inRanges_frameArrives {chars : List Byte} (h : inRanges s) : inRanges (frameArrives chars s) := by
  unfold frameArrives judgeFrame
  (repeat' split)
  · exact h
  · exact inRanges_takeFrame (s := countClean _) h
  · exact inRanges_takeFrame (inRanges_of_same (s := countCorrected _) (by simp [sameRanges]) h)
  · exact h
  · exact h

theorem inRanges_noticeLeft {f : Frame} {sent : Bool} (h : inRanges s) : inRanges (noticeLeft f sent s) := by
  unfold noticeLeft
  (repeat' split)
  · exact inRanges_restartEffect h
  · exact inRanges_of_same (by simp [sameRanges]) h
  · exact inRanges_of_same (by simp [sameRanges]) h
  · exact h

theorem inRanges_collide (h : inRanges s) : inRanges (collide s) := by
  unfold collide
  split
  · exact inRanges_ite (inRanges_noticeLeft h) h
  · exact h

theorem inRanges_frameGone (h : inRanges s) : inRanges (frameGone s) := by
  unfold frameGone
  split
  · exact inRanges_ite (inRanges_noticeLeft h) h
  · exact h

/-! ### The processes' events -/

theorem inRanges_reactToPublication {firstLow firstFb : Bool} (h : inRanges s) :
    inRanges (reactToPublication firstLow firstFb s) :=
  inRanges_refreshFan (inRanges_probePublication (inRanges_sduPublication (inRanges_boilerPublication
    (inRanges_tripPublication (inRanges_lockPublication h)))))

theorem inRanges_samplingRound {x : Samples} (h : inRanges s) : inRanges (samplingRound x s) :=
  inRanges_conclude (inRanges_reactToPublication h)

theorem inRanges_disagreementPersists (h : inRanges s) : inRanges (disagreementPersists s) :=
  inRanges_ite (inRanges_conclude (inRanges_addTrip h)) h

theorem inRanges_furtherPulse (h : inRanges s) : inRanges (furtherPulse s) :=
  inRanges_ite (inRanges_serviceEvents (inRanges_givePulse h)) h

theorem inRanges_waitEnds (h : inRanges s) : inRanges (waitEnds s) :=
  inRanges_ite (inRanges_serviceEvents (inRanges_sduFollow (inRanges_enterFill h))) h

theorem inRanges_coolTimeEnds (h : inRanges s) : inRanges (coolTimeEnds s) := inRanges_ite (inRanges_judgeCool h) h

theorem inRanges_drainComplete (h : inRanges s) : inRanges (drainComplete s) :=
  inRanges_ite (inRanges_conclude (inRanges_sduFollow (inRanges_enterOff (inRanges_ite h h)))) h

theorem inRanges_soakCompletes (h : inRanges s) : inRanges (soakCompletes s) :=
  inRanges_ite (inRanges_serviceEvents (inRanges_sduFollow h)) h

theorem inRanges_heatLimit (h : inRanges s) : inRanges (heatLimit s) :=
  inRanges_ite (inRanges_serviceEvents (inRanges_endRinseHeat h)) h

theorem inRanges_travelTimesOut (h : inRanges s) : inRanges (travelTimesOut s) :=
  inRanges_ite (inRanges_conclude (inRanges_lockFault h)) h

theorem inRanges_silenceExpires (h : inRanges s) : inRanges (silenceExpires s) :=
  inRanges_ite h (inRanges_conclude (inRanges_consoleLost h))

theorem inRanges_mainsLost (h : inRanges s) : inRanges (mainsLost s) := by
  unfold mainsLost
  split
  · exact inRanges_enterMainsAbsent h
  · exact h

end

/-! ### Every command, and the millisecond -/

theorem inRanges_exec {c : Instr} {s t : State} (h : exec c s = .next t) (hs : inRanges s) : inRanges t := by
  cases c
  case powerOn => obtain rfl := Host.Outcome.next.inj h; exact inRanges_powerOn _ _ s
  case powerFailure =>
    obtain rfl := Host.Outcome.next.inj h
    exact inRanges_of_atResetValues (atResetValues_powerUp _ s)
  all_goals
    obtain rfl := Host.Outcome.next.inj h
    refine inRanges_ite ?_ hs
  case frameReceived => exact inRanges_frameArrives hs
  case noticeReceived => exact inRanges_noticeArrives hs
  case orderMalformedCode => exact inRanges_orderArrives (payload := []) hs
  case wake args => exact inRanges_orderArrives (payload := 1 :: args) hs
  case sleep args => exact inRanges_orderArrives (payload := 2 :: args) hs
  case restart args => exact inRanges_orderArrives (payload := 3 :: args) hs
  case setClimate args => exact inRanges_orderArrives (payload := 4 :: args) hs
  case stopClimate args => exact inRanges_orderArrives (payload := 5 :: args) hs
  case loadOpen args => exact inRanges_orderArrives (payload := 6 :: args) hs
  case loadStage args => exact inRanges_orderArrives (payload := 7 :: args) hs
  case loadClose args => exact inRanges_orderArrives (payload := 8 :: args) hs
  case loadAbandon args => exact inRanges_orderArrives (payload := 9 :: args) hs
  case recipeStart args => exact inRanges_orderArrives (payload := 10 :: args) hs
  case recipeConfirm args => exact inRanges_orderArrives (payload := 11 :: args) hs
  case recipeSkip args => exact inRanges_orderArrives (payload := 12 :: args) hs
  case recipeAbort args => exact inRanges_orderArrives (payload := 13 :: args) hs
  case descaleStart args => exact inRanges_orderArrives (payload := 14 :: args) hs
  case descaleConfirm args => exact inRanges_orderArrives (payload := 15 :: args) hs
  case descaleAbort args => exact inRanges_orderArrives (payload := 16 :: args) hs
  case setHardness args => exact inRanges_orderArrives (payload := 17 :: args) hs
  case dropPeer args => exact inRanges_orderArrives (payload := 18 :: args) hs
  case clearTrip args => exact inRanges_orderArrives (payload := 19 :: args) hs
  case drainNow args => exact inRanges_orderArrives (payload := 20 :: args) hs
  case collisionDetected => exact inRanges_collide hs
  case frameSent => exact inRanges_frameGone hs
  case consoleSilenceExpired => exact inRanges_silenceExpires hs
  case zeroCrossing => exact inRanges_crossing hs
  case mainsTimeout => exact inRanges_mainsLost hs
  case samplingRound => exact inRanges_samplingRound hs
  case disagreementCondition => exact inRanges_disagreementPersists hs
  case regulatorStep => exact inRanges_regulatorTick hs
  case fillPulse => exact inRanges_furtherPulse hs
  case waitWaterExpired => exact inRanges_waitEnds hs
  case coolTimeExpired => exact inRanges_coolTimeEnds hs
  case drainComplete => exact inRanges_drainComplete hs
  case meteringTick => exact inRanges_serviceEvents (inRanges_meteringTick hs)
  case soakComplete => exact inRanges_soakCompletes hs
  case rinseHeatLimit => exact inRanges_heatLimit hs
  case stageTick => exact inRanges_serviceEvents (inRanges_stageTick hs)
  case lockTravelTimeout => exact inRanges_travelTimesOut hs
  all_goals exact inRanges_of_same (by simp [sameRanges]) hs

/-- A millisecond runs timers on and moves nothing the ranges speak of. -/
theorem inRanges_tick {s : State} (h : inRanges s) : inRanges (tick s) := inRanges_of_same (by simp [sameRanges]) h

/-- Settles O59: a step is a command, which keeps the ranges, or a millisecond. -/
theorem rangesKept : Obligations.RangesKept := by
  intro s t hcontrol hscale hstep
  have hs : inRanges s := (inRanges_iff s).2 ⟨hcontrol, hscale⟩
  refine (inRanges_iff t).1 ?_
  unfold step at hstep
  split at hstep
  · obtain rfl := Host.Outcome.next.inj hstep
    exact inRanges_tick hs
  next c rest _ => exact inRanges_exec hstep (s := { s with pending := rest }) hs

end Sys2Proof.Machine.Planning
end

section
/-! The sampling round: channels, switches and what is formed from them (R83 to R93): SamplingRoundPublishes. -/

namespace Sys2Proof.Machine.Sampling

open Sharing

/-! ### The class of a code (R84, R85) -/

section
variable {ch : Channel} {code : Nat}

theorem classified_of_short (h : code ≤ 7) : classified ch code = (.short, []) := by
  simp only [classified, classify, if_pos h]

theorem classified_of_open (h : 1016 ≤ code) : classified ch code = (.open, []) := by
  simp only [classified, classify, if_neg (show ¬ code ≤ 7 by omega), if_neg (show ¬ code ≤ 1015 by omega)]

theorem classified_of_valid (hlow : 8 ≤ code) (hhigh : code ≤ 1015) :
    classified ch code =
      (if (pushCode ch.ring code).length < 8 then ch.status else .valid, pushCode ch.ring code) := by
  simp only [classified, classify, if_neg (show ¬ code ≤ 7 by omega), if_pos hhigh]

/-! ### A channel at the end of a round (R86 to R88) -/

/-- The model's interpolation takes the remainder of the code as a difference; R87 takes it as a remainder. -/
theorem linearise_eq (table : List Int) (c : Nat) :
    linearise table c =
      table.getD (c / 64) 0 +
        ((table.getD (c / 64 + 1) 0 - table.getD (c / 64) 0) * ((c % 64 : Nat) : Int)).tdiv 64 := by
  have hrest : c - 64 * (c / 64) = c % 64 := by omega
  simp only [linearise, hrest]

theorem unreadyInvalid_eq (st : Status) :
    unreadyInvalid st = if false = true ∧ st ≠ .short then .absent else .invalid := by
  simp [unreadyInvalid]

theorem unreadyProbe_eq (st : Status) :
    unreadyProbe st = if true = true ∧ st ≠ .short then .absent else .invalid := by
  cases st <;> rfl

theorem sampleChannel_moves {unready : Status → Reading} {isProbe : Bool} (table : List Int)
    (hunready : ∀ st, unready st = if isProbe ∧ st ≠ .short then .absent else .invalid) :
    channelMoves table isProbe ch (sampleChannel table unready ch code) code := by
  refine ⟨fun hshort => ?_, fun hopen => ?_, fun hlow hhigh => ?_, fun hvalid => ?_, fun hunfit => ?_⟩
  · simp [sampleChannel, classified_of_short hshort]
  · simp [sampleChannel, classified_of_open hopen]
  · simp [sampleChannel, classified_of_valid hlow hhigh, pushCode]
  · exact (if_pos hvalid).trans (congrArg Reading.value (linearise_eq table _))
  · exact (if_neg hunfit).trans (hunready _)

end

/-! ### The cavity values and the tank (R89 to R91, R93) -/

theorem disagreeing_values_iff (a b : Int) : disagreeing (.value a) (.value b) = true ↔ a + 250 < b ∨ b + 250 < a := by
  simp only [disagreeing, decide_eq_true_eq]
  omega

theorem tankOf_present_iff (present low : Option Bool) :
    tankOf present low = .present ↔ present = some true ∧ low = some false := by
  unfold tankOf
  split_ifs with hseated hfull
  · simp [hseated, hfull]
  · simp [hfull]
  · simp [hseated]

theorem tankOf_absent_iff (present low : Option Bool) : tankOf present low = .absent ↔ present ≠ some true := by
  unfold tankOf
  split_ifs with hseated hfull
  · simp [hseated]
  · simp [hseated]
  · simp [hseated]

/-- What a round forms from the cavity channels it has just published (R89 to R91). -/
theorem sampleAll_cavity (m : Measurement) (x : Samples) {a b : Reading} (ha : (sampleAll m x).cavA.value = a)
    (hb : (sampleAll m x).cavB.value = b) :
    (sampleAll m x).regulated = regulatedOf a b ∧ (sampleAll m x).tripCavity = tripCavityOf a b ∧
      (sampleAll m x).disagreeCount = if disagreeing a b then min (m.disagreeCount + 1) 300 else 0 := by
  subst ha hb
  exact ⟨rfl, rfl, rfl⟩

/-! ### The obligation -/

/-- The blocks act on a published set and leave it as it is. -/
theorem samplingRound_mu (x : Samples) (s : State) : (samplingRound x s).mu = sampleAll s.mu x := by
  simp [samplingRound]

/-- Settles O44: the round's measurement unit is `sampleAll`'s, channel by channel, and the blocks that act on it keep
the rest. -/
theorem samplingRoundPublishes : Obligations.SamplingRoundPublishes := by
  intro x s hrun
  refine ⟨samplingRound x s, exec_next rfl hrun rfl, ?_⟩
  rw [samplingRound_mu]
  refine ⟨sampleChannel_moves platinumTable unreadyInvalid_eq, sampleChannel_moves platinumTable unreadyInvalid_eq,
    sampleChannel_moves probeTable unreadyProbe_eq, sampleChannel_moves boilerTable unreadyInvalid_eq,
    sampleChannel_moves humTable unreadyInvalid_eq, rfl, rfl, rfl, rfl, rfl, rfl,
    fun a b ha hb => ?_, fun a ha hb => ?_, fun b ha hb => ?_, fun ha hb => sampleAll_cavity s.mu x ha hb,
    beq_iff_eq, tankOf_present_iff _ _, tankOf_absent_iff _ _, rfl, ?_⟩
  · obtain ⟨hregulated, htrip, hcount⟩ := sampleAll_cavity s.mu x ha hb
    simp only [disagreeing_values_iff] at hcount
    exact ⟨hregulated, htrip, hcount⟩
  · exact sampleAll_cavity s.mu x ha hb
  · exact sampleAll_cavity s.mu x ha hb
  · simp

end Sys2Proof.Machine.Sampling
end

section
/-! What the boiler, the supply and the climate leave of the pending events and of a recipe that does not run: used by the cooking
invariants, by the end of a stage and by a publication (R38, R175). -/

namespace Sys2Proof.Machine.Cooking

/-! ### Events that stay, and a recipe at rest -/

/-- From `s` to `t` no pending event is lost, and a recipe that does not run gains no hold reason (R38, R175). -/
def calm (s t : State) : Prop :=
  (∀ e, s.od.events.has e = true → t.od.events.has e = true) ∧ t.re.running = s.re.running ∧
    (s.re.running = none → s.re.holds = .empty → t.re.holds = .empty)

theorem calm.refl (s : State) : calm s s := ⟨fun _ h => h, rfl, fun _ h => h⟩

theorem calm.events {s t : State} (h : calm s t) {e : Event} (he : s.od.events.has e = true) : t.od.events.has e = true :=
  h.1 e he

theorem calm.rests {s t : State} (h : calm s t) (hr : s.re.running = none) (hh : s.re.holds = .empty) :
    t.re.holds = .empty := h.2.2 hr hh

theorem running_of_currentStage {s : State} {g : Stage} (h : currentStage s = some g) : s.re.running ≠ none := by
  intro hr
  simp [currentStage, hr] at h

section
variable {s t u : State}

theorem calm.trans (h : calm s t) (k : calm t u) : calm s u := by
  obtain ⟨hevents, hrun, hrests⟩ := h
  obtain ⟨kevents, krun, krests⟩ := k
  exact ⟨fun e he => kevents e (hevents e he), krun.trans hrun, fun hr hh => krests (hrun.trans hr) (hrests hr hh)⟩

/-- An operation that leaves the events, the running slot and the hold reasons. -/
theorem calm.of_same (hk : u.od.events = t.od.events ∧ u.re.running = t.re.running ∧ u.re.holds = t.re.holds)
    (h : calm s t) : calm s u := by
  obtain ⟨hevents, hrun, hholds⟩ := hk
  refine h.trans ⟨fun e he => ?_, hrun, fun _ hh => hholds.trans hh⟩
  rwa [hevents]

/-- An operation that changes the hold reasons while a slot runs. -/
theorem calm.of_running {holds : HoldSet} (hr : t.re.running ≠ none) (h : calm s t) :
    calm s { t with re.holds := holds } :=
  h.trans ⟨fun _ he => he, rfl, fun hn => absurd hn hr⟩

theorem calm_ite {p : Prop} [Decidable p] (ht : calm s t) (hu : calm s u) : calm s (if p then t else u) := by
  split
  · exact ht
  · exact hu

theorem calm_raise {e : Event} (h : calm s t) : calm s (raise e t) :=
  h.trans ⟨fun f hf => by simp [hf], rfl, fun _ hh => hh⟩

theorem calm_serviceEvents (h : calm s t) : calm s (serviceEvents t) := calm.of_same (by simp) h

theorem calm_requestWrite (h : calm s t) : calm s (requestWrite t) := calm.of_same (by simp) h

/-! ### The hold reasons other blocks move -/

theorem calm_holdPower {b : Bool} (h : calm s t) : calm s (holdPower b t) := by
  unfold holdPower
  split
  · exact h
  next hr => exact h.of_running hr

theorem calm_holdWater {st : BoilerState} (h : calm s t) : calm s (holdWater st t) := by
  unfold holdWater
  split
  · split
    next hg => exact calm_ite (h.of_running (running_of_currentStage hg)) h
    · exact h
  · exact h.trans ⟨fun _ he => he, rfl, fun _ hh => by simp [hh, HoldSet.empty]⟩
  · exact h

theorem calm_holdTrip {k : Trip} (h : calm s t) : calm s (holdTrip k t) := by
  unfold holdTrip
  split
  next hg => exact calm_ite (h.of_running (running_of_currentStage hg)) h
  · exact h

/-! ### The boiler -/

theorem calm_writeHeater (h : calm s t) : calm s (writeHeater t) := calm.of_same (by simp) h

theorem calm_waitWaterEvent (h : calm s t) : calm s (waitWaterEvent t) := by
  unfold waitWaterEvent
  split
  · exact calm_raise h
  · split
    · exact calm_raise h
    · exact calm_raise h
    · exact calm_raise h
    · exact calm_raise h
    · exact h

theorem calm_becomeBoiler {st : BoilerState} (h : calm s t) : calm s (becomeBoiler st t) :=
  calm_writeHeater (calm_holdWater (calm_ite (calm_waitWaterEvent h) h))

theorem calm_enterWaitWater {b : Bool} (h : calm s t) : calm s (enterWaitWater b t) := calm_becomeBoiler h

theorem calm_givePulse (h : calm s t) : calm s (givePulse t) := calm_ite (calm_enterWaitWater h) h

theorem calm_judgePump (h : calm s t) : calm s (judgePump t) := calm_ite (calm_ite (calm_givePulse h) h) h

theorem calm_startFill {st : BoilerState} (h : calm s t) : calm s (startFill st t) :=
  calm_ite (calm_judgePump (calm_becomeBoiler h)) (calm_enterWaitWater h)

theorem calm_enterSteam (h : calm s t) : calm s (enterSteam t) := calm_becomeBoiler h

theorem calm_enterHeat (h : calm s t) : calm s (enterHeat t) := by
  have hheat : calm s (becomeBoiler .heat { t with sgc.pulseTimer := none }) := calm_becomeBoiler h
  exact calm_ite (calm_ite (calm_enterSteam hheat) hheat) (calm_startFill hheat)

theorem calm_enterFill (h : calm s t) : calm s (enterFill t) := calm_ite (calm_enterHeat h) (calm_startFill h)

theorem calm_enterCool (h : calm s t) : calm s (enterCool t) := calm_requestWrite (calm_becomeBoiler h)

theorem calm_enterDrain (h : calm s t) : calm s (enterDrain t) := calm_becomeBoiler h

theorem calm_enterOff (h : calm s t) : calm s (enterOff t) := by
  have hoff : calm s (becomeBoiler .off { t with sgc.drainCount := 0 }) := calm_becomeBoiler h
  exact calm_ite (calm_enterFill hoff) hoff

theorem calm_enterDryFault (h : calm s t) : calm s (enterDryFault t) := calm_ite h (calm_becomeBoiler h)

theorem calm_startSteam (h : calm s t) : calm s (startSteam t) := by
  unfold startSteam
  split
  · exact calm_enterFill h
  · exact calm_enterFill h
  · exact calm_ite (calm_ite (calm_enterSteam h) (calm_enterHeat h)) (calm_enterFill h)
  · exact h

theorem calm_stopSteam (h : calm s t) : calm s (stopSteam t) := by
  unfold stopSteam
  split
  case h_6 => exact h
  all_goals exact calm_enterCool h

theorem calm_setSteamWanted {w : Bool} (h : calm s t) : calm s (setSteamWanted w t) :=
  calm_ite h (calm_ite (calm_ite (calm_startSteam h) (calm_stopSteam h)) h)

theorem calm_judgeSteam (h : calm s t) : calm s (judgeSteam t) :=
  calm_ite (calm_setSteamWanted h) (calm_setSteamWanted (calm_ite h (calm_writeHeater h)))

theorem calm_judgeCool (h : calm s t) : calm s (judgeCool t) := calm_ite (calm_enterDrain h) h

theorem calm_judgeWait (h : calm s t) : calm s (judgeWait t) := calm_ite (calm_ite h h) h

theorem calm_boilerPublication {first : Bool} (h : calm s t) : calm s (boilerPublication first t) := by
  have hfilling : calm s (if tankReady t then judgePump (writeHeater t) else enterWaitWater false t) :=
    calm_ite (calm_judgePump (calm_writeHeater h)) (calm_enterWaitWater h)
  refine calm_ite (calm_enterDryFault h) ?_
  split
  · exact calm_ite (calm_enterCool h) h
  · exact calm_ite (calm_enterHeat h) hfilling
  · exact calm_ite (calm_ite (calm_enterSteam h) (calm_writeHeater h)) (calm_enterFill h)
  · exact calm_ite (calm_ite (calm_writeHeater h) (calm_enterHeat h)) (calm_startFill h)
  · exact calm_ite (calm_enterSteam h) hfilling
  · exact calm_judgeWait (calm_writeHeater h)
  · exact calm_judgeCool (calm_writeHeater h)
  · exact calm_writeHeater h
  · exact calm_writeHeater h

theorem calm_requestFill (h : calm s t) : calm s (requestFill t) := by
  unfold requestFill
  split
  case h_4 => exact h
  all_goals exact calm_enterFill h

theorem calm_requestDrain (h : calm s t) : calm s (requestDrain t) := by
  unfold requestDrain
  split
  case h_6 => exact h
  all_goals exact calm_enterDrain h

theorem calm_returnUser (h : calm s t) : calm s (returnUser t) := by
  have hheater : calm s (writeHeater { t with sgc.user := .climate }) := calm_writeHeater h
  exact calm_ite hheater (calm_stopSteam hheater)

/-! ### The supply and the power state -/

theorem calm_leaveStarved (h : calm s t) : calm s (leaveStarved t) := calm_holdPower h

theorem calm_leaveStarvedWithoutWork (h : calm s t) : calm s (leaveStarvedWithoutWork t) := calm_ite (calm_leaveStarved h) h

theorem calm_evalStarved (h : calm s t) : calm s (evalStarved t) :=
  calm_ite (calm_ite (calm_leaveStarved h) (calm_ite h (calm_ite h h))) (calm_ite (calm_ite h h) h)

theorem calm_recordAllowance (h : calm s t) : calm s (recordAllowance t) := calm_evalStarved h

theorem calm_startRaise (h : calm s t) : calm s (startRaise t) := calm.of_same (by simp) h

theorem calm_offerNotice {c : Nat} (h : calm s t) : calm s (offerNotice c t) := calm.of_same (by simp) h

theorem calm_compute (h : calm s t) : calm s (compute t) := calm_startRaise (calm_recordAllowance h)

theorem calm_takeRaised (h : calm s t) : calm s (takeRaised t) := by
  unfold takeRaised
  split
  · exact calm_evalStarved h
  · exact h

theorem calm_lowerClaim (h : calm s t) : calm s (lowerClaim t) := calm_ite (calm_evalStarved h) h

theorem calm_claimPoint (h : calm s t) : calm s (claimPoint t) :=
  calm_ite (calm_offerNotice (calm_lowerClaim (calm_takeRaised (calm_recordAllowance h))))
    (calm_lowerClaim (calm_takeRaised (calm_recordAllowance h)))

theorem calm_refreshFan (h : calm s t) : calm s (refreshFan t) := calm.of_same (by simp) h

theorem calm_powerChanged (h : calm s t) : calm s (powerChanged t) := calm_refreshFan (calm_judgeCool h)

theorem calm_enterStandby (h : calm s t) : calm s (enterStandby t) :=
  calm_powerChanged (calm_offerNotice (calm_recordAllowance (calm_leaveStarved h)))

theorem calm_conclude (h : calm s t) : calm s (conclude t) := calm_serviceEvents (calm_ite (calm_enterStandby h) h)

/-! ### The climate -/

theorem calm_writeRequest {o : Owner} {r : Request} (h : calm s t) : calm s (writeRequest o r t) := by
  have hrest : calm s (restRegulators { t with cr.owner := o, cr.request := some r }) := calm.of_same (by simp) h
  exact calm_refreshFan (calm_judgeSteam (calm_ite h hrest))

theorem calm_dropRequest {o : Owner} (h : calm s t) : calm s (dropRequest o t) := by
  have hrest : calm s (restRegulators { t with cr.owner := o, cr.request := none }) := calm.of_same (by simp) h
  exact calm_leaveStarvedWithoutWork (calm_refreshFan (calm_judgeSteam hrest))

theorem calm_endRequest (h : calm s t) : calm s (endRequest t) := calm_ite h (calm_dropRequest h)

theorem calm_climateTripped (h : calm s t) : calm s (climateTripped t) := by
  unfold climateTripped
  split
  · exact h
  · exact calm_endRequest h
  · exact calm_ite h (calm_dropRequest h)

theorem calm_writeStage {r : Request} (h : calm s t) : calm s (writeStage r t) :=
  calm_ite (calm_dropRequest h) (calm_writeRequest h)

/-! ### Trips and the lock -/

theorem calm_tellAdded {k : Trip} (h : calm s t) : calm s (tellAdded k t) := by
  cases k with
  | cavityOvertemp | sensor => exact calm_holdTrip (calm_climateTripped h)
  | boilerDry => exact calm_holdTrip (calm_judgeSteam (calm_enterDryFault h))
  | lock => exact calm_holdTrip (calm_ite (calm.of_same (by simp) h) h)

theorem calm_addTrip {k : Trip} (h : calm s t) : calm s (addTrip k t) := by
  have hraised : calm s (raise .trip { t with pu.trips := t.pu.trips.put k true }) := calm_raise h
  exact calm_ite h (calm_tellAdded hraised)

theorem calm_lockFault (h : calm s t) : calm s (lockFault t) := calm_addTrip h

theorem calm_travelIn (h : calm s t) : calm s (travelIn t) := calm_ite (calm_lockFault h) h

theorem calm_takeLockCommand (h : calm s t) : calm s (takeLockCommand t) := by
  unfold takeLockCommand
  split
  case h_2 | h_3 | h_4 => exact calm_travelIn h
  all_goals exact h

theorem calm_requestLock {c : LockCommand} (h : calm s t) : calm s (requestLock c t) := calm_takeLockCommand h

theorem calm_releaseIdleLock (h : calm s t) : calm s (releaseIdleLock t) := calm_ite (calm_requestLock h) h

/-! ### The descale -/

theorem calm_enterPhase {p : Phase} (h : calm s t) : calm s (enterPhase p t) := calm.of_same (by simp) h

theorem calm_setMark {m : Mark} (h : calm s t) : calm s (setMark m t) := calm.of_same (by simp) h

theorem calm_enterAwait {p : Phase} (h : calm s t) : calm s (enterAwait p t) := calm_raise (calm_enterPhase h)

theorem calm_enterLocking {f : LockingFrom} (h : calm s t) : calm s (enterLocking f t) :=
  calm_requestLock (calm_enterPhase h)

theorem calm_enterUnlocking (h : calm s t) : calm s (enterUnlocking t) := calm_requestLock (calm_enterPhase h)

theorem calm_leaveDescale (h : calm s t) : calm s (leaveDescale t) := calm_leaveStarvedWithoutWork (calm_returnUser h)

theorem calm_setAccount {a : Nat} (h : calm s t) : calm s (setAccount a t) := calm.of_same (by simp) h

theorem calm_enterDone (h : calm s t) : calm s (enterDone t) := by
  have hreset : calm s (setAccount 0 { t with sdu.mark := .none }) := calm_setAccount h
  exact calm_raise (calm_leaveDescale (calm_requestWrite hreset))

end

/-- What a move of the descale's phases can be (R146 to R152): a request to the boiler, a phase entered with what it counts
set, the lock asked for, or the end. -/
inductive PhaseMove (s : State) : State → Prop
  | fill : PhaseMove s (requestFill s)
  | drain : PhaseMove s (requestDrain s)
  | phase (p : Phase) (d : Scale) : PhaseMove s (enterPhase p { s with sdu := d })
  | await (p : Phase) (d : Scale) : PhaseMove s (enterAwait p { s with sdu := d })
  | soakFill : PhaseMove s (enterSoakFill s)
  | locking (f : LockingFrom) (h : doorOpen s = false) : PhaseMove s (enterLocking f s)
  | unlocking : PhaseMove s (enterUnlocking s)
  | done : PhaseMove s (enterDone s)

theorem setMark_eq (m : Mark) (s : State) : setMark m s = { s with sdu := (setMark m s).sdu } := by
  unfold setMark requestWrite
  split_ifs <;> rfl

theorem PhaseMove.afterLocking (s : State) : PhaseMove s (afterLocking s) := by
  unfold Machine.afterLocking
  split
  · exact .soakFill
  · exact .phase _ _
  · exact .await _ s.sdu

theorem PhaseMove.endRinseDrain (s : State) : PhaseMove s (endRinseDrain s) := by
  unfold Machine.endRinseDrain
  split
  · exact .phase _ _
  · exact .unlocking

/-- A drain that is awaited and has ended moves the phase on; one that has not is requested. -/
theorem PhaseMove.of_awaitDrain {s t v : State} {p : Prop} [Decidable p] (hv : PhaseMove s v)
    (h : (if p then some v else awaitDrain s) = some t) : PhaseMove s t := by
  unfold awaitDrain at h
  split_ifs at h
  · exact Option.some.inj h ▸ hv
  · exact Option.some.inj h ▸ .drain

theorem PhaseMove.of_some {s t v : State} {p : Prop} [Decidable p] (hv : p → PhaseMove s v)
    (h : (if p then some v else none) = some t) : PhaseMove s t := by
  split_ifs at h with hp
  exact Option.some.inj h ▸ hv hp

/-- A fill that is awaited and has led to HEAT moves the phase on; one that has not begun is requested. -/
theorem PhaseMove.of_awaitFill {s t v : State} {p q : Prop} [Decidable p] [Decidable q] (hv : PhaseMove s v)
    (h : (if p then some v else if q then some (requestFill s) else none) = some t) : PhaseMove s t := by
  split_ifs at h
  · exact Option.some.inj h ▸ hv
  · exact Option.some.inj h ▸ .fill

theorem phaseMove_of_sduNext {s t : State} (h : sduNext s = some t) : PhaseMove s t := by
  unfold sduNext at h
  split at h
  · cases h
  split at h
  case h_1 => exact .of_awaitDrain (.await _ s.sdu) h
  case h_2 => exact .of_some (fun _ => .afterLocking s) h
  case h_3 => exact .of_awaitFill (.phase _ s.sdu) h
  case h_4 => exact .of_some (fun _ => .fill) h
  case h_5 =>
    split_ifs at h
    · exact Option.some.inj h ▸ .phase _ _
    · exact Option.some.inj h ▸ .fill
  case h_6 => rw [setMark_eq] at h; exact .of_awaitDrain (.await _ _) h
  case h_7 =>
    split at h
    · exact .of_awaitFill (.phase _ _) h
    · exact .of_some (fun _ => .fill) h
    · exact .of_awaitDrain (.endRinseDrain s) h
  case h_8 => exact .of_some (fun _ => .done) h
  case h_9 | h_10 => exact .of_some (fun hc => .locking _ hc.2) h
  all_goals cases h

/-- A property that every move of the phases keeps holds once they wait. -/
theorem sduFollow_induct {P : State → Prop} (hmove : ∀ s t, P s → sduNext s = some t → P t) {s : State} (h : P s) :
    P (sduFollow s) := by
  have hfollow (n : Nat) : ∀ s, P s → P (followFor n s) := by
    induction n with
    | zero => exact fun s hs => hs
    | succ n ih =>
      intro s hs
      unfold followFor
      split
      next t ht => exact ih t (hmove s t hs ht)
      next => exact hs
  exact hfollow 8 s h

section
variable {s t u : State}

theorem calm_phaseMove (h : calm s t) (hu : PhaseMove t u) : calm s u := by
  cases hu with
  | fill => exact calm_requestFill h
  | drain => exact calm_requestDrain h
  | phase => exact calm_enterPhase h
  | await => exact calm_enterAwait h
  | soakFill => exact calm_setMark (calm_enterPhase h)
  | locking => exact calm_enterLocking h
  | unlocking => exact calm_enterUnlocking h
  | done => exact calm_enterDone h

theorem calm_sduFollow (h : calm s t) : calm s (sduFollow t) :=
  sduFollow_induct (fun _ _ hs hnext => calm_phaseMove hs (phaseMove_of_sduNext hnext)) h

theorem calm_judgeHeating (h : calm s t) : calm s (judgeHeating t) := by
  have hdemand : calm s (writePhaseDemand t) := calm.of_same (by simp) h
  refine calm_ite h ?_
  split
  · exact calm_ite (calm_enterPhase h) hdemand
  · exact hdemand
  · exact calm_ite (calm_ite (calm_enterPhase h) hdemand) h
  · exact h

theorem calm_sduPublication (h : calm s t) : calm s (sduPublication t) :=
  calm_sduFollow (calm_judgeHeating (calm_sduFollow h))

end

end Sys2Proof.Machine.Cooking
end

section
/-! What keeps agent and food apart, the slots and their states, LOCK_FAULT with its trip and RECIPE as the owner: the operations of the
lock, the descale, the recipe and the power state (R97, R155, R178, R191, R199). -/

namespace Sys2Proof.Machine.Cooking

/-! ### The four invariants together -/

/-- From `s` to `t` each of the cooking invariants is kept. -/
def kept (s t : State) : Prop :=
  (agentApart s → agentApart t) ∧ (slotsAgree s → slotsAgree t) ∧ (lockFaultTripped s → lockFaultTripped t) ∧
    (recipeOwnsClimate s → recipeOwnsClimate t)

theorem kept.refl (s : State) : kept s s := ⟨id, id, id, id⟩

/-- The two states have the same slots, the same path through the program and the same places in it. -/
def sameSlots (t u : State) : Prop :=
  u.re.slotA = t.re.slotA ∧ u.re.slotB = t.re.slotB ∧ u.re.running = t.re.running ∧ u.re.queued = t.re.queued ∧
    u.re.context = t.re.context ∧ u.re.repeats = t.re.repeats

/-- Nothing the cooking invariants read has moved, the hold reasons aside. -/
def sameCooking (t u : State) : Prop :=
  sameSlots t u ∧ u.cr.owner = t.cr.owner ∧ u.sdu.mark = t.sdu.mark ∧ u.sdu.phase = t.sdu.phase ∧
    u.pu.lock = t.pu.lock ∧ u.pu.trips.lock = t.pu.trips.lock

/-- A recipe that does not run gains no hold reason. -/
def restsOn (t u : State) : Prop := t.re.running = none → t.re.holds = .empty → u.re.holds = .empty

section
variable {s t u : State}

theorem sameSlots.running (h : sameSlots t u) : u.re.running = t.re.running := by
  obtain ⟨-, -, hr, -⟩ := h
  exact hr

theorem sameSlots.slot (h : sameSlots t u) (i : SlotId) : u.re.slot i = t.re.slot i := by
  obtain ⟨ha, hb, -⟩ := h
  cases i
  · exact ha
  · exact hb

theorem slotsAgree_of_same (hk : sameSlots t u) (hrests : restsOn t u) (h : slotsAgree t) : slotsAgree u := by
  have hslot := hk.slot
  obtain ⟨-, -, hr, hq, hc, hm⟩ := hk
  obtain ⟨hrunning, hqueued, hidle⟩ := h
  simp only [slotsAgree, hslot, hr, hq, hc, hm]
  refine ⟨hrunning, hqueued, fun hn => ?_⟩
  obtain ⟨hnone, hcontext, hempty, hholds⟩ := hidle hn
  exact ⟨hnone, hcontext, hempty, hrests hn hholds⟩

theorem lockFaultTripped_of_same (hk : u.pu.lock = t.pu.lock ∧ u.pu.trips.lock = t.pu.trips.lock)
    (h : lockFaultTripped t) : lockFaultTripped u := by
  obtain ⟨hlock, htrip⟩ := hk
  rwa [lockFaultTripped, hlock, htrip]

/-- An operation that moves no slot, that may end a MANUAL request, and that touches mark and phase only in a descale. -/
theorem kept.of_within (hslots : sameSlots t u) (hrests : restsOn t u)
    (howner : u.cr.owner = t.cr.owner ∨ t.cr.owner = .manual ∧ u.cr.owner = .none)
    (hdescale : t.sdu.phase ≠ .idle ∨ u.sdu.mark = t.sdu.mark ∧ u.sdu.phase = t.sdu.phase)
    (hlock : lockFaultTripped t → lockFaultTripped u) (h : kept s t) : kept s u := by
  obtain ⟨happart, hagree, hfault, howns⟩ := h
  refine ⟨fun hs => ?_, fun hs => slotsAgree_of_same hslots hrests (hagree hs), fun hs => hlock (hfault hs), fun hs => ?_⟩
  · intro hu
    have ht : t.sdu.mark ≠ .none ∨ t.sdu.phase ≠ .idle := by
      rcases hdescale with hp | ⟨hm, hp⟩
      · exact .inr hp
      · rwa [hm, hp] at hu
    obtain ⟨hnone, hrun⟩ := happart hs ht
    refine ⟨?_, hslots.running.trans hrun⟩
    rcases howner with ho | ⟨ho, -⟩
    · exact ho.trans hnone
    · simp [ho] at hnone
  · have ht : t.re.running ≠ none ↔ t.cr.owner = .recipe := howns hs
    rw [recipeOwnsClimate, hslots.running, ht]
    rcases howner with ho | ⟨ho, hn⟩
    · rw [ho]
    · simp [ho, hn]

theorem kept.of_same (hk : sameCooking t u) (hrests : restsOn t u) (h : kept s t) : kept s u := by
  obtain ⟨hslots, ho, hm, hp, hl, htrip⟩ := hk
  exact h.of_within hslots hrests (.inl ho) (.inr ⟨hm, hp⟩) (lockFaultTripped_of_same ⟨hl, htrip⟩)

/-- An operation of a running recipe, which leaves the descale and the lock. -/
theorem kept.of_running (hr : t.re.running ≠ none) (hslots : slotsAgree t → slotsAgree u) (hru : u.re.running ≠ none)
    (howner : u.cr.owner = .recipe ∨ u.cr.owner = t.cr.owner)
    (hk : u.sdu.mark = t.sdu.mark ∧ u.sdu.phase = t.sdu.phase ∧ u.pu.lock = t.pu.lock ∧ u.pu.trips.lock = t.pu.trips.lock)
    (h : kept s t) : kept s u := by
  obtain ⟨happart, hagree, hfault, howns⟩ := h
  obtain ⟨hm, hp, hpu⟩ := hk
  refine ⟨fun hs hu => ?_, fun hs => hslots (hagree hs), fun hs => lockFaultTripped_of_same hpu (hfault hs), fun hs => ?_⟩
  · rw [hm, hp] at hu
    exact absurd (happart hs hu).2 hr
  · have hrecipe := (howns hs).1 hr
    refine ⟨fun _ => ?_, fun _ => hru⟩
    rcases howner with ho | ho
    · exact ho
    · exact ho.trans hrecipe

/-- With no slot RUNNING or QUEUED and nothing of a run left, the slots and their states agree. -/
theorem slotsAgree_of_idle (hr : u.re.running = none) (hq : u.re.queued = none)
    (hrun : u.re.context = none ∧ u.re.repeats = [] ∧ u.re.holds = .empty) (hslot : ∀ k, (u.re.slot k).busy = false) :
    slotsAgree u := by
  simp only [Slot.busy, Bool.or_eq_false_iff, beq_eq_false_iff_ne] at hslot
  exact ⟨fun k => by simp [hr, hslot k], fun k => by simp [hq, hslot k], fun _ => ⟨hq, hrun⟩⟩

/-- A state without owner and without recipe keeps agent and food apart, whatever it follows. -/
theorem kept.of_stopped (howner : u.cr.owner = .none) (hr : u.re.running = none) (hslots : slotsAgree s → slotsAgree u)
    (hlock : lockFaultTripped s → lockFaultTripped u) : kept s u :=
  ⟨fun _ _ => ⟨howner, hr⟩, hslots, hlock, fun _ => by simp [recipeOwnsClimate, howner, hr]⟩

theorem kept.of_reset (howner : u.cr.owner = .none) (hre : u.re = .reset) (hlock : lockFaultTripped s → lockFaultTripped u) :
    kept s u := by
  refine .of_stopped howner (by rw [hre]; rfl) (fun _ => ?_) hlock
  refine slotsAgree_of_idle (by rw [hre]; rfl) (by rw [hre]; rfl) (by rw [hre]; exact ⟨rfl, rfl, rfl⟩) fun k => ?_
  rw [hre]
  cases k <;> rfl

theorem kept_ite {p : Prop} [Decidable p] (ht : kept s t) (hu : kept s u) : kept s (if p then t else u) := by
  split
  · exact ht
  · exact hu

theorem kept_dite {p : Prop} [Decidable p] (ht : p → kept s t) (hu : ¬ p → kept s u) :
    kept s (if p then t else u) := by
  split
  next hp => exact ht hp
  next hp => exact hu hp

theorem kept_serviceEvents (h : kept s t) : kept s (serviceEvents t) :=
  h.of_same (by simp [sameCooking, sameSlots]) (calm_serviceEvents (.refl t)).rests

theorem kept_conclude (h : kept s t) : kept s (conclude t) :=
  h.of_same (by simp [sameCooking, sameSlots]) (calm_conclude (.refl t)).rests

theorem kept_compute (h : kept s t) : kept s (compute t) :=
  h.of_same (by simp [sameCooking, sameSlots]) (calm_compute (.refl t)).rests

theorem kept_raise {e : Event} (h : kept s t) : kept s (raise e t) := h

/-! ### The request's owner (R97, R112, R113) -/

theorem dropRequest_owner (o : Owner) (s : State) : (dropRequest o s).cr.owner = o := by simp [dropRequest]

theorem writeRequest_owner (o : Owner) (r : Request) (s : State) : (writeRequest o r s).cr.owner = o := by
  simp only [writeRequest]
  split_ifs <;> simp

theorem endRequest_owner (s : State) : (endRequest s).cr.owner = .none := by
  unfold endRequest
  split
  · assumption
  · exact dropRequest_owner _ _

theorem writeStage_owner (r : Request) (s : State) : (writeStage r s).cr.owner = .recipe := by
  unfold writeStage
  split
  · exact dropRequest_owner _ _
  · exact writeRequest_owner _ _ _

theorem climateTripped_owner (s : State) :
    (climateTripped s).cr.owner = if s.cr.owner = .manual then .none else s.cr.owner := by
  unfold climateTripped
  split
  next ho => simp [ho]
  next ho => simp [ho, endRequest_owner]
  next ho =>
    split
    · simp [ho]
    · simp [ho, holdWithoutMode, dropRequest_owner]

theorem kept_endRequest (ho : t.cr.owner ≠ .recipe) (h : kept s t) : kept s (endRequest t) := by
  refine h.of_within (by simp [sameSlots]) (calm_endRequest (.refl t)).rests ?_ (.inr (by simp))
    (lockFaultTripped_of_same (by simp))
  rw [endRequest_owner]
  cases hm : t.cr.owner with
  | none => exact .inl rfl
  | manual => exact .inr ⟨rfl, rfl⟩
  | recipe => exact absurd hm ho

/-! ### Trips and the lock (R198 to R200, R204, R207) -/

theorem tellAdded_owner (k : Trip) (s : State) :
    (tellAdded k s).cr.owner = s.cr.owner ∨ s.cr.owner = .manual ∧ (tellAdded k s).cr.owner = .none := by
  cases k with
  | cavityOvertemp | sensor =>
    simp only [tellAdded, holdTrip_keeps, climateTripped_owner]
    split_ifs with ho
    · exact .inr ⟨ho, rfl⟩
    · exact .inl rfl
  | boilerDry => exact .inl (by simp [tellAdded])
  | lock =>
    refine .inl ?_
    simp only [tellAdded, holdTrip_keeps]
    split_ifs <;> simp

/-- A trip other than LOCK joins the set. -/
theorem kept_addTrip {k : Trip} (hk : k ≠ .lock) (h : kept s t) : kept s (addTrip k t) := by
  have hrests : restsOn t (addTrip k t) := (calm_addTrip (.refl t)).rests
  refine h.of_within (by simp [sameSlots]) hrests ?_ (.inr (by simp)) (lockFaultTripped_of_same ⟨by simp, ?_⟩)
  · unfold addTrip
    split
    · exact .inl rfl
    · exact tellAdded_owner k _
  · unfold addTrip
    split
    · rfl
    · have hput : (t.pu.trips.put k true).lock = t.pu.trips.lock := by
        cases k with
        | lock => exact absurd rfl hk
        | cavityOvertemp | boilerDry | sensor => rfl
      simpa using hput

theorem lockFaultTripped_lockFault (s : State) : lockFaultTripped (lockFault s) := by
  have hhas : (lockFault s).pu.trips.has .lock = true := addTrip_has _ _
  exact ⟨fun _ => hhas, fun _ => by simp [lockFault]⟩

theorem kept_lockFault (h : kept s t) : kept s (lockFault t) :=
  h.of_within (by simp [sameSlots]) (calm_lockFault (.refl t)).rests (.inl (by simp)) (.inr (by simp))
    fun _ => lockFaultTripped_lockFault t

theorem lock_ne_fault (h : lockFaultTripped t) (ht : t.pu.trips.lock = false) : t.pu.lock ≠ .fault := by
  intro hf
  simp [h.1 hf] at ht

/-- A lock command taken where the lock is no LOCK_FAULT begins a travel, or ends in LOCK_FAULT with its trip. -/
theorem lockFaultTripped_takeLockCommand (h : lockFaultTripped t) (ht : t.pu.trips.lock = false) :
    lockFaultTripped (takeLockCommand t) := by
  have htravel (l : LockState) (hl : l ≠ .fault) : lockFaultTripped (travel l t) := by
    simp [lockFaultTripped, travel, hl, ht]
  have hin : lockFaultTripped (travelIn t) := by
    unfold travelIn
    split
    · exact lockFaultTripped_lockFault t
    · exact htravel _ (by decide)
  unfold takeLockCommand
  split
  case h_2 | h_3 | h_4 => exact hin
  case h_7 | h_8 | h_9 => exact htravel _ (by decide)
  all_goals exact h

theorem lockFaultTripped_requestLock {c : LockCommand} (h : lockFaultTripped t) (ht : t.pu.trips.lock = false) :
    lockFaultTripped (requestLock c t) := lockFaultTripped_takeLockCommand (t := { t with pu.command := c }) h ht

theorem kept_requestLock {c : LockCommand} (ht : lockFaultTripped t → t.pu.trips.lock = false) (h : kept s t) :
    kept s (requestLock c t) :=
  h.of_within (by simp [sameSlots]) (calm_requestLock (.refl t)).rests (.inl (by simp)) (.inr (by simp))
    fun hl => lockFaultTripped_requestLock hl (ht hl)

theorem kept_releaseIdleLock (h : kept s t) : kept s (releaseIdleLock t) := by
  refine kept_dite (fun hc => kept_requestLock (fun hl => ?_) h) fun _ => h
  obtain ⟨-, -, hlocked⟩ := hc
  rw [lockFaultTripped, hlocked] at hl
  simpa using hl

theorem lockFromFeedback_ne_fault (s : State) : lockFromFeedback s ≠ .fault := by
  unfold lockFromFeedback
  split <;> decide

theorem kept_endTravel (h : kept s t) : kept s (endTravel t) := by
  refine h.of_within (by simp [sameSlots]) (fun _ hh => by simpa using hh) (.inl (by simp)) (.inr (by simp)) fun hl => ?_
  unfold endTravel
  split
  next hlock _ => simpa [lockFaultTripped, hlock] using hl
  next hlock _ => simpa [lockFaultTripped, hlock] using hl
  · exact hl

/-- The lock state that the first publication of LOCK_FB gives, or the end of a travel (R198, R207). -/
theorem kept_lockRead {p : Prop} [Decidable p] (hp : p → t.pu.trips.lock = false) (h : kept s t) :
    kept s (if p then { t with pu.lock := lockFromFeedback t } else endTravel t) := by
  refine kept_dite (fun hc => ?_) fun _ => kept_endTravel h
  refine h.of_within (t := t) (by simp [sameSlots]) (fun _ hh => hh) (.inl rfl) (.inr ⟨rfl, rfl⟩) fun _ => ?_
  simp [lockFaultTripped, hp hc, lockFromFeedback_ne_fault]

theorem kept_lockFaultIf (h : kept s t) : kept s (if lockContradicted t then lockFault t else t) :=
  kept_ite (kept_lockFault h) h

theorem kept_lockPublication {first : Bool} (h : kept s t) : kept s (lockPublication first t) := by
  have hjudged := kept_lockFaultIf (kept_lockRead (p := first = true ∧ t.pu.trips.lock = false) And.right h)
  exact kept_ite (kept_releaseIdleLock hjudged) hjudged

theorem kept_addTripIf {k : Trip} {p : Prop} [Decidable p] (hk : k ≠ .lock) (h : kept s t) :
    kept s (if p then addTrip k t else t) := kept_ite (kept_addTrip hk h) h

theorem kept_tripPublication (h : kept s t) : kept s (tripPublication t) :=
  kept_addTripIf (by decide) (kept_addTripIf (by decide) (kept_addTripIf (by decide) h))

/-! ### The descale (R146 to R156) -/

/-- An operation of a descale in progress that leaves the recipe, the climate's owner and the lock. -/
theorem kept.of_descale (hp : t.sdu.phase ≠ .idle) (hslots : sameSlots t u) (hrests : restsOn t u)
    (hk : u.cr.owner = t.cr.owner ∧ u.pu.lock = t.pu.lock ∧ u.pu.trips.lock = t.pu.trips.lock) (h : kept s t) : kept s u := by
  obtain ⟨ho, hpu⟩ := hk
  exact h.of_within hslots hrests (.inl ho) (.inl hp) (lockFaultTripped_of_same hpu)

theorem kept_enterPhase {p : Phase} (hp : t.sdu.phase ≠ .idle) (h : kept s t) : kept s (enterPhase p t) :=
  h.of_descale hp (by simp [sameSlots]) (fun _ hh => by simpa using hh) (by simp)

theorem lockFaultTripped_phaseMove (h : lockFaultTripped t) (ht : t.pu.trips.lock = false) (hu : PhaseMove t u) :
    lockFaultTripped u := by
  have henter (p : Phase) (d : Scale) : lockFaultTripped (enterPhase p { t with sdu := d }) :=
    lockFaultTripped_of_same (by simp) h
  cases hu with
  | phase => exact henter _ _
  | locking => exact lockFaultTripped_requestLock (henter _ _) (by simpa using ht)
  | unlocking => exact lockFaultTripped_requestLock (henter _ t.sdu) (by simpa using ht)
  | fill | drain | await | soakFill | done => exact lockFaultTripped_of_same (by simp) h

theorem kept_sduNext (h : kept s t) (hu : sduNext t = some u) : kept s u := by
  have hphase : t.sdu.phase ≠ .idle := fun hp => by simp [sduNext_idle hp] at hu
  have htrip : t.pu.trips.lock = false := by
    cases hl : t.pu.trips.lock with
    | false => rfl
    | true => simp [sduNext_frozen hl] at hu
  have hmove := phaseMove_of_sduNext hu
  have hframe := sduNext_keeps hu
  exact h.of_within (by simp [sameSlots, hframe]) (calm_phaseMove (.refl t) hmove).rests (.inl (by simp [hframe]))
    (.inl hphase) fun hl => lockFaultTripped_phaseMove hl htrip hmove

theorem kept_sduFollow (h : kept s t) : kept s (sduFollow t) := sduFollow_induct (fun _ _ => kept_sduNext) h

theorem kept_writePhaseDemand (h : kept s t) : kept s (writePhaseDemand t) :=
  h.of_same (by simp [sameCooking, sameSlots]) fun _ hh => by simpa using hh

theorem kept_judgeHeating (h : kept s t) : kept s (judgeHeating t) := by
  have hdemand := kept_writePhaseDemand h
  refine kept_ite h ?_
  split
  next hp => exact kept_ite (kept_enterPhase (t := { t with sdu.soakCount := 0 }) (by simp [hp]) h) hdemand
  · exact hdemand
  next hp =>
    refine kept_ite (kept_ite ?_ hdemand) h
    exact kept_enterPhase (t := { t with sdu.rinseStep := .drain, sdu.drained := false }) (by simp [hp]) h
  · exact h

theorem kept_sduPublication (h : kept s t) : kept s (sduPublication t) :=
  kept_sduFollow (kept_judgeHeating (kept_sduFollow h))

theorem kept_endRinseHeat (hp : t.sdu.phase ≠ .idle) (h : kept s t) : kept s (endRinseHeat t) :=
  kept_sduFollow (kept_enterPhase (t := { t with sdu.rinseStep := .drain, sdu.drained := false }) hp h)

theorem kept_addMetered (h : kept s t) : kept s (addMetered t) :=
  h.of_same (by simp [sameCooking, sameSlots]) fun _ hh => by simpa using hh

theorem kept_soakTick (h : kept s t) : kept s (soakTick t) := by
  have hcounted : kept s { t with sdu.soakCount := min (t.sdu.soakCount + 1) 1200 } := h
  exact kept_ite (kept_ite (kept_sduFollow hcounted) hcounted) h

theorem phase_of_rinseHeating (h : rinseHeating t = true) : t.sdu.phase ≠ .idle := by
  intro hp
  simp [rinseHeating, hp] at h

theorem kept_heatingTick (h : kept s t) : kept s (heatingTick t) := by
  refine kept_dite (fun hr => ?_) fun _ => h
  have hcounted : kept s { t with sdu.heatingTime := t.sdu.heatingTime + 1 } := h
  exact kept_ite (kept_endRinseHeat (phase_of_rinseHeating hr) hcounted) hcounted

theorem kept_meteringTick (h : kept s t) : kept s (meteringTick t) := kept_heatingTick (kept_soakTick (kept_addMetered h))

theorem kept_enterDrainAgent (hp : t.sdu.phase ≠ .idle) (h : kept s t) : kept s (enterDrainAgent t) :=
  kept_enterPhase (t := { t with sdu.drained := false }) hp h

theorem kept_redirect (h : kept s t) : kept s (redirect t) := by
  unfold redirect
  split
  case h_5 => exact h
  all_goals
    next hp => exact kept_sduFollow (kept_enterDrainAgent (by simp [hp]) h)

theorem kept_resumeDescale (h : kept s t) : kept s (resumeDescale t) := kept_sduFollow (kept_writePhaseDemand h)

theorem kept_judgeRecovery (h : kept s t) : kept s (judgeRecovery t) := kept_ite (kept_ite h (kept_sduFollow h)) h

theorem kept_leaveDescale (hp : t.sdu.phase ≠ .idle) (h : kept s t) : kept s (leaveDescale t) :=
  h.of_descale hp (by simp [sameSlots]) (calm_leaveDescale (.refl t)).rests (by simp)

/-- The boiler is taken with no request held and no recipe running (R145). -/
theorem kept_startDescale (ho : t.cr.owner = .none) (hr : t.re.running = none) (h : kept s t) : kept s (startDescale t) := by
  obtain ⟨happart, hagree, hfault, howns⟩ := h
  refine kept_sduFollow ⟨fun _ _ => by simp [ho, hr], fun hs => slotsAgree_of_same (by simp [sameSlots]) ?_ (hagree hs),
    fun hs => lockFaultTripped_of_same (by simp) (hfault hs), fun hs => ?_⟩
  · exact fun _ hh => by simpa using hh
  · simp [recipeOwnsClimate, ho, hr]

theorem kept_confirmDescale {c : ConfirmStep} (hp : t.sdu.phase ≠ .idle) (ht : t.pu.trips.lock = false) (h : kept s t) :
    kept s (confirmDescale c t) := by
  cases c with
  | agent =>
    have hentered := kept_enterPhase (t := { t with sdu.lockingFrom := .awaitAgent }) (p := .locking) hp h
    exact kept_sduFollow (kept_requestLock (fun _ => by simpa using ht) hentered)
  | rinse =>
    exact kept_sduFollow
      (kept_enterPhase (t := { t with sdu.rinseCycle := 1, sdu.rinseStep := .fill, sdu.drained := false }) hp h)

theorem kept_abortDescale (h : kept s t) : kept s (abortDescale t) := by
  unfold abortDescale
  split
  next hp => exact kept_leaveDescale (by simp [hp]) h
  next hp => exact kept_leaveDescale (by simp [hp]) h
  · exact kept_redirect h

end

end Sys2Proof.Machine.Cooking
end

section
/-! Running a recipe, the power state, the orders and every command: CookingInvariantsKept (R97, R155, R178, R191, R199). -/

namespace Sys2Proof.Machine.Cooking

open Sharing

/-! ### The slots under the recipe's operations (R163 to R171, R178, R191, R192) -/

section
variable {s t u : State} {i : SlotId}

theorem slot_setSlot (i j : SlotId) (x : Slot) (s : State) :
    (setSlot i x s).re.slot j = if j = i then x else s.re.slot j := by
  cases i <;> cases j <;> rfl

/-- A slot is replaced by one that is RUNNING or QUEUED where it was. -/
theorem slotsAgree_setSlot {x : Slot} (hr : x.state = .running ↔ (t.re.slot i).state = .running)
    (hq : x.state = .queued ↔ (t.re.slot i).state = .queued) (h : slotsAgree t) : slotsAgree (setSlot i x t) := by
  obtain ⟨hrunning, hqueued, hidle⟩ := h
  refine ⟨fun j => ?_, fun j => ?_, by simpa [setSlot] using hidle⟩
  · rw [slot_setSlot]
    split_ifs with hj
    · rw [hr, hj]
      simpa [setSlot] using hrunning i
    · simpa [setSlot] using hrunning j
  · rw [slot_setSlot]
    split_ifs with hj
    · rw [hq, hj]
      simpa [setSlot] using hqueued i
    · simpa [setSlot] using hqueued j

theorem kept_setSlot {x : Slot} (hr : x.state = .running ↔ (t.re.slot i).state = .running)
    (hq : x.state = .queued ↔ (t.re.slot i).state = .queued) (h : kept s t) : kept s (setSlot i x t) := by
  obtain ⟨happart, hagree, hfault, howns⟩ := h
  refine ⟨fun hs => ?_, fun hs => slotsAgree_setSlot hr hq (hagree hs), hfault, fun hs => ?_⟩
  · simpa [agentApart, setSlot] using happart hs
  · simpa [recipeOwnsClimate, setSlot] using howns hs

/-- A slot that is neither RUNNING nor QUEUED is loaded, closed or emptied. -/
theorem kept_setSlot_free {x : Slot} (hx : x.busy = false) (ht : (t.re.slot i).busy = false) (h : kept s t) :
    kept s (setSlot i x t) := by
  simp only [Slot.busy, Bool.or_eq_false_iff, beq_eq_false_iff_ne] at hx ht
  exact kept_setSlot (by simp [hx, ht]) (by simp [hx, ht]) h

/-! ### The stage in progress -/

theorem kept_enterStage {k : Nat} {st : Stage} (hr : t.re.running ≠ none) (h : kept s t) : kept s (enterStage k st t) := by
  refine h.of_running hr (fun ht => ?_) (by simpa using hr) ?_ (by simp)
  · obtain ⟨hrunning, hqueued, -⟩ := ht
    have hslot (j : SlotId) : (enterStage k st t).re.slot j = t.re.slot j := by cases j <;> simp
    refine ⟨fun j => ?_, fun j => ?_, fun hn => ?_⟩
    · simpa [hslot] using hrunning j
    · simpa [hslot] using hqueued j
    · simp [hr] at hn
  · cases st with
    | heating r c l p =>
      refine .inl ?_
      simp only [enterStage]
      split_ifs <;> simp [writeStage_owner]
    | prompt | loop | finish =>
      refine .inr ?_
      simp only [enterStage]
      split_ifs <;> simp

theorem running_of_stageAt {k : Nat} {st : Stage} (h : stageAt t k = some st) : t.re.running ≠ none := by
  intro hr
  simp [stageAt, hr] at h

theorem kept_writeStage {r : Request} (hr : t.re.running ≠ none) (h : kept s t) : kept s (writeStage r t) :=
  h.of_running hr (slotsAgree_of_same (by simp [sameSlots]) (calm_writeStage (.refl t)).rests) (by simpa using hr)
    (.inl (writeStage_owner _ _)) (by simp)

theorem kept_firstPrompt (hr : t.re.running ≠ none) (h : kept s t) : kept s (firstPrompt t) := by
  unfold firstPrompt
  split
  · exact h.of_running hr (slotsAgree_of_same (by simp [sameSlots]) (calm_dropRequest (.refl t)).rests) (by simpa using hr)
      (.inl (dropRequest_owner _ _)) (by simp)
  · exact h

/-! ### The start and the end of a program -/

theorem slot_markSlot (i j : SlotId) (st : SlotState) (s : State) :
    (markSlot i st s).re.slot j = if j = i then { s.re.slot i with state := st } else s.re.slot j := slot_setSlot _ _ _ _

theorem ne_of_slotsAgree (h : slotsAgree t) {j : SlotId} (hr : t.re.running = some i) (hq : t.re.queued = some j) : j ≠ i := by
  obtain ⟨hrunning, hqueued, -⟩ := h
  rintro rfl
  have hi := (hrunning j).2 hr
  rw [(hqueued j).2 hq] at hi
  cases hi

/-- A slot that is neither the running nor the queued one is neither RUNNING nor QUEUED. -/
theorem free_of_slotsAgree (h : slotsAgree t) {k : SlotId} (hr : t.re.running ≠ some k) (hq : t.re.queued ≠ some k) :
    (t.re.slot k).busy = false := by
  obtain ⟨hrunning, hqueued, -⟩ := h
  simp [Slot.busy, hrunning, hqueued, hr, hq]

theorem finishProgram_eq (hr : t.re.running = some i) :
    finishProgram t = raise .recipeDone (dropRun (markSlot i .ready t)) := by simp [finishProgram, hr]

theorem slot_finishProgram (hr : t.re.running = some i) (j : SlotId) :
    (finishProgram t).re.slot j = if j = i then { t.re.slot i with state := .ready } else t.re.slot j := by
  rw [finishProgram_eq hr]
  exact slot_markSlot i j .ready t

/-- The program of the running slot has ended, and no slot is queued. -/
theorem kept_finishProgram (hr : t.re.running = some i) (hq : t.re.queued = none) (h : kept s t) :
    kept s (endRequest { finishProgram t with re.running := none }) := by
  obtain ⟨-, hagree, hfault, -⟩ := h
  refine .of_stopped (endRequest_owner _) (by simp) (fun hs => ?_) fun hs => lockFaultTripped_of_same (by simp) (hfault hs)
  refine slotsAgree_of_same (by simp [sameSlots]) (calm_endRequest (.refl _)).rests ?_
  refine slotsAgree_of_idle rfl (by simp [finishProgram, hr, markSlot, dropRun, setSlot, hq]) ⟨rfl, rfl, rfl⟩ fun k => ?_
  refine (congrArg Slot.busy (slot_finishProgram hr k)).trans ?_
  split_ifs with hk
  · rfl
  · exact free_of_slotsAgree (hagree hs) (by simp [hr, Ne.symm hk]) (by simp [hq])

/-- A slot that is READY becomes the running one, where none runs and none waits. -/
theorem slotsAgree_run {j : SlotId} (hr : t.re.running = some j) (hq : t.re.queued = none)
    (hslot : ∀ k, k ≠ j → (t.re.slot k).busy = false) : slotsAgree (markSlot j .running t) := by
  simp only [Slot.busy, Bool.or_eq_false_iff, beq_eq_false_iff_ne] at hslot
  refine ⟨fun k => ?_, fun k => ?_, fun hn => ?_⟩
  · rw [slot_markSlot]
    split_ifs with hk
    · simp [markSlot, setSlot, hr, hk]
    · simp [markSlot, setSlot, hr, hslot k hk, Ne.symm hk]
  · rw [slot_markSlot]
    split_ifs with hk
    · simp [markSlot, setSlot, hq]
    · simp [markSlot, setSlot, hq, hslot k hk]
  · simp [markSlot, setSlot, hr] at hn

/-- The program has ended, and the queued slot runs on (R191). -/
theorem kept_chain {j : SlotId} (hr : t.re.running = some i) (hq : t.re.queued = some j) (h : kept s t) :
    kept s (runSlot j { finishProgram t with re.queued := none }) := by
  refine kept_firstPrompt (by simp [markSlot, setSlot]) ?_
  refine h.of_running (by simp [hr]) (fun ht => ?_) (by simp [markSlot, setSlot]) (.inr ?_) ?_
  · refine slotsAgree_run rfl rfl fun k hk => (congrArg Slot.busy (slot_finishProgram hr k)).trans ?_
    split_ifs with hki
    · rfl
    · exact free_of_slotsAgree ht (by simp [hr, Ne.symm hki]) (by simp [hq, Ne.symm hk])
  · simp
  · simp

theorem kept_setRepeats {m : List (Nat × Nat)} (hr : t.re.running ≠ none) (h : kept s t) :
    kept s { t with re.repeats := m } :=
  h.of_running hr (fun ⟨hrunning, hqueued, _⟩ => ⟨hrunning, hqueued, fun hn => absurd hn hr⟩) hr (.inr rfl)
    ⟨rfl, rfl, rfl, rfl⟩

theorem kept_reach {n k : Nat} (h : kept s t) : kept s (reach n k t) := by
  induction n generalizing k t with
  | zero => exact h
  | succ n ih =>
    unfold reach
    split
    next hst =>
      have hr := running_of_stageAt hst
      exact kept_ite (ih (kept_setRepeats hr h)) (ih (kept_setRepeats hr h))
    next hst =>
      obtain ⟨i, hr⟩ := Option.ne_none_iff_exists'.1 (running_of_stageAt hst)
      dsimp only
      split
      next hq => exact ih (kept_chain hr hq h)
      next hq => exact kept_finishProgram hr hq h
    next hst => exact kept_enterStage (running_of_stageAt hst) h
    · exact h

theorem kept_endStage (h : kept s t) : kept s (endStage t) := by
  unfold endStage
  split
  · exact kept_reach h
  · exact h

/-- The clocks of the stage in progress. -/
theorem kept_setContext {c : StageContext} (hr : t.re.running ≠ none) (h : kept s t) :
    kept s { t with re.context := some c } :=
  h.of_running hr (fun ⟨hrunning, hqueued, _⟩ => ⟨hrunning, hqueued, fun hn => absurd hn hr⟩) hr (.inr rfl)
    ⟨rfl, rfl, rfl, rfl⟩

theorem kept_stageTick (h : kept s t) : kept s (stageTick t) := by
  unfold stageTick
  split
  next st c hst _ =>
    have hclocks : kept s { t with re.context := some (tickClocks st c t) } :=
      kept_setContext (running_of_currentStage hst) h
    dsimp only
    split
    · exact hclocks
    · exact kept_endStage hclocks
    · exact kept_endStage (kept_raise hclocks)
  · exact h

theorem kept_setHolds {x : HoldSet} (hr : t.re.running ≠ none) (h : kept s t) : kept s { t with re.holds := x } :=
  h.of_running hr (fun ⟨hrunning, hqueued, _⟩ => ⟨hrunning, hqueued, fun hn => absurd hn hr⟩) hr (.inr rfl)
    ⟨rfl, rfl, rfl, rfl⟩

theorem kept_probePublication (h : kept s t) : kept s (probePublication t) := by
  unfold probePublication
  split
  next hst => exact kept_ite (kept_setHolds (running_of_currentStage hst) h) h
  · exact h

theorem kept_judgeTripHold (h : kept s t) : kept s (judgeTripHold t) := by
  unfold judgeTripHold
  split
  next hst =>
    have hr := running_of_currentStage hst
    refine kept_ite ?_ h
    dsimp only
    split
    · exact kept_writeStage hr (kept_setHolds hr h)
    · exact kept_setHolds hr h
  · exact h

/-- A start that is not refused finds its slot READY, and no descale (R177). -/
theorem startRefusal_none (h : startRefusal i t = none) :
    (t.re.slot i).state = .ready ∧ t.sdu.phase = .idle ∧ t.sdu.mark = .none := by
  simp [startRefusal, firstOf] at h
  tauto

/-- There are two slots. -/
theorem slotId_eq_of_ne {i k r : SlotId} (hk : k ≠ i) (hr : r ≠ i) : k = r := by
  cases i <;> cases k <;> cases r <;> trivial

/-- A slot that is READY is queued behind the running one; no other slot can have been queued (R178). -/
theorem slotsAgree_queue (hready : (t.re.slot i).state = .ready) (hr : t.re.running ≠ none) (h : slotsAgree t) :
    slotsAgree (markSlot i .queued { t with re.queued := some i }) := by
  obtain ⟨hrunning, hqueued, -⟩ := id h
  obtain ⟨r, hrun⟩ := Option.ne_none_iff_exists'.1 hr
  have hri : r ≠ i := by
    rintro rfl
    simp [(hrunning r).2 hrun] at hready
  have hslot (k : SlotId) : ({ t with re.queued := some i } : State).re.slot k = t.re.slot k := by cases k <;> rfl
  have hfields : (markSlot i .queued { t with re.queued := some i }).re.running = t.re.running ∧
      (markSlot i .queued { t with re.queued := some i }).re.queued = some i := by simp [markSlot, setSlot]
  refine ⟨fun k => ?_, fun k => ?_, fun hn => ?_⟩
  · rw [slot_markSlot, hfields.1, ← hrunning k, hslot, hslot]
    split_ifs with hk
    · simp [hk, hready]
    · rfl
  · rw [slot_markSlot, hfields.2, hslot, hslot]
    split_ifs with hk
    · simp [hk]
    · simp [slotId_eq_of_ne hk hri, (hrunning r).2 hrun, Ne.symm hri]
  · exact absurd (hfields.1.symm.trans hn) hr

/-- A slot that is READY starts, or is queued behind the running one, with no descale (R178). -/
theorem kept_startRecipe (hready : (t.re.slot i).state = .ready) (hphase : t.sdu.phase = .idle) (hmark : t.sdu.mark = .none)
    (h : kept s t) : kept s (startRecipe i t) := by
  obtain ⟨-, hagree, hfault, howns⟩ := h
  refine kept_dite (fun hr => ?_) fun hr => ?_
  · refine kept_reach (kept_firstPrompt (by simp [markSlot, setSlot]) ⟨fun _ hbusy => ?_, fun hs => ?_, hfault, fun _ => ?_⟩)
    · simp [hphase, hmark] at hbusy
    · obtain ⟨-, -, hidle⟩ := id (hagree hs)
      have hq : t.re.queued = none := (hidle hr).1
      exact slotsAgree_run rfl hq fun k _ => free_of_slotsAgree (hagree hs) (by simp [hr]) (by simp [hq])
    · exact ⟨fun _ => rfl, fun _ => by simp [markSlot, setSlot]⟩
  · refine ⟨fun _ hbusy => ?_, fun hs => slotsAgree_queue hready hr (hagree hs), hfault, fun hs => ?_⟩
    · simp [hphase, hmark] at hbusy
    · simpa [recipeOwnsClimate, markSlot, setSlot] using howns hs

theorem abortRecipe_idle (hr : t.re.running = none) : abortRecipe t = t := by simp [abortRecipe, hr]

/-- The slots an abort leaves: the running and the queued one are READY again (R192). -/
def slotsAborted (i : SlotId) (s : State) : State :=
  match s.re.queued with
  | some j => markSlot j .ready (markSlot i .ready s)
  | none => markSlot i .ready s

theorem abortRecipe_running (hr : t.re.running = some i) :
    abortRecipe t =
      raise .recipeAborted (endRequest (dropRun { slotsAborted i t with re.running := none, re.queued := none })) := by
  cases hq : t.re.queued with
  | none => simp only [abortRecipe, slotsAborted, hr, hq]
  | some j => simp only [abortRecipe, slotsAborted, hr, hq]

theorem slotsAborted_free (hr : t.re.running = some i) (h : slotsAgree t) (k : SlotId) :
    ((slotsAborted i t).re.slot k).busy = false := by
  unfold slotsAborted
  split
  next j hq =>
    rw [slot_markSlot, slot_markSlot, slot_markSlot]
    split_ifs with hkj hji hki
    · rfl
    · rfl
    · rfl
    · exact free_of_slotsAgree h (by simp [hr, Ne.symm hki]) (by simp [hq, Ne.symm hkj])
  next hq =>
    rw [slot_markSlot]
    split_ifs with hki
    · rfl
    · exact free_of_slotsAgree h (by simp [hr, Ne.symm hki]) (by simp [hq])

theorem slotsAgree_abortRecipe (h : slotsAgree t) : slotsAgree (abortRecipe t) := by
  cases hr : t.re.running with
  | none => rwa [abortRecipe_idle hr]
  | some i =>
    rw [abortRecipe_running hr]
    refine slotsAgree_of_same (t := dropRun { slotsAborted i t with re.running := none, re.queued := none })
      (by simp [sameSlots]) (calm_endRequest (.refl _)).rests ?_
    exact slotsAgree_of_idle rfl rfl ⟨rfl, rfl, rfl⟩ (slotsAborted_free hr h)

theorem abortRecipe_running_none (s : State) : (abortRecipe s).re.running = none := by
  cases hr : s.re.running with
  | none => rwa [abortRecipe_idle hr]
  | some i =>
    rw [abortRecipe_running hr]
    simp [dropRun]

theorem kept_abortRecipe (h : kept s t) : kept s (abortRecipe t) := by
  cases hr : t.re.running with
  | none => rwa [abortRecipe_idle hr]
  | some i =>
    obtain ⟨-, hagree, hfault, -⟩ := h
    refine .of_stopped ?_ (abortRecipe_running_none t) (fun hs => slotsAgree_abortRecipe (hagree hs))
      fun hs => lockFaultTripped_of_same (by simp) (hfault hs)
    rw [abortRecipe_running hr]
    exact endRequest_owner _

/-! ### The power state (R20, R21, R56, R204, R205) -/

theorem kept_powerChanged (h : kept s t) : kept s (powerChanged t) :=
  h.of_same (by simp [sameCooking, sameSlots]) (calm_powerChanged (.refl t)).rests

theorem kept_wakeUp (h : kept s t) : kept s (wakeUp t) := by
  unfold wakeUp
  split
  · refine kept_judgeRecovery (kept_powerChanged (kept.of_same (by simp [sameCooking, sameSlots]) ?_ h))
    exact (calm_startRaise (calm_offerNotice (calm_recordAllowance (.refl { t with od.power := .active, link.silence := some 0 })))).rests
  · exact kept_judgeRecovery (kept_powerChanged (kept_compute h))
  · exact h

theorem kept_windDown (h : kept s t) : kept s (windDown t) := kept_powerChanged (kept_compute h)

theorem kept_goToSleep (h : kept s t) : kept s (goToSleep t) :=
  kept_ite (kept_conclude (kept_windDown (kept_dite (fun hm => kept_endRequest (by simp [hm]) h) fun _ => h))) h

/-- CONSOLE_LOST ends the request and the recipe together (R205). -/
theorem kept_consoleLost (h : kept s t) : kept s (consoleLost t) := by
  have hended : kept s (abortRecipe (endRequest t)) := by
    obtain ⟨-, hagree, hfault, -⟩ := h
    refine .of_stopped ?_ (abortRecipe_running_none _) (fun hs => slotsAgree_abortRecipe ?_)
      fun hs => lockFaultTripped_of_same (by simp) (hfault hs)
    · cases hr : (endRequest t).re.running with
      | none => rw [abortRecipe_idle hr, endRequest_owner]
      | some i =>
        rw [abortRecipe_running hr]
        exact endRequest_owner _
    · exact slotsAgree_of_same (by simp [sameSlots]) (calm_endRequest (.refl t)).rests (hagree hs)
  have hredirected := kept_redirect hended
  exact kept_ite (kept_windDown hredirected) hredirected

/-- LOCK leaves the set, and the lock state is taken from the feedback (R204). -/
theorem kept_unlockTrip (h : kept s t) : kept s (unlockTrip { t with pu.trips := t.pu.trips.put .lock false }) := by
  have hread : lockFaultTripped { t with pu.trips := t.pu.trips.put .lock false, pu.lock := lockFromFeedback t } := by
    simp [lockFaultTripped, lockFromFeedback_ne_fault, TripSet.put]
  refine kept_resumeDescale (kept_releaseIdleLock (h.of_within (by simp [sameSlots]) ?_ (.inl (by simp)) (.inr (by simp))
    fun _ => lockFaultTripped_takeLockCommand hread rfl))
  exact (calm_takeLockCommand (.refl { t with pu.trips := t.pu.trips.put .lock false, pu.lock := lockFromFeedback t })).rests

theorem kept_releaseBoiler (h : kept s t) : kept s (releaseBoiler t) := by
  have hoff : kept s (enterOff t) :=
    h.of_same (by simp [sameCooking, sameSlots]) (calm_enterOff (.refl t)).rests
  have hjudged {u : State} (hu : kept s u) : kept s (judgeSteam u) :=
    hu.of_same (by simp [sameCooking, sameSlots]) (calm_judgeSteam (.refl u)).rests
  exact kept_sduFollow (hjudged (kept_ite hoff h))

theorem kept_clearOne {k : Trip} (h : kept s t) : kept s (clearOne k t) := by
  have hput (hk : (t.pu.trips.put k false).lock = t.pu.trips.lock) : kept s { t with pu.trips := t.pu.trips.put k false } :=
    h.of_same (t := t) ⟨⟨rfl, rfl, rfl, rfl, rfl, rfl⟩, rfl, rfl, rfl, rfl, hk⟩ fun _ hh => hh
  refine kept_ite (kept_judgeTripHold ?_) h
  cases k with
  | cavityOvertemp | sensor => exact hput rfl
  | boilerDry => exact kept_releaseBoiler (hput rfl)
  | lock => exact kept_unlockTrip h

theorem kept_clearTrips (h : kept s t) : kept s (clearTrips t) :=
  kept_clearOne (kept_clearOne (kept_clearOne (kept_clearOne h)))

/-! ### The restart and the supply (R33, R34, R140, R141) -/

theorem lockFaultTripped_restartProtection (s : State) : lockFaultTripped (restartProtection s) := by
  simp only [lockFaultTripped, restartProtection]
  split_ifs with h <;> simp [h]

theorem kept_restartBlocks : kept s (restartBlocks t) := by
  refine kept.of_same (t := restartScale (restartBoiler (restartProtection
      { restartPlanner (restartSupply (restartDecoder t)) with mu := .resetWith t.mu.mains, cr := .reset, re := .reset })))
    (by simp [sameCooking, sameSlots, restartBlocks]) (calm_recordAllowance (.refl _)).rests ?_
  refine .of_reset (by simp; rfl) (by simp) fun _ => ?_
  exact lockFaultTripped_of_same (t := restartProtection t) (by simp [restartProtection]) (lockFaultTripped_restartProtection t)

theorem kept_restartEffect : kept s (restartEffect t) :=
  kept_serviceEvents (kept.of_same (by simp [sameCooking, sameSlots]) (fun _ hh => by simpa using hh)
    (kept_restartBlocks (t := restartLink t)))

theorem kept_acceptRestart (h : kept s t) : kept s (acceptRestart t) := by
  have hoffered : kept s (offer (.notice (leaveNotice t)) (abandonRaise { t with od.restartPending := true })) :=
    h.of_same (by simp [sameCooking, sameSlots]) fun _ hh => by simpa using hh
  exact kept_ite h (kept_ite (kept_ite hoffered kept_restartEffect) kept_restartBlocks)

theorem kept_powerUp (store : StoredRecord) : kept s (powerUp store t) :=
  .of_reset rfl rfl fun _ => by simp [lockFaultTripped, powerUp, State.reset, Protection.reset, TripSet.empty]

theorem kept_powerOn (config : Option (List Byte)) (retained : RetainedRead) : kept s (powerOn config retained t) := by
  unfold powerOn
  dsimp only
  split
  next c _ =>
    refine .of_reset (by simp; rfl) (by simp; rfl) fun _ => ?_
    refine lockFaultTripped_of_same (t := .reset) (by simp; exact ⟨rfl, rfl⟩) ?_
    simp [lockFaultTripped, State.reset, Protection.reset, TripSet.empty]
  · exact kept_powerUp (t := t) ((foundRecord retained t.store).getD t.store)

/-! ### The orders -/

theorem kept_runOrder {α : Type} {sender : Addr} {parsed : Option α} {busy : Bool} {refusal : α → Option Reason}
    {act : α → State} (hact : ∀ a, refusal a = none → kept s (act a)) : kept s (runOrder sender parsed busy refusal act s) := by
  rcases runOrder_cases sender parsed busy refusal act s with ⟨c, -, he⟩ | ⟨a, -, -, -, -, hnone, he⟩
  · rw [he]
    exact kept.refl s
  · rw [he]
    exact hact a hnone

theorem recipeState_idle_iff (s : State) : recipeState s = .idle ↔ s.re.running = none := by
  unfold recipeState
  split
  next hr => simp [hr]
  next hr => split_ifs <;> simp [hr]

theorem kept_orderSetClimate {a : Addr} {args : List Byte} : kept s (orderSetClimate a args s) := by
  refine kept_runOrder fun f hnone => ?_
  obtain ⟨hidle, hphase, hmark⟩ : recipeState s = .idle ∧ s.sdu.phase = .idle ∧ s.sdu.mark = .none := by
    simp [climateRefusal, firstOf] at hnone
    tauto
  rw [recipeState_idle_iff] at hidle
  have hwritten : kept s (writeRequest .manual f.request s) := by
    refine ⟨fun _ hbusy => ?_, slotsAgree_of_same (by simp [sameSlots]) (calm_writeRequest (.refl s)).rests,
      lockFaultTripped_of_same (by simp), fun _ => ?_⟩
    · simp [hphase, hmark] at hbusy
    · simp [recipeOwnsClimate, hidle, writeRequest_owner]
  exact kept_serviceEvents (kept_ite hwritten hwritten)

theorem kept_orderLoadStage {a : Addr} {args : List Byte} : kept s (orderLoadStage a args s) :=
  kept_runOrder fun _ _ => kept_setSlot .rfl .rfl (.refl s)

theorem kept_orderLoadClose {a : Addr} {args : List Byte} : kept s (orderLoadClose a args s) := by
  refine kept_runOrder fun i hnone => kept_serviceEvents ?_
  have hloading : (s.re.slot i).state = .loading := by
    simp [closeRefusal, firstOf] at hnone
    tauto
  have hclosed : kept s (setSlot i (s.re.slot i).closed s) := kept_setSlot_free rfl (by simp [Slot.busy, hloading]) (.refl s)
  exact kept_ite hclosed hclosed

theorem busy_of_slotBusyRefusal {i : SlotId} (h : slotBusyRefusal i s = none) : (s.re.slot i).busy = false := by
  simpa [slotBusyRefusal, firstOf] using h

theorem kept_orderDescaleStart {a : Addr} {args : List Byte} : kept s (orderDescaleStart a args s) := by
  refine kept_runOrder fun _ hnone => kept_serviceEvents ?_
  obtain ⟨hidle, howner⟩ : recipeState s = .idle ∧ s.cr.owner = .none := by
    simp [descaleRefusal, firstOf] at hnone
    tauto
  exact kept_startDescale howner ((recipeState_idle_iff s).1 hidle) (.refl s)

theorem kept_orderDescaleConfirm {a : Addr} {args : List Byte} : kept s (orderDescaleConfirm a args s) := by
  refine kept_runOrder fun c hnone => kept_serviceEvents ?_
  obtain ⟨hawaited, hfrozen⟩ : c.awaited s.sdu.phase = true ∧ frozen s = false := by
    simp [confirmRefusal, firstOf] at hnone
    tauto
  refine kept_confirmDescale (fun hp => ?_) hfrozen (.refl s)
  rw [hp] at hawaited
  cases c <;> cases hawaited

theorem kept_orderRecipeStart {a : Addr} {args : List Byte} : kept s (orderRecipeStart a args s) := by
  refine kept_runOrder fun i hnone => kept_serviceEvents ?_
  obtain ⟨hready, hphase, hmark⟩ := startRefusal_none hnone
  exact kept_startRecipe hready hphase hmark (.refl s)

theorem kept_orderStopClimate {a : Addr} {args : List Byte} : kept s (orderStopClimate a args s) :=
  kept_runOrder fun _ hnone => kept_endRequest (by simpa [firstOf] using hnone) (.refl s)

theorem kept_orderRestart {a : Addr} {args : List Byte} (h : kept s t) : kept s (orderRestart a args t) := by
  unfold orderRestart
  split
  · exact h
  · split
    · exact h
    · exact kept_acceptRestart h

theorem kept_orderArrives (a : Addr) (payload : List Byte) (s : State) : kept s (orderArrives a payload s) := by
  have hbad : kept s (orderMalformed a s) := kept_runOrder fun _ _ => .refl s
  unfold orderArrives
  split
  · exact hbad
  split
  · exact kept_runOrder fun _ _ => kept_conclude (kept_wakeUp (.refl s))
  · exact kept_runOrder fun _ _ => kept_goToSleep (.refl s)
  · exact kept_orderRestart (.refl s)
  · exact kept_orderSetClimate
  · exact kept_orderStopClimate
  · exact kept_runOrder fun _ hnone => kept_setSlot_free rfl (busy_of_slotBusyRefusal hnone) (.refl s)
  · exact kept_orderLoadStage
  · exact kept_orderLoadClose
  · exact kept_runOrder fun _ hnone => kept_setSlot_free rfl (busy_of_slotBusyRefusal hnone) (.refl s)
  · exact kept_orderRecipeStart
  · exact kept_runOrder fun _ _ => kept_serviceEvents (kept_endStage (.refl s))
  · exact kept_runOrder fun _ _ => kept_serviceEvents (kept_endStage (.refl s))
  · exact kept_runOrder fun _ _ => kept_serviceEvents (kept_abortRecipe (.refl s))
  · exact kept_orderDescaleStart
  · exact kept_orderDescaleConfirm
  · exact kept_runOrder fun _ _ => kept_abortDescale (.refl s)
  · exact kept_runOrder fun _ _ => kept.of_same (by simp [sameCooking, sameSlots]) (fun _ hh => by simpa using hh) (.refl s)
  · refine kept_runOrder fun i _ => ?_
    unfold dropPeer
    split
    · exact kept_compute (kept.refl s)
    · exact .refl s
  · exact kept_runOrder fun _ _ => kept_conclude (kept_clearTrips (.refl s))
  · exact kept_runOrder fun _ _ => kept.of_same (by simp [sameCooking, sameSlots]) (calm_enterDrain (.refl s)).rests (.refl s)
  · exact hbad

/-! ### The line and the processes' events -/

theorem kept_noticeArrives {a : Addr} {n : Notice} (h : kept s t) : kept s (noticeArrives a n t) := by
  unfold noticeArrives
  split
  · exact h
  · exact kept_serviceEvents (kept_compute (kept_ite (kept_raise h) h))

theorem kept.trans (h : kept s t) (k : kept t u) : kept s u := by
  obtain ⟨happart, hagree, hfault, howns⟩ := h
  obtain ⟨kapart, kagree, kfault, kowns⟩ := k
  exact ⟨fun hs => kapart (happart hs), fun hs => kagree (hagree hs), fun hs => kfault (hfault hs), fun hs => kowns (howns hs)⟩

theorem kept_takeFrame {f : Taken} (h : kept s t) : kept s (takeFrame f t) := by
  have hheard : kept s (heardConsole f t) := kept_ite h h
  unfold takeFrame useFrame
  split
  · split
    · exact kept_noticeArrives hheard
    · exact hheard
  split
  · exact kept_ite (hheard.trans (kept_orderArrives _ _ _)) hheard
  · exact kept_ite hheard hheard

theorem kept_frameArrives {chars : List Byte} (h : kept s t) : kept s (frameArrives chars t) := by
  refine kept_ite ?_ h
  split
  · exact h
  · unfold judgeFrame
    split
    · exact kept_takeFrame h
    · refine kept_takeFrame ?_
      unfold latchCorrection
      split <;> exact h
    · exact h

theorem kept_noticeLeft {f : Frame} {sent : Bool} (h : kept s t) : kept s (noticeLeft f sent t) := by
  refine kept_ite kept_restartEffect ?_
  exact kept_ite (kept_ite (kept.of_same (by simp [sameCooking, sameSlots]) (fun _ hh => by simpa using hh) h)
    (kept.of_same (by simp [sameCooking, sameSlots]) (fun _ hh => by simpa using hh) h)) h

theorem kept_collide (h : kept s t) : kept s (collide t) := by
  unfold collide
  split
  · exact kept_ite (kept_noticeLeft h) h
  · exact h

theorem kept_frameGone (h : kept s t) : kept s (frameGone t) := by
  unfold frameGone
  split
  · exact kept_ite (kept_noticeLeft h) h
  · exact h

theorem kept_refreshFan (h : kept s t) : kept s (refreshFan t) :=
  h.of_same (by simp [sameCooking, sameSlots]) (calm_refreshFan (.refl t)).rests

theorem kept_samplingRound {x : Samples} (h : kept s t) : kept s (samplingRound x t) := by
  have hprotected (first : Bool) : kept s (protectPublication first { t with mu := sampleAll t.mu x }) :=
    kept_tripPublication (kept_lockPublication h)
  have hboiler (first : Bool) {u : State} (hu : kept s u) : kept s (boilerPublication first u) :=
    hu.of_same (by simp [sameCooking, sameSlots]) (calm_boilerPublication (.refl u)).rests
  have hreacted := kept_probePublication (kept_sduPublication (hboiler (firstPublished t.mu.levelLow (sampleAll t.mu x).levelLow)
    (hprotected (firstPublished t.mu.lockFb (sampleAll t.mu x).lockFb))))
  exact kept_conclude (kept_refreshFan hreacted)

theorem kept_disagreementPersists (h : kept s t) : kept s (disagreementPersists t) := by
  have hadded : kept s (addTrip .sensor { t with mu.disagreeCount := 300, mu.disagreement := true }) :=
    kept_addTrip (by decide) h
  exact kept_ite (kept_conclude hadded) h

theorem kept_boilerEvent (hk : sameCooking t u) (hc : calm t u) (h : kept s t) : kept s u := h.of_same hk hc.rests

theorem kept_waitEnds (h : kept s t) : kept s (waitEnds t) :=
  kept_ite (kept_serviceEvents (kept_sduFollow (kept_boilerEvent (by simp [sameCooking, sameSlots]) (calm_enterFill (.refl t)) h))) h

theorem kept_drainComplete (h : kept s t) : kept s (drainComplete t) := by
  have hended : kept s (drainEnds t) :=
    kept_boilerEvent (by simp [sameCooking, sameSlots]) (calm_enterOff (calm_ite (.refl t) (.refl t))) h
  exact kept_ite (kept_conclude (kept_sduFollow hended)) h

theorem kept_soakCompletes (h : kept s t) : kept s (soakCompletes t) := by
  have hcounted : kept s { t with sdu.soakCount := 1200 } := h
  exact kept_ite (kept_serviceEvents (kept_sduFollow hcounted)) h

theorem kept_heatLimit (h : kept s t) : kept s (heatLimit t) := by
  have hcounted : kept s { t with sdu.heatingTime := 600 } := h
  exact kept_dite (fun hr => kept_serviceEvents (kept_endRinseHeat (phase_of_rinseHeating hr) hcounted)) fun _ => h

theorem kept_travelTimesOut (h : kept s t) : kept s (travelTimesOut t) := kept_ite (kept_conclude (kept_lockFault h)) h

theorem kept_silenceExpires (h : kept s t) : kept s (silenceExpires t) := by
  have hstopped : kept s { t with link.silence := none } := h
  exact kept_ite h (kept_conclude (kept_consoleLost hstopped))

/-! ### The timers that move a hold reason only while a slot runs -/

theorem calm_peerStale {a : Addr} (h : calm s t) : calm s (peerStale a t) := by
  unfold peerStale
  split
  · exact h
  · split
    · exact calm_ite (calm_compute h) h
    · exact h

theorem calm_endRaiseHold (h : calm s t) : calm s (endRaiseHold t) := by
  unfold endRaiseHold
  split
  · exact calm_recordAllowance h
  · exact h

theorem calm_noticePeriod (h : calm s t) : calm s (noticePeriod t) :=
  calm_ite h (calm_offerNotice (calm_compute (calm_ite (calm_startRaise (calm_claimPoint h)) h)))

theorem calm_becomeStarved (h : calm s t) : calm s (becomeStarved t) := by
  have hraised : calm s (raise .starved { t with ssu.starved := true, ssu.entryTimer := none }) := calm_raise h
  exact calm_ite (calm_serviceEvents (calm_holdPower hraised)) h

theorem calm_windowStart (h : calm s t) : calm s (windowStart t) := by
  have hclaim : calm s (claimPoint { t with lpd.half := 0 }) := calm_claimPoint h
  exact calm_startRaise (calm.of_same (by simp) hclaim)

theorem calm_crossing {interval : Nat} (h : calm s t) : calm s (crossing interval t) := by
  unfold crossing
  split
  · exact calm_ite (calm_ite h (calm_windowStart h)) h
  · exact calm_ite h (calm_ite (calm_windowStart h) h)
  · exact calm_ite h (calm_ite (calm_ite h (calm_windowStart h)) h)

theorem calm_regulatorTick (h : calm s t) : calm s (regulatorTick t) := by
  refine calm_compute ?_
  split
  · exact calm.of_same (by simp) h
  · exact h

end

/-! ### Every command, and the millisecond -/

theorem kept_exec {c : Instr} {s t : State} (h : exec c s = .next t) : kept s t := by
  cases c
  case powerOn => obtain rfl := Host.Outcome.next.inj h; exact kept_powerOn (t := s) _ _
  case powerFailure => obtain rfl := Host.Outcome.next.inj h; exact kept_powerUp (t := s) _
  all_goals
    obtain rfl := Host.Outcome.next.inj h
    refine kept_ite ?_ (.refl s)
  case frameReceived => exact kept_frameArrives (.refl s)
  case noticeReceived => exact kept_noticeArrives (.refl s)
  case orderMalformedCode a _ => exact kept_orderArrives a [] s
  case wake a args => exact kept_orderArrives a (1 :: args) s
  case sleep a args => exact kept_orderArrives a (2 :: args) s
  case restart a args => exact kept_orderArrives a (3 :: args) s
  case setClimate a args => exact kept_orderArrives a (4 :: args) s
  case stopClimate a args => exact kept_orderArrives a (5 :: args) s
  case loadOpen a args => exact kept_orderArrives a (6 :: args) s
  case loadStage a args => exact kept_orderArrives a (7 :: args) s
  case loadClose a args => exact kept_orderArrives a (8 :: args) s
  case loadAbandon a args => exact kept_orderArrives a (9 :: args) s
  case recipeStart a args => exact kept_orderArrives a (10 :: args) s
  case recipeConfirm a args => exact kept_orderArrives a (11 :: args) s
  case recipeSkip a args => exact kept_orderArrives a (12 :: args) s
  case recipeAbort a args => exact kept_orderArrives a (13 :: args) s
  case descaleStart a args => exact kept_orderArrives a (14 :: args) s
  case descaleConfirm a args => exact kept_orderArrives a (15 :: args) s
  case descaleAbort a args => exact kept_orderArrives a (16 :: args) s
  case setHardness a args => exact kept_orderArrives a (17 :: args) s
  case dropPeer a args => exact kept_orderArrives a (18 :: args) s
  case clearTrip a args => exact kept_orderArrives a (19 :: args) s
  case drainNow a args => exact kept_orderArrives a (20 :: args) s
  case collisionDetected => exact kept_collide (.refl s)
  case frameSent => exact kept_frameGone (.refl s)
  case consoleSilenceExpired => exact kept_silenceExpires (.refl s)
  case samplingRound => exact kept_samplingRound (.refl s)
  case disagreementCondition => exact kept_disagreementPersists (.refl s)
  case waitWaterExpired => exact kept_waitEnds (.refl s)
  case drainComplete => exact kept_drainComplete (.refl s)
  case meteringTick => exact kept_serviceEvents (kept_meteringTick (.refl s))
  case soakComplete => exact kept_soakCompletes (.refl s)
  case rinseHeatLimit => exact kept_heatLimit (.refl s)
  case stageTick => exact kept_serviceEvents (kept_stageTick (.refl s))
  case lockTravelTimeout => exact kept_travelTimesOut (.refl s)
  case peerEntryStale => exact kept.of_same (by simp [sameCooking, sameSlots]) (calm_peerStale (.refl s)).rests (.refl s)
  case raiseHoldEnd => exact kept.of_same (by simp [sameCooking, sameSlots]) (calm_endRaiseHold (.refl s)).rests (.refl s)
  case noticePeriodExpired =>
    exact kept.of_same (by simp [sameCooking, sameSlots]) (calm_noticePeriod (.refl s)).rests (.refl s)
  case starveEntryExpired =>
    exact kept.of_same (by simp [sameCooking, sameSlots]) (calm_becomeStarved (.refl s)).rests (.refl s)
  case starveExitExpired =>
    exact kept.of_same (by simp [sameCooking, sameSlots]) (calm_ite (calm_leaveStarved (.refl s)) (.refl s)).rests (.refl s)
  case zeroCrossing => exact kept.of_same (by simp [sameCooking, sameSlots]) (calm_crossing (.refl s)).rests (.refl s)
  case regulatorStep => exact kept.of_same (by simp [sameCooking, sameSlots]) (calm_regulatorTick (.refl s)).rests (.refl s)
  case fillPulse =>
    exact kept.of_same (by simp [sameCooking, sameSlots])
      (calm_ite (calm_serviceEvents (calm_givePulse (.refl s))) (.refl s)).rests (.refl s)
  case coolTimeExpired =>
    have hcounted : calm s { s with sgc.coolTime := 1800000 } := .refl s
    exact kept.of_same (by simp [sameCooking, sameSlots]) (calm_ite (calm_judgeCool hcounted) (.refl s)).rests (.refl s)
  all_goals exact kept.of_same (by simp [sameCooking, sameSlots]) (fun _ hh => by simpa using hh) (.refl s)

theorem kept_tick (s : State) : kept s (tick s) :=
  kept.of_same (by simp [sameCooking, sameSlots]) (fun _ hh => by simpa using hh) (.refl s)

theorem kept_step {s t : State} (h : step s = .next t) : kept s t := by
  unfold step at h
  split at h
  · obtain rfl := Host.Outcome.next.inj h
    exact kept_tick s
  next c rest _ => exact kept_exec (s := { s with pending := rest }) h

/-- Settles O57: a step is a command or a millisecond, and each keeps the four invariants. -/
theorem cookingInvariantsKept : Obligations.CookingInvariantsKept := by
  refine ⟨fun s t hapart hslots hlock hstep => ?_, fun s t _ howns hstep => ?_⟩
  · obtain ⟨kapart, kslots, klock, -⟩ := kept_step hstep
    exact ⟨kapart hapart, kslots hslots, klock hlock⟩
  · obtain ⟨-, -, -, kowns⟩ := kept_step hstep
    exact kowns howns

end Sys2Proof.Machine.Cooking
end

section
/-! The lines of a running C40, the fan's cycle and the fill pulses (R109, R110, R118, R123, R127, R130, R134, R197): OutputLinesAndPulses. -/

namespace Sys2Proof.Machine.Cooking

open Sharing

/-! ### The lines (R109, R110, R118, R130, R197) -/

section
variable {s : State}

/-- The lines of a started C40. -/
theorem outputs_running (hrun : s.run = .running) :
    outputs s =
      { fanRelay := fanRelay s
        lamp := s.od.power == .active && (s.cr.owner != .none || doorOpen s)
        ventOpen := some s.cr.ventOpen
        fillPump := s.sgc.pumpDrive.isSome
        drainPump := s.sgc.state == .drain && tankSeated s
        lockEngage := s.pu.lock == .locking
        lockRelease := s.pu.lock == .unlocking } := if_pos hrun

theorem fanLevel_running {n : Nat} {r : Request} (hn : s.cr.fanCycle = some n) (hr : s.cr.request = some r) :
    fanLevel s = r.fan := by
  unfold fanLevel
  rw [hn, hr]

theorem fanRelay_running {n : Nat} {r : Request} (hn : s.cr.fanCycle = some n) (hr : s.cr.request = some r) :
    fanRelay s = decide (n % 1000 < r.fan * 200) := by
  simp only [fanRelay, hn, fanLevel_running hn hr]

theorem fanRelay_off (hn : s.cr.fanCycle = none) : fanRelay s = false := by simp only [fanRelay, hn]

/-- The fan's next switching point: the end of the on time, or the end of the cycle (R109). -/
theorem fanSwitch_running {n : Nat} {r : Request} (hn : s.cr.fanCycle = some n) (hr : s.cr.request = some r) :
    fanSwitch s =
      { s with cr.fanCycle := some (if n < r.fan * 200 ∧ r.fan * 200 < 1000 then r.fan * 200 else 0) } := by
  simp only [fanSwitch, hn, fanLevel_running hn hr]

theorem fanSwitch_off (hn : s.cr.fanCycle = none) : fanSwitch s = s := by simp only [fanSwitch, hn]

theorem tankSeated_iff (s : State) : tankSeated s = true ↔ s.mu.tank = .low ∨ s.mu.tank = .present := by
  unfold tankSeated
  cases s.mu.tank <;> decide

theorem pumpMay_iff (s : State) :
    pumpMay s = true ↔ (s.sgc.state = .fill ∨ s.sgc.state = .refill) ∧ s.mu.tank = .present ∧
      ¬ (s.mu.levelLow.published = some true ∧ s.mu.levelHigh.published = some true) := by
  simp [pumpMay, tankReady, boilerFull, lowWet, highWet, and_assoc, imp_iff_not_or]

/-! ### A fill pulse (R118, R123, R127) -/

/-- The events, the STEAM_HEATER record and the WATER hold alone have moved. -/
def withinBoiler (s t : State) : Prop :=
  ∃ events load water, t = { s with od.events := events, lpd.loads.steamHeater := load, re.holds.water := water }

theorem withinBoiler.trans {t u : State} (h : withinBoiler s t) (k : withinBoiler t u) : withinBoiler s u := by
  obtain ⟨_, _, _, rfl⟩ := h
  obtain ⟨_, _, _, rfl⟩ := k
  exact ⟨_, _, _, rfl⟩

theorem withinBoiler_waitWaterEvent (s : State) : withinBoiler s (waitWaterEvent s) := by
  unfold waitWaterEvent
  split
  · exact ⟨_, _, _, rfl⟩
  · split <;> exact ⟨_, _, _, rfl⟩

theorem withinBoiler_holdWater (st : BoilerState) (s : State) : withinBoiler s (holdWater st s) := by
  unfold holdWater
  split
  · split
    · split <;> exact ⟨_, _, _, rfl⟩
    · exact ⟨_, _, _, rfl⟩
  · exact ⟨_, _, _, rfl⟩
  · exact ⟨_, _, _, rfl⟩

theorem withinBoiler_writeHeater (s : State) : withinBoiler s (writeHeater s) := by
  unfold writeHeater
  split <;> exact ⟨_, _, _, rfl⟩

/-- A boiler that changes its state touches the events, the STEAM_HEATER record and the WATER hold beside it. -/
theorem withinBoiler_becomeBoiler (st : BoilerState) (s : State) :
    withinBoiler { s with sgc.state := st } (becomeBoiler st s) := by
  unfold becomeBoiler
  dsimp only
  split
  · exact ((withinBoiler_waitWaterEvent _).trans (withinBoiler_holdWater _ _)).trans (withinBoiler_writeHeater _)
  · exact (withinBoiler_holdWater _ _).trans (withinBoiler_writeHeater _)

theorem withinBoiler.frame {t : State} (h : withinBoiler s t) :
    t = { s with od := t.od, lpd.loads.steamHeater := t.lpd.loads.steamHeater, re.holds.water := t.re.holds.water } := by
  obtain ⟨_, _, _, rfl⟩ := h
  rfl

theorem serviceEvents_frame (s : State) :
    serviceEvents s = { s with link := (serviceEvents s).link, od := (serviceEvents s).od } := by
  unfold serviceEvents offer
  dsimp only
  split_ifs <;> rfl

/-- The entry to WAIT_WATER of a boiler that serves the climate (R121, R127). -/
theorem enterWaitWater_climate (marked : Bool) (h : s.sgc.user = .climate) :
    (enterWaitWater marked s).od.events = s.od.events ||| Event.tankEmpty.mask ∧
      (enterWaitWater marked s).lpd.loads.steamHeater.demand = 0 := by
  simp [enterWaitWater, becomeBoiler, waitWaterEvent, h, heaterDemand, baseDemand]

/-- The state a pulse leaves where the fill goes on: counted, metered and driving the pump (R118, R134). -/
def pulsed (s : State) : State :=
  { s with
    sgc := { s.sgc with pulses := s.sgc.pulses + 1, pulseTimer := some 0, pumpDrive := some 0 }
    sdu.meteringSum := s.sdu.meteringSum + if s.sgc.user = .climate then 2 * s.sdu.hardness else 0 }

theorem givePulse_below (h : s.sgc.pulses < 299) : givePulse s = pulsed s :=
  if_neg (show ¬ 300 ≤ s.sgc.pulses + 1 by omega)

theorem givePulse_limit (h : 299 ≤ s.sgc.pulses) : givePulse s = enterWaitWater true (pulsed s) :=
  if_pos (show 300 ≤ s.sgc.pulses + 1 by omega)

/-- The pulse that reaches the fill limit sends the boiler to WAIT_WATER, marked and without a wait (R123, R127). -/
theorem enterWaitWater_marked (s : State) :
    withinBoiler { s with sgc.state := .waitWater, sgc.pulseTimer := none, sgc.limitMark := true, sgc.wait := none }
      (enterWaitWater true s) := withinBoiler_becomeBoiler _ _

theorem furtherPulse_not (h : ¬ (s.sgc.pulseTimer ≠ none ∧ pumpMay s = true)) : furtherPulse s = s := if_neg h

theorem furtherPulse_given (h : s.sgc.pulseTimer ≠ none ∧ pumpMay s = true) : furtherPulse s = serviceEvents (givePulse s) :=
  if_pos h

theorem serviceEvents_of_served (h : eventsServed s) : serviceEvents s = s := by
  refine serviceEvents_quiet ?_
  by_cases he : s.od.events = 0
  · exact .inl he
  · exact .inr (h he)

/-- The 300th pulse: WAIT_WATER by fill limit, with nothing moved but what R118, R123 and R127 name. -/
theorem furtherPulse_limit (hmay : s.sgc.pulseTimer ≠ none ∧ pumpMay s = true) (h : 299 ≤ s.sgc.pulses) :
    furtherPulse s = serviceEvents (enterWaitWater true (pulsed s)) := by
  rw [furtherPulse_given hmay, givePulse_limit h]

end

/-! ### The obligation -/

/-- Settles O48: each line is the definition's, the fan's switching points are computed, and a pulse either leaves the fill
going on or reaches its limit. -/
theorem outputLinesAndPulses : Obligations.OutputLinesAndPulses := by
  intro s hrun
  rw [outputs_running hrun]
  refine ⟨fun n r hn hr => ⟨fanRelay_running hn hr, fun hon hlevel => ?_, fun hoff => ?_⟩,
    fun hn => ⟨exec_next rfl hrun (fanSwitch_off hn), fanRelay_off hn⟩, fun hd => exec_next rfl hrun (if_pos hd),
    fun hd => exec_next rfl hrun (if_neg hd), by simp [Option.isSome_iff_ne_none], by simp [doorOpen], rfl,
    by simp [tankSeated_iff], beq_iff_eq, beq_iff_eq, fun hno => ?_, fun hmay hserved hcount => ?_, fun hmay hcount => ?_⟩
  · refine exec_next rfl hrun ((fanSwitch_running hn hr).trans ?_)
    rw [if_pos ⟨hon, by omega⟩]
  · refine exec_next rfl hrun ((fanSwitch_running hn hr).trans ?_)
    rw [if_neg (by omega)]
  · rw [← pumpMay_iff] at hno
    exact exec_next rfl hrun (furtherPulse_not hno)
  · rw [← pumpMay_iff] at hmay
    refine exec_next rfl hrun ((furtherPulse_given hmay).trans ?_)
    rw [givePulse_below hcount]
    exact serviceEvents_of_served (s := pulsed s) hserved
  · rw [← pumpMay_iff] at hmay
    refine ⟨_, exec_next rfl hrun (furtherPulse_limit hmay hcount), by simp, ?_, ?_, ?_, ?_, fun hclimate => ?_, ?_⟩
    · simp [enterWaitWater]
    · simp [enterWaitWater]
    · simp [pulsed, enterWaitWater]
    · simp [pulsed]
    · obtain ⟨hevents, hdemand⟩ := enterWaitWater_climate true (s := pulsed s) hclimate
      exact ⟨(serviceEvents_events _).trans hevents, by simpa using hdemand⟩
    · rw [serviceEvents_frame, (enterWaitWater_marked (pulsed s)).frame]
      rfl

end Sys2Proof.Machine.Cooking
end

section
/-! The trips a publication adds, and what they stop (R113, R131, R198 to R201, R207): PublicationAddsTrips. -/

namespace Sys2Proof.Machine.Cooking

open Sharing Sampling

section
variable {s t u : State} {k : Trip}

/-! ### The trip set under the operations of a publication -/

theorem addTrip_new (h : s.pu.trips.has k = false) :
    addTrip k s = tellAdded k (raise .trip { s with pu.trips := s.pu.trips.put k true }) :=
  if_neg (by simp [h])

theorem TripSet.put_has (x : TripSet) (k : Trip) : x.put k (x.has k) = x := by cases k <;> rfl

theorem TripSet.put_member {x : TripSet} (h : x.has k = true) : x.put k true = x := by
  rw [← h, TripSet.put_has]

theorem addTrip_pu (k : Trip) (s : State) : (addTrip k s).pu = { s.pu with trips := s.pu.trips.put k true } := by
  cases h : s.pu.trips.has k with
  | true => rw [addTrip_member h, TripSet.put_member h]
  | false => simp [addTrip_new h]

theorem addTrip_trips (k : Trip) (s : State) : (addTrip k s).pu.trips = s.pu.trips.put k true := by rw [addTrip_pu]

theorem lockFault_trips (s : State) : (lockFault s).pu.trips = { s.pu.trips with lock := true } :=
  addTrip_trips .lock { s with pu.lock := .fault }

/-- A trip that is added where its condition holds (R201). -/
def addIf (p : Bool) (k : Trip) (s : State) : State := if p then addTrip k s else s

theorem addIf_mu (p : Bool) (k : Trip) (s : State) : (addIf p k s).mu = s.mu := by
  unfold addIf
  split <;> simp

theorem addIf_trips (p : Bool) (k : Trip) (s : State) :
    (addIf p k s).pu.trips = s.pu.trips.put k (s.pu.trips.has k || p) := by
  cases p with
  | true => simp [addIf, addTrip_trips]
  | false => simp [addIf, TripSet.put_has]

/-- The conditions are judged on the published set alone, so that the order of the trips does not move them. -/
theorem tripPublication_eq (s : State) :
    tripPublication s =
      addIf (sensorCondition s) .sensor
        (addIf ((boilerValue s).above 1600) .boilerDry (addIf (cavityHot s) .cavityOvertemp s)) := by
  have hboiler : boilerValue (addIf (cavityHot s) .cavityOvertemp s) = boilerValue s := by simp only [boilerValue, addIf_mu]
  have hsensor (p : Bool) : sensorCondition (addIf p .boilerDry (addIf (cavityHot s) .cavityOvertemp s)) = sensorCondition s := by
    simp only [sensorCondition, addIf_mu]
  have hunfolded : tripPublication s =
      addIf (sensorCondition (addIf ((boilerValue (addIf (cavityHot s) .cavityOvertemp s)).above 1600) .boilerDry
          (addIf (cavityHot s) .cavityOvertemp s))) .sensor
        (addIf ((boilerValue (addIf (cavityHot s) .cavityOvertemp s)).above 1600) .boilerDry
          (addIf (cavityHot s) .cavityOvertemp s)) := rfl
  rw [hunfolded, hsensor, hboiler]

theorem tripPublication_trips (s : State) :
    (tripPublication s).pu.trips =
      { cavityOvertemp := s.pu.trips.cavityOvertemp || cavityHot s
        boilerDry := s.pu.trips.boilerDry || (boilerValue s).above 1600
        sensor := s.pu.trips.sensor || sensorCondition s
        lock := s.pu.trips.lock } := by
  simp only [tripPublication_eq, addIf_trips]
  rfl

/-- A lock asked released, or asked engaged with the door closed, begins no fault. -/
theorem requestLock_trips {c : LockCommand} (h : c = .engage → doorOpen s = false) :
    (requestLock c s).pu.trips = s.pu.trips := by
  have hin (hc : c = .engage) : (travelIn { s with pu.command := c }).pu.trips = s.pu.trips := by
    have hdoor : doorOpen { s with pu.command := c } = false := h hc
    simp [travelIn, hdoor, travel]
  unfold requestLock takeLockCommand
  split
  case h_2 hc _ | h_3 hc _ | h_4 hc _ => exact hin hc
  all_goals rfl

theorem releaseIdleLock_trips (s : State) : (releaseIdleLock s).pu.trips = s.pu.trips := by
  unfold releaseIdleLock
  split
  · exact requestLock_trips (by simp)
  · rfl

theorem phaseMove_trips (h : PhaseMove s t) : t.pu.trips = s.pu.trips := by
  cases h with
  | locking f hdoor => exact (requestLock_trips fun _ => by simpa [doorOpen] using hdoor).trans (by simp)
  | unlocking => exact (requestLock_trips (by simp)).trans (by simp)
  | fill | drain | phase | await | soakFill | done => simp

theorem sduFollow_trips (s : State) : (sduFollow s).pu.trips = s.pu.trips :=
  sduFollow_induct (P := fun u => u.pu.trips = s.pu.trips)
    (fun _ _ hu hnext => (phaseMove_trips (phaseMove_of_sduNext hnext)).trans hu) rfl

theorem sduPublication_trips (s : State) : (sduPublication s).pu.trips = s.pu.trips := by
  simp [sduPublication, sduFollow_trips]

/-- The lock state as a publication finds it, before the door and the feedback are judged against it (R198, R207). -/
def lockRead (first : Bool) (s : State) : State :=
  if first = true ∧ s.pu.trips.lock = false then { s with pu.lock := lockFromFeedback s } else endTravel s

theorem lockRead_frame (first : Bool) (s : State) :
    (lockRead first s).mu = s.mu ∧ (lockRead first s).cr = s.cr ∧ (lockRead first s).pu.trips = s.pu.trips ∧
      (lockRead first s).od = s.od := by
  unfold lockRead
  split <;> simp

theorem lockPublication_trips (first : Bool) (s : State) :
    (lockPublication first s).pu.trips =
      { s.pu.trips with lock := s.pu.trips.lock || lockContradicted (lockRead first s) } := by
  obtain ⟨-, -, htrips, -⟩ := lockRead_frame first s
  have hjudged : (if lockContradicted (lockRead first s) then lockFault (lockRead first s) else lockRead first s).pu.trips =
      { s.pu.trips with lock := s.pu.trips.lock || lockContradicted (lockRead first s) } := by
    cases lockContradicted (lockRead first s) <;> simp [lockFault_trips, htrips]
  change (if first then releaseIdleLock _ else _).pu.trips = _
  split
  · exact (releaseIdleLock_trips _).trans hjudged
  · exact hjudged

/-! ### A round's trips -/

/-- The state in which a round's publication is judged. -/
def sampled (x : Samples) (s : State) : State := { s with mu := sampleAll s.mu x }

/-- The protection unit's part of a round. -/
def judged (x : Samples) (s : State) : State :=
  tripPublication (lockPublication (firstPublished s.mu.lockFb (sampleAll s.mu x).lockFb) (sampled x s))

/-- The boiler's part of a round, after the protection unit's. -/
def boiled (x : Samples) (s : State) : State :=
  boilerPublication (firstPublished s.mu.levelLow (sampleAll s.mu x).levelLow) (judged x s)

/-- What a round leaves: the blocks after the boiler leave the trips and the climate's request, and lose no event. -/
theorem samplingRound_eq (x : Samples) (s : State) :
    samplingRound x s = conclude (refreshFan (probePublication (sduPublication (boiled x s)))) := rfl

theorem samplingRound_trips (x : Samples) (s : State) : (samplingRound x s).pu.trips = (judged x s).pu.trips := by
  simp [samplingRound_eq, sduPublication_trips, boiled]

theorem judged_trips (x : Samples) (s : State) :
    (judged x s).pu.trips =
      { cavityOvertemp := s.pu.trips.cavityOvertemp || cavityHot (sampled x s)
        boilerDry := s.pu.trips.boilerDry || (boilerValue (sampled x s)).above 1600
        sensor := s.pu.trips.sensor || sensorCondition (sampled x s)
        lock := s.pu.trips.lock ||
          lockContradicted (lockRead (firstPublished s.mu.lockFb (sampleAll s.mu x).lockFb) (sampled x s)) } := by
  have hmu (first : Bool) (u : State) : (lockPublication first u).mu = u.mu := by simp
  simp only [judged, tripPublication_trips, lockPublication_trips, cavityHot, boilerValue, sensorCondition, hmu]
  rfl

theorem calm_probePublication (h : calm s t) : calm s (probePublication t) := by
  unfold probePublication
  split
  next hg => exact calm_ite (h.of_running (running_of_currentStage hg)) h
  · exact h

theorem calm_samplingRound (x : Samples) (s : State) : calm (judged x s) (samplingRound x s) :=
  calm_conclude (calm_refreshFan (calm_probePublication (calm_sduPublication (calm_boilerPublication (.refl _)))))

/-! ### TRIP with each trip that joins (R200) -/

/-- The trips are those of `s`, or TRIP is pending. -/
def announced (s t : State) : Prop := t.pu.trips = s.pu.trips ∨ t.od.events.has .trip = true

theorem announced_of_calm (hk : u.pu.trips = t.pu.trips) (hc : calm t u) (h : announced s t) : announced s u :=
  h.imp hk.trans hc.events

theorem announced_addTrip (h : announced s t) : announced s (addTrip k t) := by
  cases hk : t.pu.trips.has k with
  | true => rwa [addTrip_member hk]
  | false =>
    rw [addTrip_new hk]
    exact .inr ((calm_tellAdded (.refl _)).events (by simp))

theorem announced_ite {p : Prop} [Decidable p] (ht : announced s t) (hu : announced s u) :
    announced s (if p then t else u) := by
  split
  · exact ht
  · exact hu

theorem announced_addTripIf {p : Prop} [Decidable p] (h : announced s t) : announced s (if p then addTrip k t else t) :=
  announced_ite (announced_addTrip h) h

theorem announced_tripPublication (h : announced s t) : announced s (tripPublication t) :=
  announced_addTripIf (announced_addTripIf (announced_addTripIf h))

theorem announced_lockPublication (first : Bool) (h : announced s t) : announced s (lockPublication first t) := by
  obtain ⟨-, -, htrips, hod⟩ := lockRead_frame first t
  have hread : announced s (lockRead first t) := by rwa [announced, htrips, hod]
  have hfault : announced s (lockFault (lockRead first t)) :=
    announced_addTrip (t := { lockRead first t with pu.lock := .fault }) hread
  have hjudged := announced_ite (p := lockContradicted (lockRead first t) = true) hfault hread
  exact announced_ite (announced_of_calm (releaseIdleLock_trips _) (calm_releaseIdleLock (.refl _)) hjudged) hjudged

theorem announced_samplingRound (x : Samples) (s : State) : announced s (samplingRound x s) := by
  refine announced_of_calm (samplingRound_trips x s) (calm_samplingRound x s) ?_
  exact announced_tripPublication (announced_lockPublication _ (t := sampled x s) (.inl rfl))

/-! ### A dry boiler (R131) -/

theorem boilerPublication_dry (first : Bool) (h : (boilerValue s).above 1600 = true) :
    (boilerPublication first s).sgc.state = .dryFault := by
  unfold boilerPublication
  split
  · exact enterDryFault_state s
  next hno =>
    have hstate : s.sgc.state = .dryFault := by
      by_contra hne
      exact hno ⟨hne, h⟩
    simp [hstate]

/-- A boiler in DRY_FAULT stays there whatever the descale asks. -/
theorem phaseMove_dryFault (hs : s.sgc.state = .dryFault) (h : PhaseMove s t) : t.sgc.state = .dryFault := by
  cases h with
  | fill => simp [requestFill, hs]
  | drain => simp [requestDrain, hs]
  | done =>
    have hreturned (u : State) (hu : u.sgc.state = .dryFault) : (leaveDescale u).sgc.state = .dryFault := by
      have hheater : (writeHeater { u with sdu.phase := .idle, sgc.user := .climate }).sgc.state = .dryFault := by simpa using hu
      simp only [leaveDescale, leaveStarvedWithoutWork_keeps, returnUser, stopSteam_dryFault hheater]
      split <;> exact hheater
    exact hreturned _ (by simpa using hs)
  | phase | await | soakFill | locking | unlocking => simpa using hs

theorem sduPublication_dryFault (hs : s.sgc.state = .dryFault) : (sduPublication s).sgc.state = .dryFault := by
  have hfollow (u : State) (hu : u.sgc.state = .dryFault) : (sduFollow u).sgc.state = .dryFault :=
    sduFollow_induct (P := fun u => u.sgc.state = .dryFault)
      (fun _ _ hv hnext => phaseMove_dryFault hv (phaseMove_of_sduNext hnext)) hu
  exact hfollow _ (by simp [hfollow s hs])

theorem conclude_dryFault (hs : s.sgc.state = .dryFault) : (conclude s).sgc.state = .dryFault := by
  simp [conclude, endWindDown, windDownOver, hs]

theorem samplingRound_dry {x : Samples} (h : (boilerValue (sampled x s)).above 1600 = true) :
    (samplingRound x s).sgc.state = .dryFault := by
  have hvalue : boilerValue (judged x s) = boilerValue (sampled x s) := by simp [boilerValue, judged]
  have hdry : (sduPublication (boiled x s)).sgc.state = .dryFault :=
    sduPublication_dryFault (boilerPublication_dry _ (hvalue ▸ h))
  rw [samplingRound_eq]
  exact conclude_dryFault (by simp [hdry])

/-! ### The climate a cavity trip stops (R113) -/

/-- The request is the one of `s`. -/
def sameRequest (s t : State) : Prop := t.cr.owner = s.cr.owner ∧ t.cr.request = s.cr.request

/-- A MANUAL request of `s` has ended, and a recipe's has lost its mode. -/
def climateStopped (s t : State) : Prop :=
  (s.cr.owner = .manual → t.cr.owner = .none ∧ t.cr.request = none) ∧
    (s.cr.owner = .recipe → t.cr.owner = .recipe ∧ t.cr.request = none)

theorem dropRequest_request (o : Owner) (s : State) : (dropRequest o s).cr.request = none := by simp [dropRequest]

theorem climateTripped_stops (h : sameRequest s t) : climateStopped s (climateTripped t) := by
  obtain ⟨howner, -⟩ := h
  refine ⟨fun hm => ?_, fun hr => ?_⟩
  · simp [climateTripped, howner, hm, endRequest, dropRequest_owner, dropRequest_request]
  · by_cases hnone : t.cr.request = none
    · simp [climateTripped, howner, hr, hnone]
    · simp [climateTripped, howner, hr, hnone, holdWithoutMode, dropRequest_owner, dropRequest_request]

theorem climateStopped_climateTripped (h : climateStopped s t) : climateStopped s (climateTripped t) := by
  obtain ⟨hmanual, hrecipe⟩ := h
  refine ⟨fun hm => ?_, fun hr => ?_⟩
  · obtain ⟨howner, hrequest⟩ := hmanual hm
    simp [climateTripped, howner, hrequest]
  · obtain ⟨howner, hrequest⟩ := hrecipe hr
    simp [climateTripped, howner, hrequest]

/-- The kinds whose joining stops the climate (R113). -/
def stopsClimate (k : Trip) : Prop := k = .cavityOvertemp ∨ k = .sensor

theorem tellAdded_stopping (hk : stopsClimate k) (s : State) : tellAdded k s = holdTrip k (climateTripped s) := by
  rcases hk with rfl | rfl <;> rfl

theorem tellAdded_other (hk : ¬ stopsClimate k) (s : State) : sameRequest s (tellAdded k s) := by
  cases k with
  | cavityOvertemp => exact absurd (.inl rfl) hk
  | sensor => exact absurd (.inr rfl) hk
  | boilerDry => simp [sameRequest, tellAdded]
  | lock =>
    simp only [sameRequest, tellAdded, holdTrip_keeps]
    split <;> simp

theorem climateStopped_of_same (hk : sameRequest t u) (h : climateStopped s t) : climateStopped s u := by
  obtain ⟨howner, hrequest⟩ := hk
  rwa [climateStopped, howner, hrequest]

theorem climateStopped_addTrip (h : climateStopped s t) : climateStopped s (addTrip k t) := by
  cases hhas : t.pu.trips.has k with
  | true => rwa [addTrip_member hhas]
  | false =>
    rw [addTrip_new hhas]
    by_cases hk : stopsClimate k
    · rw [tellAdded_stopping hk]
      exact climateStopped_of_same (by simp [sameRequest])
        (climateStopped_climateTripped (t := raise .trip { t with pu.trips := t.pu.trips.put k true }) h)
    · exact climateStopped_of_same (tellAdded_other hk _) h

theorem addTrip_stops (hk : stopsClimate k) (hnew : t.pu.trips.has k = false) (h : sameRequest s t ∨ climateStopped s t) :
    climateStopped s (addTrip k t) := by
  rcases h with h | h
  · rw [addTrip_new hnew, tellAdded_stopping hk]
    exact climateStopped_of_same (by simp [sameRequest])
      (climateTripped_stops (t := raise .trip { t with pu.trips := t.pu.trips.put k true }) h)
  · exact climateStopped_addTrip h

/-- A trip that joins leaves the request or stops the climate. -/
theorem judgedRequest_addTrip (h : sameRequest s t ∨ climateStopped s t) :
    sameRequest s (addTrip k t) ∨ climateStopped s (addTrip k t) := by
  cases hhas : t.pu.trips.has k with
  | true => rwa [addTrip_member hhas]
  | false =>
    by_cases hk : stopsClimate k
    · exact .inr (addTrip_stops hk hhas h)
    · refine h.imp (fun hsame => ?_) climateStopped_addTrip
      rw [addTrip_new hhas]
      obtain ⟨howner, hrequest⟩ := tellAdded_other hk (raise .trip { t with pu.trips := t.pu.trips.put k true })
      obtain ⟨ho, hr⟩ := hsame
      exact ⟨howner.trans ho, hrequest.trans hr⟩

theorem climateStopped_addIf (p : Bool) (h : climateStopped s t) : climateStopped s (addIf p k t) := by
  unfold addIf
  split
  · exact climateStopped_addTrip h
  · exact h

theorem judgedRequest_addIf (p : Bool) (h : sameRequest s t ∨ climateStopped s t) :
    sameRequest s (addIf p k t) ∨ climateStopped s (addIf p k t) := by
  unfold addIf
  split
  · exact judgedRequest_addTrip h
  · exact h

/-- Where CAVITY_OVERTEMP or SENSOR joins at a publication, the climate is stopped (R113). -/
theorem tripPublication_stops
    (h : (s.pu.trips.cavityOvertemp = false ∧ cavityHot s = true) ∨ (s.pu.trips.sensor = false ∧ sensorCondition s = true)) :
    climateStopped s (tripPublication s) := by
  have hsame : sameRequest s s := ⟨rfl, rfl⟩
  rw [tripPublication_eq]
  rcases h with ⟨hnew, hhot⟩ | ⟨hnew, hcondition⟩
  · rw [hhot]
    exact climateStopped_addIf _ (climateStopped_addIf _ (addTrip_stops (.inl rfl) hnew (.inl hsame)))
  · rw [hcondition]
    refine addTrip_stops (.inr rfl) ?_ (judgedRequest_addIf _ (judgedRequest_addIf _ (.inl hsame)))
    simp only [addIf_trips]
    exact hnew

theorem samplingRound_stops {x : Samples}
    (h : (s.pu.trips.cavityOvertemp = false ∧ cavityHot (sampled x s) = true) ∨
      (s.pu.trips.sensor = false ∧ sensorCondition (sampled x s) = true)) :
    climateStopped s (samplingRound x s) := by
  have hlocked (first : Bool) : climateStopped s (tripPublication (lockPublication first (sampled x s))) := by
    have hstops := tripPublication_stops (s := lockPublication first (sampled x s)) (by
      simpa [cavityHot, sensorCondition, sampled] using h)
    simpa [climateStopped, sampled] using hstops
  refine climateStopped_of_same (t := judged x s) ?_ (hlocked _)
  simp [sameRequest, samplingRound_eq, boiled]

/-! ### The obligation -/

theorem cavityHot_iff (s : State) : cavityHot s = true ↔ ∃ v, s.mu.tripCavity = some v ∧ 3000 < v := by
  unfold cavityHot
  split
  next v hv => simp [hv]
  next hv => simp [hv]

theorem above_iff (r : Reading) (v : Int) : r.above v = true ↔ ∃ x, r = .value x ∧ v < x := by
  cases r <;> simp [Reading.above]

theorem sensorCondition_iff (s : State) :
    sensorCondition s = true ↔ s.mu.cavA.status = .short ∨ s.mu.cavA.status = .open ∨ s.mu.cavB.status = .short ∨
      s.mu.cavB.status = .open ∨ s.mu.disagreement = true := by
  simp [sensorCondition, or_assoc]

theorem lockContradicted_iff (s : State) :
    lockContradicted s = true ↔
      (s.pu.lock = .locked ∧ (s.mu.door.published ≠ some false ∨ s.mu.lockFb.published = some false)) ∨
        (s.pu.lock = .locking ∧ s.mu.door.published ≠ some false) ∨
        (s.pu.lock = .unlocked ∧ s.mu.lockFb.published = some true) := by
  unfold lockContradicted
  cases s.pu.lock <;> simp [doorOpen]

/-- The lock state read at a publication, by the feedback published first and the travel in progress (R198, R207). -/
theorem lockRead_lock {first : Bool} {p : Prop} [Decidable p] (hp : p ↔ first = true ∧ s.pu.trips.lock = false) :
    (lockRead first s).pu.lock =
      if p then if s.mu.lockFb.published = some true then .locked else .unlocked
      else if s.pu.lock = .locking ∧ s.mu.lockFb.published = some true then .locked
      else if s.pu.lock = .unlocking ∧ s.mu.lockFb.published = some false then .unlocked
      else s.pu.lock := by
  unfold lockRead
  split
  next hfirst => exact (if_pos (hp.2 hfirst)).symm
  next hlater =>
    rw [if_neg (mt hp.1 hlater)]
    unfold endTravel
    split
    next hl hf => simp [hl, hf]
    next hl hf => simp [hl, hf]
    next hlocking hunlocking =>
      have hin : ¬ (s.pu.lock = .locking ∧ s.mu.lockFb.published = some true) := fun ⟨hl, hf⟩ => hlocking hl hf
      have hout : ¬ (s.pu.lock = .unlocking ∧ s.mu.lockFb.published = some false) := fun ⟨hl, hf⟩ => hunlocking hl hf
      rw [if_neg hin, if_neg hout]

theorem firstPublished_iff (before after : Switch) :
    firstPublished before after = true ↔ before.published = none ∧ after.published ≠ none := by
  simp [firstPublished, Option.isSome_iff_ne_none]

end

/-- DISAGREEMENT_CONDITION where the channels differ: the count is full, SENSOR is in the set and the climate stopped (R91, R201). -/
theorem disagreementPersists_adds {a b : Int} {s : State} (ha : s.mu.cavA.value = .value a) (hb : s.mu.cavB.value = .value b)
    (h : a + 250 < b ∨ b + 250 < a) :
    disagreementPersists s = conclude (addTrip .sensor { s with mu.disagreeCount := 300, mu.disagreement := true }) :=
  if_pos (by rw [ha, hb]; exact (disagreeing_values_iff a b).2 h)

theorem disagreementPersists_idle {s : State}
    (h : ∀ a b, s.mu.cavA.value = .value a → s.mu.cavB.value = .value b → a ≤ b + 250 ∧ b ≤ a + 250) :
    disagreementPersists s = s := by
  refine if_neg fun hd => ?_
  cases ha : s.mu.cavA.value with
  | value a =>
    cases hb : s.mu.cavB.value with
    | value b =>
      rw [ha, hb, disagreeing_values_iff] at hd
      obtain ⟨hab, hba⟩ := h a b ha hb
      omega
    | invalid | absent => simp [ha, hb, disagreeing] at hd
  | invalid | absent => simp [ha, disagreeing] at hd

/-- Settles O45: each kind joins exactly on its condition, by the trips a round leaves. -/
theorem publicationAddsTrips : Obligations.PublicationAddsTrips := by
  intro s t hrun
  refine ⟨fun x hx => ?_, fun a b ha hb hdiff => ?_, fun hagree => exec_next rfl hrun (disagreementPersists_idle hagree)⟩
  · obtain rfl : samplingRound x s = t := Host.Outcome.next.inj ((exec_next rfl hrun rfl).symm.trans hx)
    have htrips := (samplingRound_trips x s).trans (judged_trips x s)
    have hmu := samplingRound_mu x s
    dsimp only
    rw [hmu, htrips]
    refine ⟨?_, ?_, ?_, ?_, fun hne => ?_, fun v hv hhot => ?_, fun hadded => ?_⟩
    · simp [cavityHot_iff, sampled]
    · simp [above_iff, boilerValue, sampled]
    · simp [sensorCondition_iff, sampled]
    · have hfirst : s.mu.lockFb.published = none ∧ (sampleAll s.mu x).lockFb.published ≠ none ∧ s.pu.trips.lock = false ↔
          firstPublished s.mu.lockFb (sampleAll s.mu x).lockFb = true ∧ (sampled x s).pu.trips.lock = false := by
        rw [firstPublished_iff, and_assoc]
        rfl
      rw [Bool.or_eq_true, lockContradicted_iff, lockRead_lock hfirst, (lockRead_frame _ _).1]
      rfl
    · exact (announced_samplingRound x s).resolve_left (fun he => hne (htrips.symm.trans he))
    · exact samplingRound_dry ((above_iff _ _).2 ⟨v, hv, hhot⟩)
    · refine samplingRound_stops (hadded.imp ?_ ?_)
      · rintro ⟨hold, hnew⟩
        exact ⟨hold, by simpa [hold] using hnew⟩
      · rintro ⟨hold, hnew⟩
        exact ⟨hold, by simpa [hold] using hnew⟩
  · refine ⟨_, exec_next rfl hrun (disagreementPersists_adds ha hb hdiff), by simp, ?_, fun hnew => ?_, fun hnew hmanual => ?_,
      by simp, by simp, by simp, by simp⟩
    · simp [addTrip_pu, TripSet.put]
    · have hraised := announced_addTrip (s := s) (k := .sensor)
        (t := { s with mu.disagreeCount := 300, mu.disagreement := true }) (.inl rfl)
      refine (calm_conclude (.refl _)).events (hraised.resolve_left fun he => ?_)
      have hsensor := congrArg TripSet.sensor ((addTrip_trips .sensor _).symm.trans he)
      simp [TripSet.put, hnew] at hsensor
    · have hstops := addTrip_stops (s := s) (t := { s with mu.disagreeCount := 300, mu.disagreement := true })
        (k := .sensor) (.inr rfl) hnew (.inl ⟨rfl, rfl⟩)
      simpa using hstops.1 hmanual

end Sys2Proof.Machine.Cooking
end

section
/-! The end of a request, and what a stage entered writes (R100, R108 to R113, R128, R178 to R181). -/

namespace Sys2Proof.Machine.Cooking


section
variable {s t u : State}

/-! ### Steam no longer wanted (R108, R128) -/

theorem setSteamWanted_wanted (w : Bool) (s : State) : (setSteamWanted w s).sgc.steamWanted = w := by
  unfold setSteamWanted
  split
  next hw => exact hw
  · dsimp only
    split_ifs <;> simp

theorem judgeSteam_unwanted (h : steamShould s = false) (hd : s.sgc.steamDemand = 0) :
    judgeSteam s = setSteamWanted false s := by
  simp [judgeSteam, h, hd]

/-- COOL is entered: the fill's counts are discarded, a retained write is under way and the heater is off (R128, R129). -/
theorem enterCool_leaves (h : s.sgc.user = .climate) :
    (enterCool s).sgc.state = .cool ∧ (enterCool s).sgc.coolTime = 0 ∧ (enterCool s).sgc.pulses = 0 ∧
      (enterCool s).sgc.wait = none ∧ (enterCool s).sgc.limitMark = false ∧ (enterCool s).sdu.writing ≠ none ∧
      (enterCool s).lpd.loads.steamHeater.demand = 0 := by
  have hwriting (v : State) : (requestWrite v).sdu.writing ≠ none := by
    unfold requestWrite
    split
    · simp
    next hw => exact hw
  refine ⟨enterCool_state s, ?_, ?_, ?_, ?_, hwriting _, ?_⟩
  · simp [enterCool, discardFill, stopFill]
  · simp [enterCool, discardFill, stopFill]
  · simp [enterCool, discardFill, stopFill]
  · simp [enterCool, discardFill, stopFill]
  · simp [enterCool, becomeBoiler, discardFill, stopFill, h, heaterDemand, baseDemand]

theorem setSteamWanted_steaming (h : steamsForClimate s) :
    setSteamWanted false s = enterCool { s with sgc.steamWanted := false } := by
  obtain ⟨huser, hwanted, hstate⟩ := h
  simp only [List.mem_cons, List.not_mem_nil, or_false] at hstate
  rcases hstate with hs | hs | hs | hs | hs <;> simp [setSteamWanted, stopSteam, huser, hwanted, hs]

/-- Where the boiler does not steam for the climate, the hand-over of steam not wanted leaves its state and the scale unit. -/
theorem setSteamWanted_resting (h : ¬ steamsForClimate s) :
    (setSteamWanted false s).sgc.state = s.sgc.state ∧ (setSteamWanted false s).sdu = s.sdu := by
  unfold setSteamWanted
  split
  · exact ⟨rfl, rfl⟩
  next hwanted =>
    dsimp only
    split
    next huser =>
      have hstate : s.sgc.state ∉ [.fill, .heat, .steam, .refill, .waitWater] :=
        fun hs => h ⟨huser, by simpa using hwanted, hs⟩
      have hstop : stopSteam { s with sgc.steamWanted := false } = { s with sgc.steamWanted := false } := by
        unfold stopSteam
        cases hs : s.sgc.state <;> simp_all
      rw [if_neg (by decide), hstop]
      exact ⟨rfl, rfl⟩
    · exact ⟨rfl, rfl⟩

/-! ### The end of a request (R100, R112) -/

theorem restRegulators_leaves (s : State) :
    (restRegulators s).cr.temperature = s.cr.temperature.rest ∧ (restRegulators s).cr.humidity = s.cr.humidity.rest ∧
      (restRegulators s).lpd.loads.top.demand = 0 ∧ (restRegulators s).lpd.loads.bottom.demand = 0 ∧
      (restRegulators s).lpd.loads.ring.demand = 0 ∧ (restRegulators s).sgc.steamDemand = 0 := by
  simp [restRegulators, handSteamDemand]

/-- The request without a mode, its owner `o`, before steam is judged. -/
def requestDropped (o : Owner) (s : State) : State := restRegulators { s with cr.owner := o, cr.request := none }

theorem dropRequest_eq (o : Owner) (s : State) :
    dropRequest o s = leaveStarvedWithoutWork (refreshFan (judgeVent (setSteamWanted false (requestDropped o s)))) := by
  have hshould : steamShould (requestDropped o s) = false := by simp [steamShould, requestDropped]
  obtain ⟨-, -, -, -, -, hdemand⟩ := restRegulators_leaves { s with cr.owner := o, cr.request := none }
  rw [← judgeSteam_unwanted hshould hdemand]
  rfl

theorem dropRequest_leaves (o : Owner) (s : State) :
    (dropRequest o s).cr.temperature = s.cr.temperature.rest ∧ (dropRequest o s).cr.humidity = s.cr.humidity.rest ∧
      (dropRequest o s).lpd.loads.top.demand = 0 ∧ (dropRequest o s).lpd.loads.bottom.demand = 0 ∧
      (dropRequest o s).lpd.loads.ring.demand = 0 ∧ (dropRequest o s).sgc.steamWanted = false ∧
      (dropRequest o s).sgc.steamDemand = 0 ∧ (dropRequest o s).cr.ventOpen = true ∧
      (dropRequest o s).cr.fanCycle = none := by
  have hleft := restRegulators_leaves { s with cr.owner := o, cr.request := none }
  rw [dropRequest_eq]
  simp [setSteamWanted_wanted, requestDropped, hleft, judgeVent, ventFor, refreshFan, fanShould]

/-- What the end of a request leaves of the boiler (R108, R128). -/
theorem dropRequest_boiler (o : Owner) (s : State) :
    (steamsForClimate s →
      (dropRequest o s).sgc.state = .cool ∧ (dropRequest o s).sgc.coolTime = 0 ∧ (dropRequest o s).sgc.pulses = 0 ∧
        (dropRequest o s).sgc.wait = none ∧ (dropRequest o s).sgc.limitMark = false ∧
        (dropRequest o s).sdu.writing ≠ none ∧ (dropRequest o s).lpd.loads.steamHeater.demand = 0) ∧
    (¬ steamsForClimate s → (dropRequest o s).sgc.state = s.sgc.state ∧ (dropRequest o s).sdu = s.sdu) := by
  have hframe : (requestDropped o s).sgc.user = s.sgc.user ∧ (requestDropped o s).sgc.steamWanted = s.sgc.steamWanted ∧
      (requestDropped o s).sgc.state = s.sgc.state ∧ (requestDropped o s).sdu = s.sdu := by simp [requestDropped]
  obtain ⟨huser, hwanted, hstate, hsdu⟩ := hframe
  have hsteams : steamsForClimate (requestDropped o s) ↔ steamsForClimate s := by
    rw [steamsForClimate, huser, hwanted, hstate]
    rfl
  rw [dropRequest_eq]
  refine ⟨fun h => ?_, fun h => ?_⟩
  · rw [setSteamWanted_steaming (hsteams.2 h)]
    have hcooled := enterCool_leaves (s := { requestDropped o s with sgc.steamWanted := false }) (huser.trans h.1)
    simpa [judgeVent] using hcooled
  · obtain ⟨hs, hd⟩ := setSteamWanted_resting (mt hsteams.1 h)
    simp [judgeVent, hs, hd, hstate, hsdu]

theorem climateEnded_endRequest (h : s.cr.owner ≠ .none) : climateEnded s (endRequest s) := by
  have hdropped : endRequest s = dropRequest .none s := if_neg h
  obtain ⟨htemp, hhum, htop, hbottom, hring, hwanted, hdemand, hvent, hfan⟩ := dropRequest_leaves .none s
  rw [hdropped]
  exact ⟨⟨dropRequest_owner _ _, dropRequest_request _ _, htemp, hhum, htop, hbottom, hring, hwanted, hdemand, hvent, hfan⟩,
    dropRequest_boiler .none s⟩

/-! ### A stage's climate (R97, R178, R180) -/

theorem writeRequest_request (o : Owner) (r : Request) (s : State) : (writeRequest o r s).cr.request = some r := by
  simp only [writeRequest]
  split_ifs <;> simp

theorem writeRequest_sameMode {o : Owner} {r : Request} (h : s.cr.request.map Request.mode = some r.mode) :
    (writeRequest o r s).cr.temperature = s.cr.temperature ∧ (writeRequest o r s).cr.humidity = s.cr.humidity := by
  simp [writeRequest, h]

end

end Sys2Proof.Machine.Cooking
end

section
/-! The path through a program: the entry of a stage, the REPEATs, the end of a program and the chained start (R179 to R182, R191). -/

namespace Sys2Proof.Machine.Cooking


section
variable {s t u : State} {i j : SlotId} {k n : Nat} {st : Stage}

/-! ### The repeat-counter map (R182) -/

theorem lookRepeat_append_cons {l r : List (Nat × Nat)} {c : Nat} (k : Nat) :
    lookRepeat (l ++ (k, c) :: r) n = if n = k ∧ lookRepeat l n = none then some c else lookRepeat (l ++ r) n := by
  simp only [lookRepeat, List.find?_append, List.find?_cons, Option.map_eq_none_iff]
  by_cases hn : n = k
  · subst hn
    cases hl : l.find? (fun p => p.1 == n) <;> simp
  · simp [hn, beq_false_of_ne (Ne.symm hn)]

@[simp] theorem lookRepeat_dropRepeat_same (m : List (Nat × Nat)) (k : Nat) : lookRepeat (dropRepeat m k) k = none := by
  simp [lookRepeat, dropRepeat]

theorem lookRepeat_dropRepeat_other (m : List (Nat × Nat)) (h : n ≠ k) : lookRepeat (dropRepeat m k) n = lookRepeat m n := by
  unfold lookRepeat dropRepeat
  rw [List.find?_filter]
  congr 2
  funext p
  by_cases hp : p.1 = n <;> simp [hp, h]

/-- A part of the map without the entry for an index has none for it either. -/
theorem lookRepeat_takeWhile_dropRepeat (m : List (Nat × Nat)) (k : Nat) (q : Nat × Nat → Bool) :
    lookRepeat ((dropRepeat m k).takeWhile q) k = none := by
  simp only [lookRepeat, Option.map_eq_none_iff, List.find?_eq_none]
  intro p hp
  have hmem : p ∈ dropRepeat m k := (List.takeWhile_sublist q).subset hp
  simpa [dropRepeat] using (List.mem_filter.1 hmem).2

theorem lookRepeat_putRepeat_same (m : List (Nat × Nat)) (k c : Nat) : lookRepeat (putRepeat m k c) k = some c := by
  rw [putRepeat, lookRepeat_append_cons, if_pos ⟨rfl, lookRepeat_takeWhile_dropRepeat m k _⟩]

theorem lookRepeat_putRepeat_other (m : List (Nat × Nat)) (c : Nat) (h : n ≠ k) :
    lookRepeat (putRepeat m k c) n = lookRepeat m n := by
  rw [putRepeat, lookRepeat_append_cons, if_neg fun hk => h hk.1, List.takeWhile_append_dropWhile,
    lookRepeat_dropRepeat_other m h]

/-! ### A stage entered (R179 to R181, R189) -/

theorem enterStage_context (k : Nat) (st : Stage) (s : State) :
    (enterStage k st s).re.context = some (entryContext k st) := by
  cases st <;> simp only [enterStage] <;> split_ifs <;> simp

/-- The state in which a stage's climate is written. -/
def stageStarting (k : Nat) (st : Stage) (s : State) : State :=
  raise .stageStarted { s with re.context := some (entryContext k st) }

theorem calm_enterStage_raised (k : Nat) (st : Stage) (s : State) :
    ∀ e, ((raise .stageStarted s).od.events).has e = true → (enterStage k st s).od.events.has e = true := by
  intro e he
  have hcalm (r : Request) :
      calm (raise .stageStarted s) (writeStage r (stageStarting k st s)) :=
    calm_writeStage ⟨fun _ h => h, rfl, fun _ h => h⟩
  cases st with
  | heating r =>
    have hwritten := (hcalm r).events he
    simp only [enterStage]
    split_ifs
    · rw [raise_events, EventSet.has_or]
      exact (Bool.or_eq_true _ _).mpr (.inl hwritten)
    · exact hwritten
  | prompt | loop | finish =>
    simp only [enterStage]
    split_ifs <;> simp_all

theorem enterStage_started (k : Nat) (st : Stage) (s : State) :
    (enterStage k st s).od.events.has .stageStarted = true :=
  calm_enterStage_raised k st s .stageStarted (by simp)

theorem enterStage_events_kept {e : Event} (he : s.od.events.has e = true) :
    (enterStage k st s).od.events.has e = true :=
  calm_enterStage_raised k st s e (by simp [he])

/-- What a heating stage writes is the climate of its request. -/
theorem enterStage_heating {r : Request} {cond : Condition} {limit prompt : Option Nat} :
    let w := writeStage r (stageStarting k (.heating r cond limit prompt) s)
    (enterStage k (.heating r cond limit prompt) s).cr = w.cr ∧
      (enterStage k (.heating r cond limit prompt) s).lpd = w.lpd ∧
      (enterStage k (.heating r cond limit prompt) s).sgc = w.sgc ∧
      (enterStage k (.heating r cond limit prompt) s).re.holds = entryHolds (.heating r cond limit prompt) w := by
  simp only [enterStage]
  split_ifs <;> exact ⟨rfl, rfl, rfl, rfl⟩

theorem writeStage_untripped {r : Request} (h : cavityTripped s = false) : writeStage r s = writeRequest .recipe r s := by
  simp [writeStage, h]

theorem writeStage_tripped {r : Request} (h : cavityTripped s = true) : writeStage r s = dropRequest .recipe s := by
  simp [writeStage, h, holdWithoutMode]

/-- A cavity trip affects every heating stage. -/
theorem affects_of_cavityTripped {r : Request} {cond : Condition} {limit prompt : Option Nat} (h : cavityTripped s = true) :
    s.pu.trips.affects (.heating r cond limit prompt) = true := by
  simp only [cavityTripped, Bool.or_eq_true] at h
  rcases h with h | h <;> simp [TripSet.affects, Trip.affects, h]

theorem enterStage_prompt (limit : Option Nat) (code : Nat) :
    enterStage k (.prompt limit code) s =
      { s with
        od.events := s.od.events ||| Event.stageStarted.mask ||| Event.prompt.mask
        re := { s.re with
          context := some { index := k, stageClock := 0, atTempClock := 0, waiting := true, prompt := some code }
          holds := { power := s.ssu.starved, water := false, probe := false, trip := false } } } := by
  simp [enterStage, entryContext, entryHolds, Stage.standing, Stage.waits, Stage.steams, Stage.isCore, TripSet.affects,
    Trip.affects, raise]

/-! ### An index reached (R179, R182, R191) -/

theorem stageAt_of_running (h : s.re.running = some i) (k : Nat) : stageAt s k = (s.re.slot i).program[k]? := by
  simp [stageAt, h]

/-- A heating or PROMPT stage. -/
def isEntered : Stage → Bool
  | .heating _ _ _ _ | .prompt _ _ => true
  | .loop _ _ | .finish => false

theorem reach_entered (h : stageAt s k = some st) (hst : isEntered st = true) : reach (n + 1) k s = enterStage k st s := by
  cases st with
  | heating | prompt => simp [reach, h]
  | loop | finish => cases hst

theorem reach_loop {tgt c : Nat} (h : stageAt s k = some (.loop tgt c)) (hc : 0 < countAt s.re.repeats k c) :
    reach (n + 1) k s =
      reach n tgt { s with re.repeats := putRepeat s.re.repeats k (countAt s.re.repeats k c - 1) } := by
  simp [reach, h, hc]

theorem reach_fall {tgt c : Nat} (h : stageAt s k = some (.loop tgt c)) (hc : countAt s.re.repeats k c = 0) :
    reach (n + 1) k s = reach n (k + 1) { s with re.repeats := dropRepeat s.re.repeats k } := by
  simp [reach, h, hc]

theorem reach_finish (h : stageAt s k = some .finish) (hq : s.re.queued = none) :
    reach (n + 1) k s = endRequest { finishProgram s with re.running := none } := by
  simp [reach, h, hq]

/-- The running program has ended and slot `j` runs on, before what a PROMPT at its stage 0 writes (R178, R191). -/
def chained (j : SlotId) (s : State) : State :=
  markSlot j .running { finishProgram s with re.queued := none, re.running := some j }

theorem reach_chain (h : stageAt s k = some .finish) (hq : s.re.queued = some j) :
    reach (n + 1) k s = reach n 0 (firstPrompt (chained j s)) := by
  simp [reach, h, hq, runSlot, chained]

end

end Sys2Proof.Machine.Cooking
end

section
/-! What the end of a stage brings: a stage that begins, a program that is over, or a chained start (R112, R179 to R182, R191). -/

namespace Sys2Proof.Machine.Cooking


section
variable {s t u w : State} {i j : SlotId} {m n : Nat} {st : Stage} {l : LinkUnit} {o : OrderDecoder}

/-! ### The states an index is reached from -/

/-- `w` is `s` but for the link, the answer and the counts and context of its program: the same stages are reached. -/
def sameProgram (s w : State) : Prop :=
  w = { s with link := w.link, od := w.od, re := w.re } ∧ w.od.events = s.od.events ∧ w.re.slotA = s.re.slotA ∧
    w.re.slotB = s.re.slotB ∧ w.re.running = s.re.running ∧ w.re.queued = s.re.queued

theorem slot_congr {r q : RecipeEngine} (ha : r.slotA = q.slotA) (hb : r.slotB = q.slotB) (j : SlotId) : r.slot j = q.slot j := by
  cases j
  · exact ha
  · exact hb

theorem sameProgram.slot (h : sameProgram s w) (j : SlotId) : w.re.slot j = s.re.slot j := by
  obtain ⟨-, -, ha, hb, -, -⟩ := h
  exact slot_congr ha hb j

theorem sameProgram.blocks (h : sameProgram s w) :
    w.mu = s.mu ∧ w.pu = s.pu ∧ w.ssu = s.ssu ∧ w.sdu = s.sdu ∧ w.cr = s.cr ∧ w.sgc = s.sgc := by
  obtain ⟨heq, -⟩ := h
  rw [heq]
  exact ⟨rfl, rfl, rfl, rfl, rfl, rfl⟩

theorem sameProgram.stageAt (h : sameProgram s w) (hr : s.re.running = some i) (m : Nat) :
    stageAt w m = (s.re.slot i).program[m]? := by
  obtain ⟨-, -, -, -, hrun, -⟩ := id h
  rw [stageAt_of_running (hrun.trans hr), h.slot i]

/-! ### A stage begins (R179 to R181, R189) -/

/-- No request with a mode stands and no element heats for it. -/
def unheated (t : State) : Prop :=
  t.cr.request = none ∧ t.lpd.loads.top.demand = 0 ∧ t.lpd.loads.bottom.demand = 0 ∧ t.lpd.loads.ring.demand = 0 ∧
    t.sgc.steamWanted = false

theorem unheated_dropRequest (o : Owner) (s : State) : unheated (dropRequest o s) := by
  obtain ⟨-, -, htop, hbottom, hring, hwanted, -⟩ := dropRequest_leaves o s
  exact ⟨dropRequest_request o s, htop, hbottom, hring, hwanted⟩

/-- Stage `m`, `st`, is in progress in `t` as it begins, with the climate of `s` before it. -/
def stageBegun (s t : State) (m : Nat) (st : Stage) : Prop :=
  t.od.events.has .stageStarted = true ∧ t.mu = s.mu ∧ t.pu = s.pu ∧ t.ssu.claim = s.ssu.claim ∧
    t.sdu.account = s.sdu.account ∧
    (∀ r cond limit prompt, st = .heating r cond limit prompt →
      t.cr.owner = .recipe ∧ t.re.context = some
          { index := m, stageClock := 0, atTempClock := 0, waiting := decide (cond = .confirm),
            prompt := if cond = .confirm then some (prompt.getD 0) else prompt } ∧
        (¬ (s.pu.trips.cavityOvertemp = true ∨ s.pu.trips.sensor = true) → t.cr.request = some r ∧
          (s.cr.request.map Request.mode = some r.mode →
            t.cr.temperature = s.cr.temperature ∧ t.cr.humidity = s.cr.humidity)) ∧
        ((s.pu.trips.cavityOvertemp = true ∨ s.pu.trips.sensor = true) → unheated t ∧ t.re.holds.trip = true)) ∧
    (∀ limit code, st = .prompt limit code →
      t.re.context = some { index := m, stageClock := 0, atTempClock := 0, waiting := true, prompt := some code } ∧
        t.od.events.has .prompt = true ∧
        t.re.holds = { power := t.ssu.starved, water := false, probe := false, trip := false })

theorem stageBegun.served (h : stageBegun s t m st) (ho : o.events = t.od.events) :
    stageBegun s { t with link := l, od := o } m st := by
  obtain ⟨hstarted, hmu, hpu, hclaim, haccount, hheating, hprompt⟩ := h
  refine ⟨(congrArg (EventSet.has · _) ho).trans hstarted, hmu, hpu, hclaim, haccount, hheating, fun limit code hst => ?_⟩
  obtain ⟨hcontext, hraised, hholds⟩ := hprompt limit code hst
  exact ⟨hcontext, (congrArg (EventSet.has · _) ho).trans hraised, hholds⟩

theorem entryContext_heating (m : Nat) (r : Request) (cond : Condition) (limit prompt : Option Nat) :
    entryContext m (.heating r cond limit prompt) =
      { index := m, stageClock := 0, atTempClock := 0, waiting := decide (cond = .confirm),
        prompt := if cond = .confirm then some (prompt.getD 0) else prompt } := by
  cases cond <;> simp [entryContext, Stage.waits, Stage.standing]

theorem cavityTripped_iff : cavityTripped s = true ↔ s.pu.trips.cavityOvertemp = true ∨ s.pu.trips.sensor = true := by
  simp [cavityTripped]

/-- The climate and the holds of a heating stage as it begins. -/
theorem enterStage_climate (r : Request) (cond : Condition) (limit prompt : Option Nat) :
    let t := enterStage m (.heating r cond limit prompt) w
    t.cr.owner = .recipe ∧
      (cavityTripped w = false → t.cr.request = some r ∧ (w.cr.request.map Request.mode = some r.mode →
        t.cr.temperature = w.cr.temperature ∧ t.cr.humidity = w.cr.humidity)) ∧
      (cavityTripped w = true → unheated t ∧ t.re.holds.trip = true) := by
  obtain ⟨hcr, hlpd, hsgc, hholds⟩ :=
    enterStage_heating (s := w) (k := m) (r := r) (cond := cond) (limit := limit) (prompt := prompt)
  refine ⟨by rw [hcr, writeStage_owner], fun hfree => ?_, fun htrip => ?_⟩
  · rw [writeStage_untripped (s := stageStarting m _ w) hfree] at hcr
    rw [hcr]
    exact ⟨writeRequest_request _ _ _, fun hmode => writeRequest_sameMode hmode⟩
  · have haffects : w.pu.trips.affects (.heating r cond limit prompt) = true := affects_of_cavityTripped htrip
    refine ⟨?_, by rw [hholds]; simpa [entryHolds, stageStarting] using haffects⟩
    rw [writeStage_tripped (s := stageStarting m _ w) htrip] at hcr hlpd hsgc
    rw [unheated, hcr, hlpd, hsgc]
    exact unheated_dropRequest _ _

theorem stageBegun_enterStage
    (hw : w.mu = s.mu ∧ w.pu = s.pu ∧ w.ssu.claim = s.ssu.claim ∧ w.sdu.account = s.sdu.account)
    (hcr : ∀ r cond limit prompt, st = .heating r cond limit prompt → w.cr = s.cr) :
    stageBegun s (enterStage m st w) m st := by
  obtain ⟨hmu, hpu, hclaim, haccount⟩ := hw
  have htrips : cavityTripped w = cavityTripped s := by simp [cavityTripped, hpu]
  refine ⟨enterStage_started m st w, by simp [hmu], by simp [hpu], by simp [hclaim], by simp [haccount], ?_, ?_⟩
  · rintro r cond limit prompt rfl
    obtain ⟨howner, hfree, htripped⟩ := enterStage_climate (m := m) (w := w) r cond limit prompt
    rw [htrips, hcr r cond limit prompt rfl] at hfree
    rw [htrips] at htripped
    rw [← cavityTripped_iff]
    exact ⟨howner, by rw [enterStage_context, entryContext_heating], fun hn => hfree (by simpa using hn), htripped⟩
  · rintro limit code rfl
    rw [enterStage_prompt]
    exact ⟨rfl, by simp, rfl⟩

/-! ### A program is over (R112, R191) -/

/-- The program that ran in `s` is over in `t`, and none runs on: its slots are READY and the climate request has ended. -/
def programOver (s t : State) : Prop :=
  t.re.running = none ∧ t.re.queued = none ∧ t.re.context = none ∧ t.re.repeats = [] ∧ t.re.holds = .empty ∧
    (∀ j, t.re.slot j = { s.re.slot j with
      state := if s.re.running = some j ∨ s.re.queued = some j then .ready else (s.re.slot j).state }) ∧
    t.cr.owner = .none ∧ (recipeOwnsClimate s → climateEnded s t) ∧ t.od.events.has .recipeDone = true ∧ t.mu = s.mu ∧
    t.pu = s.pu ∧ t.sdu.account = s.sdu.account

theorem programOver.served (h : programOver s t) (ho : o.events = t.od.events) :
    programOver s { t with link := l, od := o } := by
  obtain ⟨hrun, hqueued, hcontext, hrepeats, hholds, hslots, howner, hended, hdone, hkept⟩ := h
  exact ⟨hrun, hqueued, hcontext, hrepeats, hholds, fun j => by cases j <;> exact hslots _, howner, hended,
    (congrArg (EventSet.has · _) ho).trans hdone, hkept⟩

theorem climateEnded_congr (h : u.cr = s.cr ∧ u.sgc = s.sgc ∧ u.sdu = s.sdu) (hu : climateEnded u t) : climateEnded s t := by
  obtain ⟨hcr, hsgc, hsdu⟩ := h
  simpa only [climateEnded, requestEnded, steamsForClimate, hcr, hsgc, hsdu] using hu

/-- The program of slot `k` ends in `u`, and no slot is queued. -/
theorem programOver_finish {k : SlotId} (hr : u.re.running = some k) (hq : u.re.queued = none)
    (hslots : ∀ j, (if j = k then { u.re.slot k with state := .ready } else u.re.slot j) = { s.re.slot j with
      state := if s.re.running = some j ∨ s.re.queued = some j then .ready else (s.re.slot j).state })
    (hclimate : u.cr = s.cr ∧ u.sgc = s.sgc ∧ u.sdu = s.sdu) (hrun : s.re.running ≠ none)
    (hkept : u.mu = s.mu ∧ u.pu = s.pu) :
    programOver s (endRequest { finishProgram u with re.running := none }) := by
  obtain ⟨hcr, hsgc, hsdu⟩ := hclimate
  obtain ⟨hmu, hpu⟩ := hkept
  have hfinish := finishProgram_eq hr
  have hcalm := calm_endRequest (.refl { finishProgram u with re.running := none })
  refine ⟨by simp, by simp [hfinish, dropRun, markSlot, setSlot, hq], by simp [hfinish, dropRun, raise],
    by simp [hfinish, dropRun, raise], hcalm.rests rfl (by simp [hfinish, dropRun, raise]), fun j => ?_, endRequest_owner _,
    fun howns => ?_, hcalm.events (by simp [hfinish]), by simp [hmu], by simp [hpu], by simp [hsdu]⟩
  · rw [← hslots j, ← slot_finishProgram hr j]
    exact slot_congr (by simp) (by simp) j
  · refine climateEnded_congr (by simp [hcr, hsgc, hsdu]) (climateEnded_endRequest ?_)
    simp [hcr, howns.1 hrun]

/-! ### A chained start (R191) -/

theorem chained_re (hr : s.re.running = some i) :
    (chained j s).re.running = some j ∧ (chained j s).re.queued = none ∧ (chained j s).re.context = none ∧
      (chained j s).re.repeats = [] ∧ (chained j s).re.holds = .empty := by
  cases j <;> simp [chained, finishProgram_eq hr, markSlot, setSlot, RecipeEngine.setSlot, dropRun, raise]

theorem slot_chained (hr : s.re.running = some i) (hji : j ≠ i) (k : SlotId) :
    (chained j s).re.slot k =
      if k = j then { s.re.slot j with state := .running } else if k = i then { s.re.slot i with state := .ready }
      else s.re.slot k := by
  have hslot (n : SlotId) :
      RecipeEngine.slot { (finishProgram s).re with queued := none, running := some j } n =
        if n = i then { s.re.slot i with state := .ready } else s.re.slot n :=
    Eq.trans (by cases n <;> rfl) (slot_finishProgram hr n)
  rw [chained, slot_markSlot, hslot, hslot, if_neg hji]

theorem chained_blocks (hr : s.re.running = some i) :
    (chained j s).mu = s.mu ∧ (chained j s).pu = s.pu ∧ (chained j s).ssu = s.ssu ∧ (chained j s).sdu = s.sdu ∧
      (chained j s).cr = s.cr ∧ (chained j s).sgc = s.sgc ∧
      (chained j s).od.events = s.od.events ||| Event.recipeDone.mask := by
  simp [chained, finishProgram_eq hr]

theorem stageAt_chained (hr : s.re.running = some i) (hji : j ≠ i) :
    stageAt (chained j s) 0 = (s.re.slot j).program.head? := by
  rw [stageAt_of_running (chained_re hr).1, slot_chained hr hji, if_pos rfl, List.head?_eq_getElem?]

theorem firstPrompt_prompt {limit : Option Nat} {code : Nat} (h : stageAt s 0 = some (.prompt limit code)) :
    firstPrompt s = dropRequest .recipe s := by simp [firstPrompt, h, holdWithoutMode]

theorem firstPrompt_other (h : ∀ limit code, stageAt s 0 ≠ some (.prompt limit code)) : firstPrompt s = s := by
  unfold firstPrompt
  split
  next hst => exact absurd hst (h _ _)
  · rfl

/-! ### What is reached -/

theorem reach_begins (hw : sameProgram s w) (hr : s.re.running = some i) (hst : (s.re.slot i).program[m]? = some st)
    (hentered : isEntered st = true) : stageBegun s (reach (n + 1) m w) m st := by
  obtain ⟨hmu, hpu, hssu, hsdu, hcr, -⟩ := hw.blocks
  rw [reach_entered ((hw.stageAt hr m).trans hst) hentered]
  exact stageBegun_enterStage ⟨hmu, hpu, by rw [hssu], by rw [hsdu]⟩ fun _ _ _ _ _ => hcr

/-- A stage entered leaves the program, its slots and its counts; a PROMPT moves only the events and the stage's own data. -/
theorem reach_stays (hw : sameProgram s w) (hr : s.re.running = some i) (hst : (s.re.slot i).program[m]? = some st)
    (hentered : isEntered st = true) :
    let t := reach (n + 1) m w
    t.re.running = some i ∧ t.re.queued = s.re.queued ∧ t.re.slotA = s.re.slotA ∧ t.re.slotB = s.re.slotB ∧
      t.re.repeats = w.re.repeats ∧
      (∀ limit code, st = .prompt limit code →
        t.od.events = s.od.events ||| Event.stageStarted.mask ||| Event.prompt.mask ∧
          t = { s with link := t.link, od := t.od, re := t.re }) := by
  obtain ⟨heq, hevents, ha, hb, hrun, hqueued⟩ := id hw
  rw [reach_entered ((hw.stageAt hr m).trans hst) hentered]
  refine ⟨by simp [hrun, hr], by simp [hqueued], by simp [ha], by simp [hb], by simp, ?_⟩
  rintro limit code rfl
  rw [enterStage_prompt, ← hevents]
  refine ⟨rfl, ?_⟩
  rw [heq]

theorem reach_ends (hw : sameProgram s w) (hr : s.re.running = some i) (hst : (s.re.slot i).program[m]? = some .finish)
    (hq : s.re.queued = none) : programOver s (reach (n + 1) m w) := by
  obtain ⟨hmu, hpu, -, hsdu, hcr, hsgc⟩ := hw.blocks
  obtain ⟨-, -, -, -, hrun, hqueued⟩ := id hw
  have hwr : w.re.running = some i := hrun.trans hr
  rw [reach_finish ((hw.stageAt hr m).trans hst) (hqueued.trans hq)]
  refine programOver_finish hwr (hqueued.trans hq) (fun j => ?_) ⟨hcr, hsgc, hsdu⟩ (by simp [hr]) ⟨hmu, hpu⟩
  rw [hw.slot, hw.slot]
  by_cases hj : j = i
  · simp [hj, hr]
  · simp [hj, hr, hq, Ne.symm hj]

theorem stageAt_firstPrompt (s : State) (k : Nat) : stageAt (firstPrompt s) k = stageAt s k := by
  simp only [stageAt, firstPrompt_keeps, slot_congr (r := (firstPrompt s).re) (q := s.re) (by simp) (by simp)]

theorem calm_firstPrompt (h : calm s t) : calm s (firstPrompt t) := by
  unfold firstPrompt
  split
  · exact calm_dropRequest h
  · exact h

/-- The queued slot runs on from its stage 0, which is entered. -/
theorem reach_chain_begins (hw : sameProgram s w) (hr : s.re.running = some i)
    (hst : (s.re.slot i).program[m]? = some .finish) (hq : s.re.queued = some j) (hji : j ≠ i)
    (hhead : (s.re.slot j).program.head? = some st) (hentered : isEntered st = true) :
    let t := reach (n + 2) m w
    stageBegun s t 0 st ∧ t.re.running = some j ∧ t.re.queued = none ∧
      t.re.slot i = { s.re.slot i with state := .ready } ∧ t.re.slot j = { s.re.slot j with state := .running } ∧
      t.re.repeats = [] ∧ t.od.events.has .recipeDone = true ∧
      ((∃ limit code, st = .prompt limit code) → t.cr.owner = .recipe ∧ unheated t) := by
  obtain ⟨hmu, hpu, hssu, hsdu, hcr, -⟩ := hw.blocks
  obtain ⟨-, -, -, -, hrun, hqueued⟩ := id hw
  have hwr : w.re.running = some i := hrun.trans hr
  obtain ⟨crun, cqueued, -, crepeats, -⟩ := chained_re (j := j) hwr
  obtain ⟨cmu, cpu, cssu, csdu, ccr, -, cevents⟩ := chained_blocks (j := j) hwr
  have hfirst : stageAt (chained j w) 0 = some st := by rw [stageAt_chained hwr hji, hw.slot, hhead]
  have hreach : reach (n + 2) m w = enterStage 0 st (firstPrompt (chained j w)) := by
    rw [reach_chain ((hw.stageAt hr m).trans hst) (hqueued.trans hq),
      reach_entered ((stageAt_firstPrompt _ 0).trans hfirst) hentered]
  have hslot (k : SlotId) : (enterStage 0 st (firstPrompt (chained j w))).re.slot k = (chained j w).re.slot k :=
    slot_congr (by simp) (by simp) k
  have hdone : (firstPrompt (chained j w)).od.events.has .recipeDone = true :=
    (calm_firstPrompt (.refl _)).events (by simp [cevents])
  dsimp only
  rw [hreach]
  refine ⟨stageBegun_enterStage ?_ ?_, by simp [crun], by simp [cqueued], ?_, ?_, by simp [crepeats],
    enterStage_events_kept hdone, ?_⟩
  · simp [cmu, cpu, cssu, csdu, hmu, hpu, hssu, hsdu]
  · rintro r cond limit prompt rfl
    rw [firstPrompt_other (by simp [hfirst]), ccr, hcr]
  · rw [hslot, slot_chained hwr hji, if_neg (Ne.symm hji), if_pos rfl, hw.slot]
  · rw [hslot, slot_chained hwr hji, if_pos rfl, hw.slot]
  · rintro ⟨limit, code, rfl⟩
    rw [firstPrompt_prompt hfirst, enterStage_prompt]
    exact ⟨dropRequest_owner _ _, unheated_dropRequest _ _⟩

/-- The queued slot's program is an END alone, and is over too. -/
theorem reach_chain_ends (hw : sameProgram s w) (hr : s.re.running = some i)
    (hst : (s.re.slot i).program[m]? = some .finish) (hq : s.re.queued = some j) (hji : j ≠ i)
    (hhead : (s.re.slot j).program.head? = some .finish) : programOver s (reach (n + 2) m w) := by
  obtain ⟨hmu, hpu, -, hsdu, hcr, hsgc⟩ := hw.blocks
  obtain ⟨-, -, -, -, hrun, hqueued⟩ := id hw
  have hwr : w.re.running = some i := hrun.trans hr
  obtain ⟨crun, cqueued, -⟩ := chained_re (j := j) hwr
  obtain ⟨cmu, cpu, -, csdu, ccr, csgc, -⟩ := chained_blocks (j := j) hwr
  have hfirst : stageAt (chained j w) 0 = some .finish := by rw [stageAt_chained hwr hji, hw.slot, hhead]
  rw [reach_chain ((hw.stageAt hr m).trans hst) (hqueued.trans hq), firstPrompt_other (by simp [hfirst]),
    reach_finish hfirst cqueued]
  refine programOver_finish crun cqueued (fun k => ?_) ⟨ccr.trans hcr, csgc.trans hsgc, csdu.trans hsdu⟩ (by simp [hr])
    ⟨cmu.trans hmu, cpu.trans hpu⟩
  rw [slot_chained hwr hji, slot_chained hwr hji, if_pos rfl, hw.slot, hw.slot, hw.slot]
  by_cases hj : k = j
  · simp [hj, hq]
  · by_cases hi : k = i
    · simp [hi, hr, Ne.symm hji]
    · simp [hj, hi, hr, hq, Ne.symm hj, Ne.symm hi]

end

end Sys2Proof.Machine.Cooking
end

section
/-! The end of a stage in progress as the orders and the stage tick bring it (R179, R182 to R186). -/

namespace Sys2Proof.Machine.Cooking

open Sharing

section
variable {s u : State} {i : SlotId} {c : StageContext} {l : LinkUnit} {o : OrderDecoder}

theorem sameProgram.repeats (h : sameProgram s u) (m : List (Nat × Nat)) : sameProgram s { u with re.repeats := m } := by
  obtain ⟨heq, hkept⟩ := h
  exact ⟨congrArg (fun v : State => { v with re := { u.re with repeats := m } }) heq, hkept⟩

theorem countAt_of_none {m : List (Nat × Nat)} {k n : Nat} (h : lookRepeat m k = none) : countAt m k n = n := by
  simp [countAt, h]

theorem countAt_of_some {m : List (Nat × Nat)} {k n left : Nat} (h : lookRepeat m k = some left) : countAt m k n = left := by
  simp [countAt, h]

/-- The index after a stage that ends is reached from `u`, and what a served event moves of link and order decoder is left open. -/
theorem stageEnds_of_reach (hu : sameProgram s u) (hrepeats : u.re.repeats = s.re.repeats) (hr : s.re.running = some i)
    (hl : l.confirmation = s.link.confirmation) (ho : o.events = (reach 64 (c.index + 1) u).od.events) :
    stageEnds (.next { reach 64 (c.index + 1) u with link := l, od := o }) i c s := by
  generalize hx : reach 64 (c.index + 1) u = x at ho ⊢
  unfold stageEnds
  intro next prog tripped isEnteredStage unheatedState inStage entered othersKept ended arrives
  have harrives (m n : Nat) (counts : List (Nat × Nat)) (counted : State → Prop)
      (hreach : x = reach (n + 2) m { u with re.repeats := counts })
      (hcounted : ∀ t : State, t.re.repeats = counts → counted t) : arrives m counted := by
    have hw : sameProgram s { u with re.repeats := counts } := hu.repeats counts
    subst hreach
    refine ⟨fun st hst hentered => ?_, fun hst hq => ?_, fun j hst hq hji => ⟨fun st hhead hentered => ?_, fun hhead => ?_⟩⟩
    · have hstage : isEntered st = true := by cases st <;> exact hentered
      obtain ⟨hrunning, hqueued, ha, hb, hcounts, hprompt⟩ := reach_stays (n := n + 1) hw hr hst hstage
      refine ⟨_, rfl, ⟨⟨hl, (reach_begins hw hr hst hstage).served ho⟩, hrunning, hqueued, ha, hb, fun limit code hp => ?_⟩,
        hcounted _ hcounts⟩
      obtain ⟨hevents, heq⟩ := hprompt limit code hp
      exact ⟨ho.trans hevents, congrArg (fun v : State => { v with link := l, od := o }) heq⟩
    · exact ⟨_, rfl, hl, (reach_ends hw hr hst hq).served ho⟩
    · have hstage : isEntered st = true := by cases st <;> exact hentered
      obtain ⟨hbegun, hrunning, hqueued, hi, hj, hcounts, hdone, hprompt⟩ := reach_chain_begins hw hr hst hq hji hhead hstage
      exact ⟨_, rfl, ⟨hl, hbegun.served ho⟩, hrunning, hqueued, hi, hj, hcounts,
        (congrArg (EventSet.has · _) ho).trans hdone, hprompt⟩
    · exact ⟨_, rfl, hl, (reach_chain_ends hw hr hst hq hji hhead).served ho⟩
  refine ⟨harrives next 62 u.re.repeats _ hx.symm fun t ht => ht.trans hrepeats, fun tgt n hst => ?_⟩
  have hloop : stageAt u next = some (.loop tgt n) := (hu.stageAt hr next).trans hst
  have hothers (t : State) (h : ∀ j, j ≠ next → lookRepeat t.re.repeats j = lookRepeat u.re.repeats j) : othersKept t :=
    fun j hj => (h j hj).trans (by rw [hrepeats])
  have hjump (left : Nat) (hcount : countAt u.re.repeats next n = left + 1) :
      arrives tgt fun t => lookRepeat t.re.repeats next = some left ∧ othersKept t := by
    refine harrives tgt 61 (putRepeat u.re.repeats next left) _ ?_ fun t ht => ⟨?_, hothers t fun j hj => ?_⟩
    · rw [← hx, reach_loop hloop (by omega), hcount]
      rfl
    · rw [ht, lookRepeat_putRepeat_same]
    · rw [ht, lookRepeat_putRepeat_other _ _ hj]
  refine ⟨fun hnone hpos => hjump (n - 1) ?_, fun left hsome => hjump left ?_, fun hfall => ?_⟩
  · rw [hrepeats, countAt_of_none hnone]
    omega
  · rw [hrepeats, countAt_of_some hsome]
  · have hcount : countAt u.re.repeats next n = 0 := by
      rw [hrepeats]
      rcases hfall with hsome | ⟨hnone, hn⟩
      · exact countAt_of_some hsome
      · exact (countAt_of_none hnone).trans hn
    refine harrives (next + 1) 61 (dropRepeat u.re.repeats next) _ ?_ fun t ht => ⟨?_, hothers t fun j hj => ?_⟩
    · rw [← hx, reach_fall hloop hcount]
    · rw [ht, lookRepeat_dropRepeat_same]
    · rw [ht, lookRepeat_dropRepeat_other _ hj]

theorem endStage_of_context (h : s.re.context = some c) : endStage s = reach 64 (c.index + 1) s := by
  simp [endStage, h, reachIndex]

/-! ### The orders that end a stage (R185, R186) -/

theorem indexField_eq {k : Byte} (h : k.toNat ≤ 23) : indexField [k] = some k.toNat := by simp [indexField, h]

/-- The order is past the checks that every order of its kind has: what remains is its own refusal of STALE_PROMPT. -/
def endOrder (k : Byte) (refusal : Nat → Option Reason) (s : State) : State :=
  match refusal k.toNat with
  | some r => answered (.refuse r) s
  | none => answered .accept (serviceEvents (endStage s))

theorem runOrder_endOrder {a : Addr} {k : Byte} {refusal : Nat → Option Reason} (hsender : a = s.config.console)
    (hk : k.toNat ≤ 23) (hlisten : listening s = false) (hrestart : s.od.restartPending = false) :
    runOrder a (indexField [k]) (listening s) refusal (fun _ => serviceEvents (endStage s)) s = endOrder k refusal s := by
  cases hrefusal : refusal k.toNat <;>
    simp [runOrder, endOrder, hsender, indexField_eq hk, hlisten, hrestart, hrefusal, answer, answered]

theorem endOrder_refused {k : Byte} {refusal : Nat → Option Reason} (h : refusal k.toNat = some .stalePrompt) :
    endOrder k refusal s = answered (.refuse .stalePrompt) s := by simp [endOrder, h]

theorem endOrder_ends {k : Byte} {refusal : Nat → Option Reason} (hrefusal : refusal k.toNat = none)
    (hr : s.re.running = some i) (hc : s.re.context = some c) :
    stageEnds (.next (endOrder k refusal s)) i c (answered .accept s) := by
  have hserved : endOrder k refusal s =
      { reach 64 (c.index + 1) s with
        link := (answered .accept (serviceEvents (endStage s))).link, od := (serviceEvents (endStage s)).od } := by
    rw [← endStage_of_context hc]
    simp only [endOrder, hrefusal]
    exact congrArg (answered .accept) (serviceEvents_frame (endStage s))
  rw [hserved]
  refine stageEnds_of_reach (u := s) ⟨rfl, rfl, rfl, rfl, rfl, rfl⟩ rfl hr rfl ?_
  rw [serviceEvents_events, endStage_of_context hc]

/-- The refusals of RECIPE_CONFIRM (R185). -/
def confirmRefusal (s : State) (k : Nat) : Option Reason :=
  firstOf [(recipeState s != .waitPrompt || stageInProgress s != some k, .stalePrompt)]

/-- The refusals of RECIPE_SKIP (R186). -/
def skipRefusal (s : State) (k : Nat) : Option Reason := firstOf [(stageInProgress s != some k, .stalePrompt)]

theorem exec_recipeConfirm {a : Addr} {k : Byte} (h : admitted (.recipeConfirm a [k]) s) :
    exec (.recipeConfirm a [k]) s = .next (endOrder k (confirmRefusal s) s) := by
  obtain ⟨hrun, hsender, ⟨k', hargs, hk⟩, hbusy, hrestart⟩ := h
  obtain rfl : k = k' := by simpa using hargs
  have hlisten : listening s = false := by simpa [meetsBusy, neverBusy, asksLock, listening] using hbusy
  exact exec_next rfl hrun (runOrder_endOrder (Option.some.inj hsender) hk hlisten hrestart)

theorem exec_recipeSkip {a : Addr} {k : Byte} (h : admitted (.recipeSkip a [k]) s) :
    exec (.recipeSkip a [k]) s = .next (endOrder k (skipRefusal s) s) := by
  obtain ⟨hrun, hsender, ⟨k', hargs, hk⟩, hbusy, hrestart⟩ := h
  obtain rfl : k = k' := by simpa using hargs
  have hlisten : listening s = false := by simpa [meetsBusy, neverBusy, asksLock, listening] using hbusy
  exact exec_next rfl hrun (runOrder_endOrder (Option.some.inj hsender) hk hlisten hrestart)

theorem stageInProgress_of_running (hr : s.re.running = some i) (hc : s.re.context = some c) :
    stageInProgress s = some c.index := by simp [stageInProgress, hr, hc]

theorem confirmRefusal_eq (k : Nat) :
    confirmRefusal s k =
      if recipeState s ≠ .waitPrompt ∨ stageInProgress s ≠ some k then some .stalePrompt else none := by
  by_cases hstate : recipeState s = .waitPrompt <;> by_cases hindex : stageInProgress s = some k <;>
    simp [confirmRefusal, firstOf, hstate, hindex]

theorem skipRefusal_eq (k : Nat) :
    skipRefusal s k = if stageInProgress s ≠ some k then some .stalePrompt else none := by
  by_cases hindex : stageInProgress s = some k <;> simp [skipRefusal, firstOf, hindex]

end

/-- Settles O30: an order past its checks is refused for the stage it names or ends it, and what follows is reached. -/
theorem confirmAndSkipEndStage : Obligations.ConfirmAndSkipEndStage := by
  intro a k s _ _
  refine ⟨fun hidle => ⟨fun hadm => ?_, fun hadm => ?_⟩, fun i c hr hc => ⟨fun hadm => ⟨fun hstale => ?_, fun hwait hk => ?_⟩,
    fun hadm => ⟨fun hstale => ?_, fun hk => ?_⟩⟩⟩
  · rw [exec_recipeConfirm hadm, endOrder_refused]
    rw [confirmRefusal_eq, if_pos (.inr (by simp [stageInProgress, hidle]))]
  · rw [exec_recipeSkip hadm, endOrder_refused]
    rw [skipRefusal_eq, if_pos (by simp [stageInProgress, hidle])]
  · rw [exec_recipeConfirm hadm, endOrder_refused]
    rw [confirmRefusal_eq, stageInProgress_of_running hr hc, if_pos]
    simpa [eq_comm] using hstale
  · rw [exec_recipeConfirm hadm]
    refine endOrder_ends ?_ hr hc
    rw [confirmRefusal_eq, stageInProgress_of_running hr hc, if_neg (by simp [hwait, hk])]
  · rw [exec_recipeSkip hadm, endOrder_refused]
    rw [skipRefusal_eq, stageInProgress_of_running hr hc, if_pos (by simpa [eq_comm] using hstale)]
  · rw [exec_recipeSkip hadm]
    refine endOrder_ends ?_ hr hc
    rw [skipRefusal_eq, stageInProgress_of_running hr hc, if_neg (by simp [hk])]

end Sys2Proof.Machine.Cooking
end

section
/-! The stage tick: clocks, end conditions and limits (R183, R184). -/

namespace Sys2Proof.Machine.Cooking

open Sharing

section
variable {s : State} {i : SlotId} {c c' : StageContext} {st : Stage} {r : Request} {limit p : Option Nat} {n : Nat}

/-! ### The clocks (R183) -/

theorem inBand_iff :
    inBand s r = true ↔ ∃ v, s.mu.regulated = some v ∧ r.cavity - 50 ≤ v ∧ (r.mode = .steam ∨ v ≤ r.cavity + 50) := by
  cases hv : s.mu.regulated <;> simp [inBand, hv]

theorem tickClocks_inBand {cond : Condition} (hstate : recipeState s = .running) (h : inBand s r = true) :
    tickClocks (.heating r cond limit p) c s =
      { c with stageClock := bump c.stageClock, atTempClock := bump c.atTempClock } := by
  simp [tickClocks, hstate, h]

theorem tickClocks_outOfBand {cond : Condition} (hstate : recipeState s = .running) (h : ¬ inBand s r = true) :
    tickClocks (.heating r cond limit p) c s = { c with stageClock := bump c.stageClock } := by
  simp [tickClocks, hstate, h]

theorem tickClocks_still (h : recipeState s = .pausedDoor ∨ recipeState s = .held) : tickClocks st c s = c := by
  rcases h with h | h <;> simp [tickClocks, h]

theorem holds_none_iff : s.re.holds.none = true ↔ s.re.holds = .empty := by
  obtain ⟨power, water, probe, trip⟩ := s.re.holds
  simp [HoldSet.none, HoldSet.empty, and_assoc]

/-- While a prompt waits, only a limit's clock counts, and only where no hold stands. -/
theorem tickClocks_waits (hstate : recipeState s = .waitPrompt) :
    tickClocks st c s =
      if st.limit.isSome = true ∧ s.re.holds = .empty then { c with stageClock := bump c.stageClock } else c := by
  simp [tickClocks, hstate, holds_none_iff]

theorem tickClocks_waiting (st : Stage) (c : StageContext) (s : State) : (tickClocks st c s).waiting = c.waiting := by
  unfold tickClocks
  split
  · rfl
  · split_ifs <;> rfl
  · rfl

theorem tickClocks_index (st : Stage) (c : StageContext) (s : State) : (tickClocks st c s).index = c.index := by
  unfold tickClocks
  split
  · rfl
  · split_ifs <;> rfl
  · rfl

/-! ### The tick (R183, R184) -/

/-- Stage `st` of the slot `i` is in progress, with the context `c`, in a running C40 whose events are served. -/
def inStage (i : SlotId) (c : StageContext) (st : Stage) (s : State) : Prop :=
  s.run = .running ∧ eventsServed s ∧ s.re.running = some i ∧ s.re.context = some c ∧
    (s.re.slot i).program[c.index]? = some st

/-- How the stage stands after the tick of its clocks: clocks do not move the recipe state. -/
theorem judgeStage_ticked (h : inStage i c st s) :
    judgeStage st (tickClocks st c s) { s with re.context := some (tickClocks st c s) } =
      judgeStage st (tickClocks st c s) s := by
  obtain ⟨-, -, hr, hc, -⟩ := h
  have hstate : recipeState { s with re.context := some (tickClocks st c s) } = recipeState s := by
    simp only [recipeState, hr, hc, tickClocks_waiting]
    rfl
  unfold judgeStage
  rw [hstate]
  rfl

/-- What the tick's judgement brings where the clocks have moved (R184). -/
def afterJudgement (e : StageEnd) (s : State) : State :=
  match e with
  | .goesOn => s
  | .met => endStage s
  | .coreTimeout => endStage (raise .coreTimeout s)

theorem exec_stageTick (h : inStage i c st s) :
    exec .stageTick s = .next (serviceEvents
      (afterJudgement (judgeStage st (tickClocks st c s) s) { s with re.context := some (tickClocks st c s) })) := by
  obtain ⟨hrun, -, hr, hc, hst⟩ := id h
  have hcurrent : currentStage s = some st := by simp [currentStage, hr, hc, hst]
  refine exec_next rfl hrun (congrArg serviceEvents ?_)
  simp only [stageTick, hcurrent, hc, judgeStage_ticked h]
  cases judgeStage st (tickClocks st c s) s <;> rfl

theorem exec_stageTick_goesOn (h : inStage i c st s) (hc : tickClocks st c s = c') (hj : judgeStage st c' s = .goesOn) :
    exec .stageTick s = .next { s with re.context := some c' } := by
  subst hc
  rw [exec_stageTick h, hj]
  obtain ⟨-, hserved, -⟩ := h
  exact congrArg Host.Outcome.next (serviceEvents_of_served hserved)

/-- The stage ends, with the events `ev` pending. -/
theorem stageEnds_served {ev : EventSet} (h : inStage i c st s) (hindex : c'.index = c.index) :
    stageEnds (.next (serviceEvents (endStage { s with re.context := some c', od.events := ev }))) i c
      { s with od.events := ev } := by
  obtain ⟨-, -, hr, -⟩ := h
  have hend : endStage { s with re.context := some c', od.events := ev } =
      reach 64 (c.index + 1) { s with re.context := some c', od.events := ev } := by
    rw [← hindex]
    exact endStage_of_context rfl
  rw [hend, serviceEvents_frame]
  exact stageEnds_of_reach ⟨rfl, rfl, rfl, rfl, rfl, rfl⟩ rfl hr (by simp) (serviceEvents_events _)

theorem exec_stageTick_met (h : inStage i c st s) (hc : tickClocks st c s = c') (hj : judgeStage st c' s = .met) :
    stageEnds (exec .stageTick s) i c { s with od.events := s.od.events } := by
  subst hc
  rw [exec_stageTick h, hj]
  exact stageEnds_served h (tickClocks_index st c s)

theorem exec_stageTick_coreTimeout (h : inStage i c st s) (hc : tickClocks st c s = c')
    (hj : judgeStage st c' s = .coreTimeout) :
    stageEnds (exec .stageTick s) i c { s with od.events := s.od.events ||| Event.coreTimeout.mask } := by
  subst hc
  rw [exec_stageTick h, hj]
  exact stageEnds_served h (tickClocks_index st c s)

/-! ### The end conditions (R184) -/

theorem judgeStage_time (h : recipeState s = .running) :
    judgeStage (.heating r (.time n) limit p) c s = if c.stageClock = n then .met else .goesOn := by
  simp [judgeStage, h]

theorem judgeStage_timeAtTemp (h : recipeState s = .running) :
    judgeStage (.heating r (.timeAtTemp n) limit p) c s = if c.atTempClock = n then .met else .goesOn := by
  simp [judgeStage, h]

theorem judgeStage_core {v : Nat} (h : recipeState s = .running) :
    judgeStage (.heating r (.core v) limit p) c s =
      if s.mu.probe.value.atLeast v then .met else if limit = some c.stageClock then .coreTimeout else .goesOn := by
  simp [judgeStage, judgeCore, h]

theorem probe_atLeast_iff {v : Int} :
    s.mu.probe.value.atLeast v = true ↔ ∃ x, s.mu.probe.value = .value x ∧ v ≤ x := by
  cases hv : s.mu.probe.value <;> simp [Reading.atLeast]

theorem judgeStage_still (h : recipeState s = .pausedDoor ∨ recipeState s = .held) : judgeStage st c s = .goesOn := by
  have hcases : judgeStage st c s = .goesOn ∨ recipeState s = .running ∨ recipeState s = .waitPrompt := by
    unfold judgeStage
    split <;> simp_all
  rcases h with h | h <;> simpa [h] using hcases

/-- A stage that waits ends at its limit only. -/
theorem judgeStage_waits {code : Nat} (h : recipeState s = .waitPrompt)
    (hst : st = .heating r .confirm limit p ∨ st = .prompt limit code) :
    st.limit = limit ∧ judgeStage st c s = if limit = some c.stageClock then .met else .goesOn := by
  rcases hst with rfl | rfl <;> simp [judgeStage, h, Stage.limit]

end

/-- Settles O31: by recipe state and condition, the clocks that the tick moves and what they are then judged to. -/
theorem stageTickCountsAndJudges : Obligations.StageTickCountsAndJudges := by
  intro i c st s hrun hserved hr hc hst
  have h : inStage i c st s := ⟨hrun, hserved, hr, hc, hst⟩
  intro clock atTemp inBandOf ran ended
  have hin {r : Request} (hb : inBandOf r) : inBand s r = true := inBand_iff.2 hb
  have hout {r : Request} (hb : ¬ inBandOf r) : ¬ inBand s r = true := fun hr => hb (inBand_iff.1 hr)
  refine ⟨fun hstill => ?_, ?_, ?_, ?_, ?_⟩
  · rw [exec_stageTick_goesOn h (tickClocks_still hstill) (judgeStage_still hstill), ← hc]
  · rintro r n limit p hstate rfl
    have hclocks : (tickClocks (.heating r (.time n) limit p) c s).stageClock = clock := by
      simp [tickClocks, hstate, bump, clock]
    refine ⟨fun hn => exec_stageTick_met h rfl ?_, fun hn hb => ?_, fun hn hb => ?_⟩
    · rw [judgeStage_time hstate, hclocks, if_pos hn]
    · exact exec_stageTick_goesOn h (tickClocks_inBand hstate (hin hb)) ((judgeStage_time hstate).trans (if_neg hn))
    · exact exec_stageTick_goesOn h (tickClocks_outOfBand hstate (hout hb)) ((judgeStage_time hstate).trans (if_neg hn))
  · rintro r n limit p hstate rfl
    refine ⟨fun hb hn => ?_, fun hb hn => ?_, fun hb hn => ?_, fun hb hn => ?_⟩
    · exact exec_stageTick_met h (tickClocks_inBand hstate (hin hb)) ((judgeStage_timeAtTemp hstate).trans (if_pos hn))
    · exact exec_stageTick_met h (tickClocks_outOfBand hstate (hout hb)) ((judgeStage_timeAtTemp hstate).trans (if_pos hn))
    · exact exec_stageTick_goesOn h (tickClocks_inBand hstate (hin hb)) ((judgeStage_timeAtTemp hstate).trans (if_neg hn))
    · exact exec_stageTick_goesOn h (tickClocks_outOfBand hstate (hout hb))
        ((judgeStage_timeAtTemp hstate).trans (if_neg hn))
  · rintro r v limit p hstate rfl
    intro reached
    have hclocks : (tickClocks (.heating r (.core v) limit p) c s).stageClock = clock := by
      simp [tickClocks, hstate, bump, clock]
    have hnot (hv : ¬ reached) : ¬ s.mu.probe.value.atLeast v = true := fun hp => hv (probe_atLeast_iff.1 hp)
    have hgoes (x : StageContext) (hx : x.stageClock = clock) (hv : ¬ reached) (hl : limit ≠ some clock) :
        judgeStage (.heating r (.core v) limit p) x s = .goesOn := by
      rw [judgeStage_core hstate, if_neg (hnot hv), hx, if_neg hl]
    refine ⟨fun hv => exec_stageTick_met h rfl ?_, fun hv hl => exec_stageTick_coreTimeout h rfl ?_, fun hv hl hb => ?_,
      fun hv hl hb => ?_⟩
    · rw [judgeStage_core hstate, if_pos (probe_atLeast_iff.2 hv)]
    · rw [judgeStage_core hstate, if_neg (hnot hv), hclocks, if_pos hl]
    · exact exec_stageTick_goesOn h (tickClocks_inBand hstate (hin hb)) (hgoes _ rfl hv hl)
    · exact exec_stageTick_goesOn h (tickClocks_outOfBand hstate (hout hb)) (hgoes _ rfl hv hl)
  · rintro r limit p code hstate hwaits
    obtain ⟨hlimit, -⟩ := judgeStage_waits (c := c) hstate hwaits
    have hjudge (x : StageContext) := (judgeStage_waits (c := x) hstate hwaits).2
    have hclock := tickClocks_waits (st := st) (c := c) hstate
    rw [hlimit] at hclock
    refine ⟨?_, ?_, ?_⟩
    · rintro rfl
      exact exec_stageTick_goesOn h (hclock.trans (if_neg (by simp))) ((hjudge _).trans (if_neg (by simp)))
    · rintro n rfl hholds
      have hstill : tickClocks st c s = c := hclock.trans (if_neg (by simp [hholds]))
      refine ⟨fun hn => exec_stageTick_met h hstill ?_, fun hn => exec_stageTick_goesOn h hstill ?_⟩
      · exact (hjudge _).trans (if_pos (congrArg some hn.symm))
      · exact (hjudge _).trans (if_neg fun hs => hn (Option.some.inj hs).symm)
    · rintro n rfl hholds
      have hcounts : tickClocks st c s = { c with stageClock := clock } := hclock.trans (if_pos ⟨rfl, hholds⟩)
      refine ⟨fun hn => exec_stageTick_met h hcounts ?_, fun hn => exec_stageTick_goesOn h hcounts ?_⟩
      · exact (hjudge _).trans (if_pos (congrArg some hn.symm))
      · exact (hjudge _).trans (if_neg fun hs => hn (Option.some.inj hs).symm)

end Sys2Proof.Machine.Cooking
end

section
/-! The boiler's moves as equations, under either user (R118, R119, R121 to R133). -/

namespace Sys2Proof.Machine.Water

open Sharing Cooking

section
variable {s t : State} {st : BoilerState}

/-! ### A change of state -/

@[simp] theorem becomeBoiler_sgc (st : BoilerState) (s : State) : (becomeBoiler st s).sgc = { s.sgc with state := st } := by
  obtain ⟨_, _, _, heq⟩ := withinBoiler_becomeBoiler st s
  rw [heq]

/-- Entries other than those to WAIT_WATER and STEAM raise nothing and move no hold reason (R127, R187). -/
theorem becomeBoiler_silent (hwait : st ≠ .waitWater) (hsteam : st ≠ .steam) (s : State) :
    (becomeBoiler st s).od = s.od ∧ (becomeBoiler st s).re = s.re := by
  have hheld (u : State) : holdWater st u = u := by
    cases st <;> simp_all [holdWater]
  simp [becomeBoiler, hwait, hheld]

/-- Under the user DESCALE the boiler writes no heater demand (R119). -/
theorem becomeBoiler_heater (st : BoilerState) (h : s.sgc.user = .descale) :
    (becomeBoiler st s).lpd.loads.steamHeater = s.lpd.loads.steamHeater := by
  have hheater (u : State) (hu : u.sgc.user = .descale) : writeHeater u = u := by simp [writeHeater, hu]
  unfold becomeBoiler
  dsimp only
  split
  · rw [hheater _ (by simpa using h)]
    simp
  · rw [hheater _ (by simpa using h)]
    simp

@[simp] theorem enterWaitWater_sgc (marked : Bool) (s : State) :
    (enterWaitWater marked s).sgc =
      { s.sgc with
        state := .waitWater, pulseTimer := none, limitMark := marked
        wait := if marked = false ∧ tankReady s = true then some 0 else none } := by simp [enterWaitWater]

@[simp] theorem enterSteam_sgc (s : State) : (enterSteam s).sgc = { s.sgc with state := .steam, pulseTimer := none } := by
  simp [enterSteam]

@[simp] theorem enterDrain_sgc (s : State) :
    (enterDrain s).sgc =
      { s.sgc with
        state := .drain, pulseTimer := none, wait := none, limitMark := false, drainCount := 0, coolTime := 0 } := by
  simp [enterDrain, stopFill]

/-! ### Fills (R118, R123, R124, R126) -/

theorem judgePump_goesOn (hmay : pumpMay s = true) (htimer : s.sgc.pulseTimer ≠ none) : judgePump s = s := by
  simp [judgePump, hmay, htimer]

theorem judgePump_pulses (hmay : pumpMay s = true) (htimer : s.sgc.pulseTimer = none) : judgePump s = givePulse s := by
  simp [judgePump, hmay, htimer]

/-- A fill that the tank and the level allow begins with its first pulse (R118, R123, R126). -/
theorem startFill_ready (hst : st = .fill ∨ st = .refill) (hready : tankReady s = true) (hfull : boilerFull s = false) :
    startFill st s = pulsed (becomeBoiler st { s with sgc.pulses := 0, sgc.pulseTimer := none }) := by
  have hready' : tankReady (becomeBoiler st { s with sgc.pulses := 0, sgc.pulseTimer := none }) = true := by
    simpa [tankReady] using hready
  have hfull' : boilerFull (becomeBoiler st { s with sgc.pulses := 0, sgc.pulseTimer := none }) = false := by
    simpa [boilerFull, lowWet, highWet] using hfull
  have hmay : pumpMay (becomeBoiler st { s with sgc.pulses := 0, sgc.pulseTimer := none }) = true := by
    simpa [pumpMay, hready', hfull'] using hst
  have hstarted : startFill st s = judgePump (becomeBoiler st { s with sgc.pulses := 0, sgc.pulseTimer := none }) := if_pos hready
  rw [hstarted, judgePump_pulses hmay (by simp), givePulse_below (by simp)]

theorem startFill_unready (hready : tankReady s = false) (st : BoilerState) :
    startFill st s = enterWaitWater false { s with sgc.pulses := 0, sgc.pulseTimer := none } := by
  simp [startFill, hready]

/-- HEAT entered by a wet boiler that does not go on to STEAM (R124). -/
theorem enterHeat_stays (hwet : lowWet s = true) (hboils : ¬ (s.sgc.user = .climate ∧ (boilerValue s).atLeast 980 = true)) :
    enterHeat s = becomeBoiler .heat { s with sgc.pulseTimer := none } := by
  simp only [enterHeat, hwet, if_true, if_neg hboils]

/-- HEAT entered by a wet boiler at 98.0 °C for the climate: STEAM follows (R124). -/
theorem enterHeat_boils (hwet : lowWet s = true) (hboils : s.sgc.user = .climate ∧ (boilerValue s).atLeast 980 = true) :
    enterHeat s = enterSteam (becomeBoiler .heat { s with sgc.pulseTimer := none }) := by
  simp only [enterHeat, hwet, if_true, if_pos hboils]

theorem lowWet_of_boilerFull (h : boilerFull s = true) : lowWet s = true := by
  simp only [boilerFull, Bool.and_eq_true] at h
  exact h.1

theorem boilerFull_of_dry (h : lowWet s = false) : boilerFull s = false := by simp [boilerFull, h]

/-- The boiler as FILL is entered: what COOL, DRAIN and WAIT_WATER counted is discarded (R123, R130, R132). -/
def fillBegun (s : State) : State :=
  { s with sgc.wait := none, sgc.limitMark := false, sgc.drainCount := 0, sgc.coolTime := 0 }

theorem enterFill_full (h : boilerFull s = true) : enterFill s = enterHeat { fillBegun s with sgc.pulses := 0 } := by
  simp only [enterFill, fillBegun, h, if_true]

theorem enterFill_low (h : boilerFull s = false) : enterFill s = startFill .fill (fillBegun s) := by
  simp [enterFill, fillBegun, h]

/-! ### The publication by state (R123 to R129, R136) -/

section
variable {first : Bool} (hcool : (boilerValue s).above 1600 = false)
include hcool

theorem boilerPublication_off (h : s.sgc.state = .off) :
    boilerPublication first s = if first = true ∧ lowWet s = true then enterCool s else s := by
  simp [boilerPublication, hcool, h]

/-- FILL and REFILL go on alike; once full, each has its own next state (R123, R126). -/
theorem boilerPublication_filling (h : s.sgc.state = .fill ∨ s.sgc.state = .refill) (hfull : boilerFull s = false) :
    boilerPublication first s = if tankReady s then judgePump (writeHeater s) else enterWaitWater false s := by
  rcases h with h | h <;> simp [boilerPublication, hcool, h, hfull]

theorem boilerPublication_fill_full (h : s.sgc.state = .fill) (hfull : boilerFull s = true) :
    boilerPublication first s = enterHeat s := by simp [boilerPublication, hcool, h, hfull]

theorem boilerPublication_refill_full (h : s.sgc.state = .refill) (hfull : boilerFull s = true) :
    boilerPublication first s = enterSteam s := by simp [boilerPublication, hcool, h, hfull]

theorem boilerPublication_heat (h : s.sgc.state = .heat) :
    boilerPublication first s =
      if lowWet s then
        if s.sgc.user = .climate ∧ (boilerValue s).atLeast 980 = true then enterSteam s else writeHeater s
      else enterFill s := by simp [boilerPublication, hcool, h]

theorem boilerPublication_steam (h : s.sgc.state = .steam) :
    boilerPublication first s =
      if lowWet s then if (boilerValue s).isValue then writeHeater s else enterHeat s else startFill .refill s := by
  simp [boilerPublication, hcool, h]

theorem boilerPublication_waitWater (h : s.sgc.state = .waitWater) :
    boilerPublication first s = judgeWait (writeHeater s) := by simp [boilerPublication, hcool, h]

theorem boilerPublication_cool (h : s.sgc.state = .cool) : boilerPublication first s = judgeCool (writeHeater s) := by
  simp [boilerPublication, hcool, h]

theorem boilerPublication_draining (h : s.sgc.state = .drain ∨ s.sgc.state = .dryFault) :
    boilerPublication first s = writeHeater s := by
  rcases h with h | h <;> simp [boilerPublication, hcool, h]

end

end

end Sys2Proof.Machine.Water
end

section
/-! A round that adds no trip: what the protection unit leaves of it, and what follows the blocks (R83, R201). -/

namespace Sys2Proof.Machine.Water

open Sharing Cooking

section
variable {s t : State} {x : Samples} {k : Trip}

/-! ### The protection unit adds nothing (R198 to R201) -/

theorem addIf_member {p : Bool} (h : p = true → s.pu.trips.has k = true) : addIf p k s = s := by
  cases p with
  | true => exact addTrip_member (h rfl)
  | false => rfl

theorem tripPublication_quiet (hcavity : cavityHot s = true → s.pu.trips.cavityOvertemp = true)
    (hboiler : (boilerValue s).above 1600 = true → s.pu.trips.boilerDry = true)
    (hsensor : sensorCondition s = true → s.pu.trips.sensor = true) : tripPublication s = s := by
  rw [tripPublication_eq, addIf_member (s := s) hcavity, addIf_member (s := s) hboiler, addIf_member (s := s) hsensor]

/-- Outside the protection unit nothing has moved. -/
def withinProtection (s t : State) : Prop := ∃ p, t = { s with pu := p }

theorem withinProtection.trans {u : State} (h : withinProtection s t) (k : withinProtection t u) : withinProtection s u := by
  obtain ⟨_, rfl⟩ := h
  obtain ⟨_, rfl⟩ := k
  exact ⟨_, rfl⟩

theorem withinProtection_lockRead (first : Bool) (s : State) : withinProtection s (lockRead first s) := by
  unfold lockRead endTravel
  split
  · exact ⟨_, rfl⟩
  · split <;> exact ⟨_, rfl⟩

theorem withinProtection_release (s : State) : withinProtection s (requestLock .release s) := by
  unfold requestLock takeLockCommand
  split
  case h_2 hc _ | h_3 hc _ | h_4 hc _ => cases hc
  all_goals exact ⟨_, rfl⟩

theorem withinProtection_releaseIdleLock (s : State) : withinProtection s (releaseIdleLock s) := by
  unfold releaseIdleLock
  split
  · exact withinProtection_release s
  · exact ⟨_, rfl⟩

/-- The lock at a publication that adds no LOCK trip. -/
theorem withinProtection_lockPublication {first : Bool}
    (h : lockContradicted (lockRead first s) = true → s.pu.trips.lock = true) :
    withinProtection s (lockPublication first s) := by
  have hread := withinProtection_lockRead first s
  obtain ⟨-, -, htrips, -⟩ := lockRead_frame first s
  have hfault (hlock : s.pu.trips.lock = true) : withinProtection s (lockFault (lockRead first s)) := by
    have hmember : ({ lockRead first s with pu.lock := .fault } : State).pu.trips.has .lock = true :=
      (congrArg TripSet.lock htrips).trans hlock
    rw [lockFault, addTrip_member hmember]
    exact hread.trans ⟨_, rfl⟩
  have hjudged : withinProtection s
      (if lockContradicted (lockRead first s) then lockFault (lockRead first s) else lockRead first s) := by
    split
    next hc => exact hfault (h hc)
    next => exact hread
  change withinProtection s (if first then releaseIdleLock _ else _)
  split
  · exact hjudged.trans (withinProtection_releaseIdleLock _)
  · exact hjudged

/-- A round that adds no trip leaves the protection unit's part of it to the lock alone. -/
theorem judged_quiet (h : (samplingRound x s).pu.trips = s.pu.trips) :
    judged x s = lockPublication (firstPublished s.mu.lockFb (sampleAll s.mu x).lockFb) (sampled x s) ∧
      (lockContradicted (lockRead (firstPublished s.mu.lockFb (sampleAll s.mu x).lockFb) (sampled x s)) = true →
        s.pu.trips.lock = true) ∧
      withinProtection (sampled x s) (judged x s) := by
  have htrips := ((judged_trips x s).symm.trans (samplingRound_trips x s).symm).trans h
  have hcavity := congrArg TripSet.cavityOvertemp htrips
  have hboiler := congrArg TripSet.boilerDry htrips
  have hsensor := congrArg TripSet.sensor htrips
  have hlock := congrArg TripSet.lock htrips
  simp only [Bool.or_eq_left_iff_imp] at hcavity hboiler hsensor hlock
  obtain ⟨p, hp⟩ := withinProtection_lockPublication (s := sampled x s) hlock
  have hkept : p.trips = s.pu.trips := by
    have hset := lockPublication_trips (firstPublished s.mu.lockFb (sampleAll s.mu x).lockFb) (sampled x s)
    rw [hp] at hset
    have hmember : (s.pu.trips.lock ||
        lockContradicted (lockRead (firstPublished s.mu.lockFb (sampleAll s.mu x).lockFb) (sampled x s))) = s.pu.trips.lock :=
      Bool.or_eq_left_iff_imp.2 hlock
    exact hset.trans (congrArg (fun l => { s.pu.trips with lock := l }) hmember)
  have hjudged : judged x s = lockPublication (firstPublished s.mu.lockFb (sampleAll s.mu x).lockFb) (sampled x s) := by
    rw [judged, hp]
    refine tripPublication_quiet (fun hc => ?_) (fun hc => ?_) fun hc => ?_
    · exact (congrArg TripSet.cavityOvertemp hkept).trans (hcavity hc)
    · exact (congrArg TripSet.boilerDry hkept).trans (hboiler hc)
    · exact (congrArg TripSet.sensor hkept).trans (hsensor hc)
  exact ⟨hjudged, hlock, p, hjudged.trans hp⟩

/-! ### After the blocks (R21, R56, R109, R188) -/

/-- What the boiler and the scale unit read and write, the same in both states. -/
def sameWater (s t : State) : Prop :=
  t.sgc = s.sgc ∧ t.sdu = s.sdu ∧ t.pu = s.pu ∧ t.mu = s.mu ∧ t.lpd.loads.steamHeater = s.lpd.loads.steamHeater ∧
    t.od.events = s.od.events ∧ t.re.holds.water = s.re.holds.water ∧ t.cr.request = s.cr.request ∧ t.cr.owner = s.cr.owner

theorem sameWater.trans {u : State} (h : sameWater s t) (k : sameWater t u) : sameWater s u := by
  obtain ⟨h1, h2, h3, h4, h5, h6, h7, h8, h9⟩ := h
  obtain ⟨k1, k2, k3, k4, k5, k6, k7, k8, k9⟩ := k
  exact ⟨k1.trans h1, k2.trans h2, k3.trans h3, k4.trans h4, k5.trans h5, k6.trans h6, k7.trans h7, k8.trans h8, k9.trans h9⟩

theorem sameWater_serviceEvents (s : State) : sameWater s (serviceEvents s) := by simp [sameWater]

theorem sameWater_refreshFan (s : State) : sameWater s (refreshFan s) := by simp [sameWater]

theorem sameWater_probePublication (s : State) : sameWater s (probePublication s) := by
  unfold probePublication
  split
  · split <;> simp [sameWater]
  · simp [sameWater]

theorem sameWater_of_supply (h : withinSupply s t) : sameWater s t := by
  obtain ⟨_, _, _, rfl⟩ := h
  exact ⟨rfl, rfl, rfl, rfl, rfl, rfl, rfl, rfl, rfl⟩

/-- Wind-down ends with the boiler OFF, which STANDBY leaves there (R21, R129). -/
theorem sameWater_enterStandby (h : s.sgc.state = .off) : sameWater s (enterStandby s) := by
  have hcool (u : State) (hu : u.sgc.state = .off) : judgeCool u = u := by simp [judgeCool, hu]
  have hsupply : sameWater s (offerNotice 0 (recordAllowance (leaveStarved
      { abandonRaise { s with od.power := .standby } with
        ssu := { (abandonRaise { s with od.power := .standby }).ssu with claim := 0, announced := 0 } }))) :=
    .trans (by simp [sameWater])
      (sameWater_of_supply (((withinSupply_leaveStarved _).trans (withinSupply_recordAllowance _)).trans
        (withinSupply_offerNotice 0 _)))
  unfold enterStandby powerChanged
  dsimp only
  rw [hcool _ (by simpa using h)]
  exact hsupply.trans (sameWater_refreshFan _)

theorem sameWater_conclude (s : State) : sameWater s (conclude s) := by
  refine .trans ?_ (sameWater_serviceEvents _)
  unfold endWindDown
  split
  next hover =>
    simp only [windDownOver, Bool.and_eq_true, beq_iff_eq] at hover
    obtain ⟨⟨-, hoff⟩, -⟩ := hover
    exact sameWater_enterStandby hoff
  next => simp [sameWater]

/-- What a round leaves of the boiler and the scale unit is what they leave of it. -/
theorem sameWater_samplingRound (x : Samples) (s : State) :
    sameWater (sduPublication (boiled x s)) (samplingRound x s) := by
  rw [samplingRound_eq]
  exact ((sameWater_probePublication _).trans (sameWater_refreshFan _)).trans (sameWater_conclude _)

/-- The scale unit has nothing to do at a publication while no descale runs. -/
theorem sduPublication_idle (h : s.sdu.phase = .idle) : sduPublication s = s := by
  have hfollow := sduFollow_rest (sduNext_idle h)
  have hjudge : judgeHeating s = s := by simp [judgeHeating, h]
  rw [sduPublication, hfollow, hjudge, hfollow]

end

end Sys2Proof.Machine.Water
end

section
/-! The boiler at a publication while it serves the climate (R117 to R129, R134, R136, R187): BoilerFollowsPublication. -/

namespace Sys2Proof.Machine.Water

open Sharing Cooking Sampling

section
variable {s t u : State} {st b : BoilerState} {first : Bool}

/-! ### The published set (R117) -/

theorem lowWet_iff (s : State) : lowWet s = true ↔ s.mu.levelLow.published = some true := by simp [lowWet]

theorem boilerFull_iff (s : State) :
    boilerFull s = true ↔ s.mu.levelLow.published = some true ∧ s.mu.levelHigh.published = some true := by
  simp [boilerFull, lowWet, highWet]

theorem tankReady_iff (s : State) : tankReady s = true ↔ s.mu.tank = .present := by simp [tankReady]

theorem atLeast_iff (r : Reading) (v : Int) : r.atLeast v = true ↔ ∃ x, r = .value x ∧ v ≤ x := by
  cases r <;> simp [Reading.atLeast]

theorem below_iff (r : Reading) (v : Int) : r.below v = true ↔ ∃ x, r = .value x ∧ x < v := by
  cases r <;> simp [Reading.below]

theorem isValue_iff (r : Reading) : r.isValue = true ↔ ∃ x, r = .value x := by cases r <;> simp [Reading.isValue]

theorem above_eq_false {r : Reading} {v : Int} (h : ∀ x, r = .value x → x ≤ v) : r.above v = false := by
  rw [Bool.eq_false_iff, ne_eq, above_iff]
  rintro ⟨x, hx, hlt⟩
  exact absurd (h x hx) (by omega)

/-! ### What the boiler's state tells (R121, R127, R187) -/

/-- From `s` to `t`, TANK_EMPTY and the WATER hold have followed the boiler's state. -/
def told (s t : State) : Prop :=
  (t.od.events.has .tankEmpty = true ↔
    s.od.events.has .tankEmpty = true ∨ (s.sgc.state ≠ .waitWater ∧ t.sgc.state = .waitWater)) ∧
  ∀ g, currentStage s = some g → t.re.holds.water =
    if t.sgc.state = s.sgc.state then s.re.holds.water
    else if t.sgc.state = .steam then false
    else if t.sgc.state = .waitWater ∧ g.steams = true then true else s.re.holds.water

/-- What the state tells has been told, and the heater demand is the state's. -/
def followed (s t : State) : Prop := told s t ∧ t.lpd.loads.steamHeater.demand = heaterDemand t

/-- The boiler serves the climate, and nothing has been told yet. -/
def untold (s u : State) : Prop := u.sgc.user = .climate ∧ u.od = s.od ∧ u.re = s.re

theorem told_of_same (hod : t.od = s.od) (hre : t.re = s.re) (hstate : t.sgc.state = s.sgc.state) : told s t := by
  refine ⟨?_, fun g _ => ?_⟩
  · rw [hod, hstate]
    tauto
  · rw [hre, if_pos hstate]

theorem becomeBoiler_events (st : BoilerState) (h : u.sgc.user = .climate) :
    (becomeBoiler st u).od.events = if st = .waitWater then u.od.events ||| Event.tankEmpty.mask else u.od.events := by
  unfold becomeBoiler
  dsimp only
  split <;> simp [waitWaterEvent, h]

theorem becomeBoiler_water {g : Stage} (st : BoilerState) (hg : currentStage u = some g) :
    (becomeBoiler st u).re.holds.water =
      if st = .steam then false else if st = .waitWater ∧ g.steams = true then true else u.re.holds.water := by
  have hheld (v : State) (hre : v.re = u.re) : (holdWater st v).re.holds.water =
      if st = .steam then false else if st = .waitWater ∧ g.steams = true then true else u.re.holds.water := by
    have hv : currentStage v = some g := by rw [currentStage, hre]; exact hg
    cases st with
    | waitWater =>
      simp only [holdWater, hv]
      split <;> simp_all
    | _ => simp [holdWater, hre]
  unfold becomeBoiler
  dsimp only
  have hheater (v : State) : (writeHeater v).re = v.re := by simp
  rw [hheater]
  exact hheld _ (by split <;> simp)

/-- A change of the boiler's state tells all that follows it. -/
theorem followed_becomeBoiler (h : untold s u) (hst : st ≠ s.sgc.state) : followed s (becomeBoiler st u) := by
  obtain ⟨huser, hod, hre⟩ := h
  refine ⟨⟨?_, fun g hg => ?_⟩, ?_⟩
  · rw [becomeBoiler_events st huser, hod, becomeBoiler_state]
    by_cases hwait : st = .waitWater
    · subst hwait
      simp [hst.symm]
    · simp [hwait]
  · have hg' : currentStage u = some g := by rw [currentStage, hre]; exact hg
    rw [becomeBoiler_water st hg', hre, becomeBoiler_state, if_neg hst]
  · have hheater (v : State) (hv : v.sgc.user = .climate) :
        (writeHeater v).lpd.loads.steamHeater.demand = heaterDemand (writeHeater v) := by
      rw [writeHeater_demand v hv]
      simp [heaterDemand, baseDemand, boilerValue, lowWet]
    refine hheater _ ?_
    split <;> simpa using huser

/-- A demand written in the state as it was. -/
theorem followed_writeHeater (h : untold s u) (hst : u.sgc.state = s.sgc.state) : followed s (writeHeater u) := by
  obtain ⟨huser, hod, hre⟩ := h
  refine ⟨told_of_same (by simpa using hod) (by simpa using hre) (by simpa using hst), ?_⟩
  rw [writeHeater_demand u huser]
  simp [heaterDemand, baseDemand, boilerValue, lowWet]

theorem untold_refl (huser : s.sgc.user = .climate) : untold s s := ⟨huser, rfl, rfl⟩

theorem untold_writeHeater (h : untold s u) : untold s (writeHeater u) := by
  obtain ⟨huser, hod, hre⟩ := h
  exact ⟨by simpa using huser, by simpa using hod, by simpa using hre⟩

theorem untold_becomeBoiler (hwait : st ≠ .waitWater) (hsteam : st ≠ .steam) (h : untold s u) :
    untold s (becomeBoiler st u) := by
  obtain ⟨huser, hod, hre⟩ := h
  obtain ⟨hod', hre'⟩ := becomeBoiler_silent hwait hsteam u
  exact ⟨by simpa using huser, hod'.trans hod, hre'.trans hre⟩

theorem followed_enterWaitWater (marked : Bool) (h : untold s u) (hst : s.sgc.state ≠ .waitWater) :
    followed s (enterWaitWater marked u) := followed_becomeBoiler h hst.symm

theorem followed_enterSteam (h : untold s u) (hst : s.sgc.state ≠ .steam) : followed s (enterSteam u) :=
  followed_becomeBoiler h hst.symm

theorem followed_enterHeat (hwet : lowWet u = true) (h : untold s u) (hheat : s.sgc.state ≠ .heat)
    (hsteam : (boilerValue u).atLeast 980 = true → s.sgc.state ≠ .steam) : followed s (enterHeat u) := by
  by_cases hboils : (boilerValue u).atLeast 980 = true
  · rw [enterHeat_boils hwet ⟨h.1, hboils⟩]
    exact followed_enterSteam (untold_becomeBoiler (by decide) (by decide) h) (hsteam hboils)
  · rw [enterHeat_stays hwet (fun hb => hboils hb.2)]
    exact followed_becomeBoiler h hheat.symm

theorem followed_startFill (hst : st = .fill ∨ st = .refill) (hlow : boilerFull u = false) (h : untold s u)
    (hne : st ≠ s.sgc.state) (hwait : s.sgc.state ≠ .waitWater) : followed s (startFill st u) := by
  cases hready : tankReady u with
  | true =>
    rw [startFill_ready hst hready hlow]
    exact followed_becomeBoiler (u := { u with sgc.pulses := 0, sgc.pulseTimer := none }) h hne
  | false =>
    rw [startFill_unready hready]
    exact followed_enterWaitWater false h hwait

theorem followed_pulsed (hu : followed s u) : followed s (pulsed u) := by
  obtain ⟨htold, hdemand⟩ := hu
  exact ⟨htold, hdemand⟩

/-- A fill that goes on: no pulse, a further one, or the last (R118, R123, R126). -/
theorem followed_judgePump (h : untold s u) (hu : followed s u) (hwait : s.sgc.state ≠ .waitWater) :
    followed s (judgePump u) := by
  by_cases hmay : pumpMay u = true
  · by_cases htimer : u.sgc.pulseTimer = none
    · rw [judgePump_pulses hmay htimer]
      by_cases hlimit : u.sgc.pulses < 299
      · rw [givePulse_below hlimit]
        exact followed_pulsed hu
      · rw [givePulse_limit (by omega)]
        exact followed_enterWaitWater (u := pulsed u) true h hwait
    · rw [judgePump_goesOn hmay htimer]
      exact hu
  · have hidle : judgePump u = { u with sgc.pulseTimer := none } := if_neg hmay
    obtain ⟨htold, hdemand⟩ := hu
    rw [hidle]
    exact ⟨htold, hdemand⟩

theorem followed_filling (huser : s.sgc.user = .climate) (hwait : s.sgc.state ≠ .waitWater) :
    followed s (if tankReady s then judgePump (writeHeater s) else enterWaitWater false s) := by
  have h := untold_refl huser
  split
  · exact followed_judgePump (untold_writeHeater h) (followed_writeHeater h rfl) hwait
  · exact followed_enterWaitWater false h hwait

theorem followed_judgeWait (h : followed s u) : followed s (judgeWait u) := by
  unfold judgeWait
  split
  · split
    · exact h
    · exact h
  · exact h

theorem followed_judgeCool (h : untold s u) (hu : followed s u) (hst : s.sgc.state ≠ .drain) : followed s (judgeCool u) := by
  unfold judgeCool
  split
  · exact followed_becomeBoiler h hst.symm
  · exact hu

/-- A publication tells what the boiler's state tells, and writes its demand but in OFF, where nothing moves. -/
theorem followed_boilerPublication (hcool : (boilerValue s).above 1600 = false) (huser : s.sgc.user = .climate)
    (hoff : s.sgc.state ≠ .off) : followed s (boilerPublication first s) := by
  have h := untold_refl huser
  have hheater := followed_writeHeater h rfl
  cases hs : s.sgc.state with
  | off => exact absurd hs hoff
  | fill =>
    cases hfull : boilerFull s with
    | true =>
      rw [boilerPublication_fill_full hcool hs hfull]
      exact followed_enterHeat (lowWet_of_boilerFull hfull) h (by simp [hs]) (by simp [hs])
    | false =>
      rw [boilerPublication_filling hcool (.inl hs) hfull]
      exact followed_filling huser (by simp [hs])
  | heat =>
    rw [boilerPublication_heat hcool hs]
    split
    · split
      · exact followed_enterSteam h (by simp [hs])
      · exact hheater
    next hdry =>
      have hlow := boilerFull_of_dry (by simpa using hdry)
      rw [enterFill_low hlow]
      exact followed_startFill (u := fillBegun s) (.inl rfl) hlow h (by simp [hs]) (by simp [hs])
  | steam =>
    rw [boilerPublication_steam hcool hs]
    split
    next hwet =>
      split
      · exact hheater
      next hinvalid =>
        refine followed_enterHeat hwet h (by simp [hs]) fun hboils => absurd ?_ hinvalid
        obtain ⟨v, hv, -⟩ := (atLeast_iff _ _).1 hboils
        exact (isValue_iff _).2 ⟨v, hv⟩
    next hdry => exact followed_startFill (.inr rfl) (boilerFull_of_dry (by simpa using hdry)) h (by simp [hs]) (by simp [hs])
  | refill =>
    cases hfull : boilerFull s with
    | true =>
      rw [boilerPublication_refill_full hcool hs hfull]
      exact followed_enterSteam h (by simp [hs])
    | false =>
      rw [boilerPublication_filling hcool (.inr hs) hfull]
      exact followed_filling huser (by simp [hs])
  | waitWater =>
    rw [boilerPublication_waitWater hcool hs]
    exact followed_judgeWait hheater
  | cool =>
    rw [boilerPublication_cool hcool hs]
    exact followed_judgeCool (untold_writeHeater h) hheater (by simp [hs])
  | drain =>
    rw [boilerPublication_draining hcool (.inl hs)]
    exact hheater
  | dryFault =>
    rw [boilerPublication_draining hcool (.inr hs)]
    exact hheater

/-! ### OFF -/

/-- A boiler found with water at the first publication of its low electrode cools (R136). -/
theorem boilerPublication_found (hcool : (boilerValue s).above 1600 = false) (huser : s.sgc.user = .climate)
    (hs : s.sgc.state = .off) (hfirst : first = true) (hwet : lowWet s = true) :
    told s (boilerPublication first s) ∧ (boilerPublication first s).sgc.state = .cool ∧
      (boilerPublication first s).sgc.coolTime = 0 ∧ (boilerPublication first s).sdu.writing ≠ none := by
  obtain ⟨hstate, htime, -, -, -, hwriting, -⟩ := enterCool_leaves huser
  have hcooled : followed s (becomeBoiler .cool { discardFill s with sgc.coolTime := 0 }) :=
    followed_becomeBoiler ⟨huser, rfl, rfl⟩ (by simp [hs])
  rw [boilerPublication_off hcool hs, if_pos ⟨hfirst, hwet⟩]
  refine ⟨?_, hstate, htime, hwriting⟩
  have htold := hcooled.1
  simp only [told] at htold ⊢
  simpa [enterCool] using htold

theorem boilerPublication_rests (hcool : (boilerValue s).above 1600 = false) (hs : s.sgc.state = .off)
    (h : ¬ (first = true ∧ lowWet s = true)) : boilerPublication first s = s := by
  rw [boilerPublication_off hcool hs, if_neg h]

/-! ### The rows of the states' tables (R123 to R129) -/

/-- WAIT_WATER with its mark, and no wait running (R127). -/
def waits (marked : Bool) (t : State) : Prop :=
  t.sgc.state = .waitWater ∧ t.sgc.limitMark = marked ∧ t.sgc.wait = none

/-- A pulse has been given, the `n`th of its fill, and metered (R118, R134). -/
def pulsedTo (n : Nat) (s t : State) : Prop :=
  t.sgc.pulses = n ∧ t.sgc.pulseTimer = some 0 ∧ t.sgc.pumpDrive = some 0 ∧
    t.sdu.meteringSum = s.sdu.meteringSum + 2 * s.sdu.hardness

/-- A fill begins, by the tank (R123, R126). -/
def fills (b : BoilerState) (s t : State) : Prop :=
  (s.mu.tank = .present → t.sgc.state = b ∧ pulsedTo 1 s t) ∧ (¬ s.mu.tank = .present → waits false t ∧ t.sgc.pulses = 0)

/-- A fill goes on, by the tank, the pulse in progress and the fill limit (R118, R123, R126). -/
def fillsOn (b : BoilerState) (s t : State) : Prop :=
  (¬ s.mu.tank = .present → waits false t ∧ t.sgc.pulses = s.sgc.pulses) ∧
    (s.mu.tank = .present → s.sgc.pulseTimer ≠ none →
      t.sgc.state = b ∧ t.sgc.pulses = s.sgc.pulses ∧ t.sdu.meteringSum = s.sdu.meteringSum) ∧
    (s.mu.tank = .present → s.sgc.pulseTimer = none → s.sgc.pulses < 299 →
      t.sgc.state = b ∧ pulsedTo (s.sgc.pulses + 1) s t) ∧
    (s.mu.tank = .present → s.sgc.pulseTimer = none → 299 ≤ s.sgc.pulses →
      waits true t ∧ t.sgc.pulses = s.sgc.pulses + 1)

theorem startFill_fills (hst : st = .fill ∨ st = .refill) (huser : s.sgc.user = .climate) (hlow : boilerFull s = false) :
    fills st s (startFill st s) := by
  refine ⟨fun htank => ?_, fun htank => ?_⟩
  · rw [startFill_ready hst ((tankReady_iff s).2 htank) hlow]
    simp [pulsed, pulsedTo, huser]
  · have hready : tankReady s = false := by simpa [tankReady] using htank
    rw [startFill_unready hready]
    simp [waits, tankReady, htank]

theorem filling_fillsOn (hst : s.sgc.state = .fill ∨ s.sgc.state = .refill) (huser : s.sgc.user = .climate)
    (hlow : boilerFull s = false) :
    fillsOn s.sgc.state s (if tankReady s then judgePump (writeHeater s) else enterWaitWater false s) := by
  have hmay (htank : s.mu.tank = .present) : pumpMay (writeHeater s) = true := by
    have hfull : boilerFull (writeHeater s) = false := by simpa [boilerFull, lowWet, highWet] using hlow
    simpa [pumpMay, tankReady, htank, hfull] using hst
  refine ⟨fun htank => ?_, fun htank htimer => ?_, fun htank htimer hlimit => ?_, fun htank htimer hlimit => ?_⟩
  · rw [if_neg (by simpa [tankReady] using htank)]
    simp [waits, tankReady, htank]
  · rw [if_pos ((tankReady_iff s).2 htank), judgePump_goesOn (hmay htank) (by simpa using htimer)]
    simp
  · rw [if_pos ((tankReady_iff s).2 htank), judgePump_pulses (hmay htank) (by simpa using htimer),
      givePulse_below (by simpa using hlimit)]
    simp [pulsed, pulsedTo, huser]
  · rw [if_pos ((tankReady_iff s).2 htank), judgePump_pulses (hmay htank) (by simpa using htimer),
      givePulse_limit (by simpa using hlimit)]
    simp [pulsed, waits]

theorem enterHeat_sgc (hwet : lowWet s = true) (hboils : ¬ (s.sgc.user = .climate ∧ (boilerValue s).atLeast 980 = true)) :
    (enterHeat s).sgc = { s.sgc with state := .heat, pulseTimer := none } := by
  rw [enterHeat_stays hwet hboils, becomeBoiler_sgc]

theorem enterHeat_steams (hwet : lowWet s = true) (hboils : s.sgc.user = .climate ∧ (boilerValue s).atLeast 980 = true) :
    (enterHeat s).sgc.state = .steam := by
  rw [enterHeat_boils hwet hboils, enterSteam_sgc]

theorem judgeWait_sgc (s : State) :
    (judgeWait s).sgc =
      if s.mu.tank = .present then
        if s.sgc.limitMark = false ∧ s.sgc.wait = none then { s.sgc with wait := some 0 } else s.sgc
      else { s.sgc with wait := none, limitMark := false } := by
  simp only [judgeWait, tankReady_iff]
  split_ifs <;> rfl

/-- COOL leaves for DRAIN (R129). -/
def leavesCool (s : State) : Prop :=
  s.od.power ≠ .standby ∧ ((∃ v, s.mu.boiler.value = .value v ∧ v < 700) ∨ 1800000 ≤ s.sgc.coolTime)

theorem judgeCool_leaves (hs : s.sgc.state = .cool) (huser : s.sgc.user = .climate) (h : leavesCool s) :
    judgeCool s = enterDrain s := if_pos ⟨hs, huser, h.1, h.2.imp_left (below_iff _ _).2⟩

theorem judgeCool_stays (h : ¬ leavesCool s) : judgeCool s = s :=
  if_neg fun ⟨_, _, hpower, hleaves⟩ => h ⟨hpower, hleaves.imp_left (below_iff _ _).1⟩

/-! ### The rows, each state by its own conditions (R117) -/

section
variable (hcool : (boilerValue s).above 1600 = false) (huser : s.sgc.user = .climate)
include hcool huser

theorem publication_fill (hs : s.sgc.state = .fill) :
    (s.mu.levelLow.published = some true ∧ s.mu.levelHigh.published = some true →
      (∃ v, s.mu.boiler.value = .value v ∧ 980 ≤ v) → (boilerPublication first s).sgc.state = .steam) ∧
    (s.mu.levelLow.published = some true ∧ s.mu.levelHigh.published = some true →
      (¬ ∃ v, s.mu.boiler.value = .value v ∧ 980 ≤ v) →
      (boilerPublication first s).sgc.state = .heat ∧ (boilerPublication first s).sgc.pulses = s.sgc.pulses) ∧
    (¬ (s.mu.levelLow.published = some true ∧ s.mu.levelHigh.published = some true) →
      fillsOn .fill s (boilerPublication first s)) := by
  rw [← boilerFull_iff, ← atLeast_iff]
  refine ⟨fun hfull hboils => ?_, fun hfull hboils => ?_, fun hlow => ?_⟩
  · rw [boilerPublication_fill_full hcool hs hfull]
    exact enterHeat_steams (lowWet_of_boilerFull hfull) ⟨huser, hboils⟩
  · rw [boilerPublication_fill_full hcool hs hfull, enterHeat_sgc (lowWet_of_boilerFull hfull) (fun h => hboils h.2)]
    exact ⟨rfl, rfl⟩
  · have hfills := filling_fillsOn (.inl hs) huser (by simpa using hlow)
    rwa [hs, ← boilerPublication_filling (first := first) hcool (.inl hs) (by simpa using hlow)] at hfills

theorem publication_heat (hs : s.sgc.state = .heat) :
    (s.mu.levelLow.published = some true → (∃ v, s.mu.boiler.value = .value v ∧ 980 ≤ v) →
      (boilerPublication first s).sgc.state = .steam) ∧
    (s.mu.levelLow.published = some true → (¬ ∃ v, s.mu.boiler.value = .value v ∧ 980 ≤ v) →
      (boilerPublication first s).sgc.state = .heat) ∧
    (¬ s.mu.levelLow.published = some true → fills .fill s (boilerPublication first s)) := by
  rw [← lowWet_iff, ← atLeast_iff, boilerPublication_heat hcool hs]
  refine ⟨fun hwet hboils => ?_, fun hwet hboils => ?_, fun hdry => ?_⟩
  · rw [if_pos hwet, if_pos ⟨huser, hboils⟩, enterSteam_sgc]
  · rw [if_pos hwet, if_neg (fun h => hboils h.2)]
    simpa using hs
  · have hlow := boilerFull_of_dry (by simpa using hdry)
    rw [if_neg hdry, enterFill_low hlow]
    exact startFill_fills (s := fillBegun s) (.inl rfl) huser hlow

theorem publication_steam (hs : s.sgc.state = .steam) :
    (s.mu.levelLow.published = some true → (∃ v, s.mu.boiler.value = .value v) →
      (boilerPublication first s).sgc.state = .steam) ∧
    (s.mu.levelLow.published = some true → (¬ ∃ v, s.mu.boiler.value = .value v) →
      (boilerPublication first s).sgc.state = .heat) ∧
    (¬ s.mu.levelLow.published = some true → fills .refill s (boilerPublication first s)) := by
  rw [← lowWet_iff, ← isValue_iff, boilerPublication_steam hcool hs, boilerValue]
  refine ⟨fun hwet hvalid => ?_, fun hwet hinvalid => ?_, fun hdry => ?_⟩
  · rw [if_pos hwet, if_pos hvalid]
    simpa using hs
  · have hboils : ¬ (s.sgc.user = .climate ∧ (boilerValue s).atLeast 980 = true) := by
      rintro ⟨-, hboils⟩
      obtain ⟨v, hv, -⟩ := (atLeast_iff _ _).1 hboils
      exact hinvalid ((isValue_iff _).2 ⟨v, hv⟩)
    rw [if_pos hwet, if_neg hinvalid, enterHeat_sgc hwet hboils]
  · rw [if_neg hdry]
    exact startFill_fills (.inr rfl) huser (boilerFull_of_dry (by simpa using hdry))

theorem publication_refill (hs : s.sgc.state = .refill) :
    (s.mu.levelLow.published = some true ∧ s.mu.levelHigh.published = some true →
      (boilerPublication first s).sgc.state = .steam ∧ (boilerPublication first s).sgc.pulses = s.sgc.pulses) ∧
    (¬ (s.mu.levelLow.published = some true ∧ s.mu.levelHigh.published = some true) →
      fillsOn .refill s (boilerPublication first s)) := by
  rw [← boilerFull_iff]
  refine ⟨fun hfull => ?_, fun hlow => ?_⟩
  · rw [boilerPublication_refill_full hcool hs hfull, enterSteam_sgc]
    exact ⟨rfl, rfl⟩
  · have hfills := filling_fillsOn (.inr hs) huser (by simpa using hlow)
    rwa [hs, ← boilerPublication_filling (first := first) hcool (.inr hs) (by simpa using hlow)] at hfills

omit huser in
theorem publication_waitWater (hs : s.sgc.state = .waitWater) :
    (boilerPublication first s).sgc.state = .waitWater ∧
      (¬ s.mu.tank = .present →
        (boilerPublication first s).sgc.limitMark = false ∧ (boilerPublication first s).sgc.wait = none) ∧
      (s.mu.tank = .present →
        (boilerPublication first s).sgc.limitMark = s.sgc.limitMark ∧
          (s.sgc.limitMark = true ∨ s.sgc.wait ≠ none → (boilerPublication first s).sgc.wait = s.sgc.wait) ∧
          (s.sgc.limitMark = false → s.sgc.wait = none → (boilerPublication first s).sgc.wait = some 0)) := by
  have hsgc : (writeHeater s).sgc = s.sgc := by simp
  have hmu : (writeHeater s).mu = s.mu := by simp
  rw [boilerPublication_waitWater hcool hs, judgeWait_sgc, hsgc, hmu]
  refine ⟨?_, fun htank => ?_, fun htank => ?_⟩
  · split_ifs <;> exact hs
  · rw [if_neg htank]
    exact ⟨rfl, rfl⟩
  · rw [if_pos htank]
    refine ⟨?_, fun hkept => ?_, fun hmark hwait => ?_⟩
    · split_ifs <;> rfl
    · rw [if_neg]
      rintro ⟨hmark, hwait⟩
      simp [hmark, hwait] at hkept
    · rw [if_pos ⟨hmark, hwait⟩]

theorem publication_cool (hs : s.sgc.state = .cool) :
    (leavesCool s → (boilerPublication first s).sgc.state = .drain ∧ (boilerPublication first s).sgc.drainCount = 0) ∧
      (¬ leavesCool s → (boilerPublication first s).sgc = s.sgc) := by
  have hleaves : leavesCool (writeHeater s) ↔ leavesCool s := by simp [leavesCool]
  rw [boilerPublication_cool hcool hs]
  refine ⟨fun h => ?_, fun h => ?_⟩
  · rw [judgeCool_leaves (by simpa using hs) (by simpa using huser) (hleaves.2 h), enterDrain_sgc]
    exact ⟨rfl, rfl⟩
  · rw [judgeCool_stays (mt hleaves.1 h)]
    simp

end

/-- The heater demand, with the boiler value's validity written out (R121). -/
theorem heaterDemand_eq (s : State) :
    heaterDemand s = match s.mu.boiler.value with
      | .value _ => if s.sgc.derate then min (baseDemand s) 600 else baseDemand s
      | _ => 0 := by
  unfold heaterDemand boilerValue
  cases s.mu.boiler.value <;> rfl

theorem baseDemand_eq (s : State) :
    baseDemand s = match s.sgc.state with
      | .fill => if s.mu.levelLow.published = some true then 1000 else 0
      | .heat => 1000
      | .steam => s.sgc.steamDemand
      | .refill => if s.mu.levelLow.published = some true then s.sgc.steamDemand else 0
      | _ => 0 := by
  unfold baseDemand
  cases s.sgc.state <;> simp [lowWet]

/-- The events and the WATER hold have followed the boiler, also where it stays OFF. -/
theorem told_boilerPublication (hcool : (boilerValue s).above 1600 = false) (huser : s.sgc.user = .climate) :
    told s (boilerPublication first s) := by
  by_cases hs : s.sgc.state = .off
  · by_cases hfound : first = true ∧ lowWet s = true
    · exact (boilerPublication_found hcool huser hs hfound.1 hfound.2).1
    · rw [boilerPublication_rests hcool hs hfound]
      exact told_of_same rfl rfl rfl
  · exact (followed_boilerPublication hcool huser hs).1

end

/-! ### The obligation -/

/-- Settles O50: the rows of each state's table, then what the state tells. -/
theorem boilerFollowsPublication : Obligations.BoilerFollowsPublication := by
  intro x s t hrun hx huser hphase htrips hvalue
  obtain rfl : samplingRound x s = t := Host.Outcome.next.inj ((exec_next rfl hrun rfl).symm.trans hx)
  obtain ⟨-, -, p, hp⟩ := judged_quiet htrips
  have hsame := sameWater_samplingRound x s
  rw [sduPublication_idle (by simpa [boiled, hp, sampled] using hphase), boiled, hp] at hsame
  have hfirst := firstPublished_iff s.mu.levelLow (sampleAll s.mu x).levelLow
  rw [samplingRound_mu] at hvalue
  obtain ⟨u, hu⟩ : ∃ u : State, u = { sampled x s with pu := p } := ⟨_, rfl⟩
  have hsgcu : u.sgc = s.sgc := by rw [hu]; rfl
  have hsduu : u.sdu = s.sdu := by rw [hu]; rfl
  have hodu : u.od = s.od := by rw [hu]; rfl
  have hreu : u.re = s.re := by rw [hu]; rfl
  have hcru : u.cr = s.cr := by rw [hu]; rfl
  have hmuu : sampleAll s.mu x = u.mu := by rw [hu]; rfl
  have hstage : currentStage s = currentStage u := by rw [hu]; rfl
  rw [hmuu] at hvalue hfirst hsame
  rw [← hu] at hsame
  rw [← hsgcu] at huser
  rw [← hsduu] at hphase
  have hcool := above_eq_false hvalue
  generalize firstPublished s.mu.levelLow u.mu.levelLow = first at hsame hfirst
  obtain ⟨hsgc, hsdu, -, hmu, hheater, hevents, hwater, hrequest, howner⟩ := hsame
  have hmuv : (boilerPublication first u).mu = u.mu := by simp
  obtain ⟨hevent, hhold⟩ := told_boilerPublication (first := first) hcool huser
  dsimp only
  rw [hsgc, hsdu, hmu, hheater, hevents, hwater, hrequest, howner, hmuv, ← hsgcu, ← hsduu, ← hodu, ← hreu, ← hcru, hstage]
  refine ⟨fun hs => ⟨fun hnone hwet => ?_, fun hno => ?_⟩, publication_fill hcool huser, publication_heat hcool huser,
    publication_steam hcool huser, publication_refill hcool huser, publication_waitWater hcool, publication_cool hcool huser,
    fun hs => ?_, fun hs => ?_, hevent, hhold, ?_, ?_, ?_, ?_, ?_, ?_, ?_⟩
  · exact (boilerPublication_found hcool huser hs (hfirst.2 ⟨hnone, by simp [hwet]⟩) ((lowWet_iff u).2 hwet)).2
  · rw [boilerPublication_rests hcool hs]
    rintro ⟨hf, hwet⟩
    exact hno.elim (fun h => h (hfirst.1 hf).1) (fun h => h ((lowWet_iff u).1 hwet))
  · rw [boilerPublication_draining hcool hs]
    simp
  · have hdemand := (followed_boilerPublication (first := first) hcool huser hs).2
    have hderate : (boilerPublication first u).sgc.derate = u.sgc.derate := by simp
    have hkept : (boilerPublication first u).sgc.steamDemand = u.sgc.steamDemand := by simp
    rw [heaterDemand_eq, baseDemand_eq, hderate, hkept, hmuv] at hdemand
    exact hdemand
  · simpa using huser
  all_goals simp [hphase]

end Sys2Proof.Machine.Water
end

section
/-! The descale's moves as equations: what each phase does next, and the drains and fills it asks for (R119, R132, R133,
R144 to R153). -/

namespace Sys2Proof.Machine.Water

open Sharing Cooking

section
variable {s t u : State} {p : Phase} {n : Nat}

/-! ### The heater demand of a phase (R139, R144) -/

theorem enterPhase_sdu (p : Phase) (s : State) : (enterPhase p s).sdu = { s.sdu with phase := p } := by simp [enterPhase]

/-- The demand written for a phase, but while the descale is frozen (R139, R144). -/
theorem writePhaseDemand_demand (huser : s.sgc.user = .descale) (hlock : s.pu.trips.lock = false) :
    (writePhaseDemand s).lpd.loads.steamHeater.demand =
      if s.sgc.derate then min (phaseDemand s) 600 else phaseDemand s := by
  simp [writePhaseDemand, sduHeat, huser, frozen, hlock, writeDemand, Loads.set]

/-- A phase without heating is entered with demand 0, also while the descale is frozen (R144). -/
theorem enterPhase_unheated (huser : s.sgc.user = .descale) (hp : phaseDemand { s with sdu.phase := p } = 0) :
    (enterPhase p s).lpd.loads.steamHeater.demand = 0 := by
  simp [enterPhase, writePhaseDemand, sduHeat, huser, hp, writeDemand, Loads.set]

/-! ### A DRAIN request (R133) -/

theorem requestDrain_drains (h : s.sgc.state ∈ [.off, .fill, .heat, .waitWater, .cool]) : requestDrain s = enterDrain s := by
  simp only [List.mem_cons, List.not_mem_nil, or_false] at h
  rcases h with h | h | h | h | h <;> simp [requestDrain, h]

theorem requestDrain_waits (h : s.sgc.state ∉ [.off, .fill, .heat, .waitWater, .cool]) : requestDrain s = s := by
  unfold requestDrain
  split <;> simp_all

theorem drainTakes_iff (s : State) : drainTakes s = true ↔ s.sgc.state ∈ [.off, .fill, .heat, .waitWater, .cool] := by
  simp [drainTakes, or_assoc]

/-- Outside the boiler a DRAIN request of the descale moves nothing (R119, R133). -/
theorem requestDrain_frame (huser : s.sgc.user = .descale) : requestDrain s = { s with sgc := (requestDrain s).sgc } := by
  by_cases h : s.sgc.state ∈ [.off, .fill, .heat, .waitWater, .cool]
  · rw [requestDrain_drains h]
    simp [enterDrain, becomeBoiler, holdWater, writeHeater, stopFill, huser]
  · rw [requestDrain_waits h]

theorem requestDrain_state (h : s.sgc.state ∈ [.off, .fill, .heat, .waitWater, .cool]) :
    (requestDrain s).sgc.state = .drain ∧ (requestDrain s).sgc.drainCount = 0 := by
  rw [requestDrain_drains h, enterDrain_sgc]
  exact ⟨rfl, rfl⟩

/-! ### What a phase does next (R146 to R152) -/

theorem followFor_rest (h : sduNext s = none) : followFor n s = s := by
  cases n <;> simp [followFor, h]

theorem sduFollow_step (h : sduNext s = some t) : sduFollow s = followFor 7 t := followFor_step h

/-- The phase or step ends with a drain that has not ended (R146, R151). -/
def awaitsDrain (s : State) : Prop :=
  s.sdu.drained = false ∧
    (s.sdu.phase = .prepDrain ∨ s.sdu.phase = .drainAgent ∨ (s.sdu.phase = .rinse ∧ s.sdu.rinseStep = .drain))

/-- The phase or step heats a boiler it has filled (R149 to R151). -/
def heatsBoiler (s : State) : Prop :=
  s.sdu.phase = .soakHeat ∨ (s.sdu.phase = .soak ∧ s.sdu.soakCount < 1200) ∨
    (s.sdu.phase = .rinse ∧ s.sdu.rinseStep = .heat)

/-- The descale waits for the user, or does not run. -/
def waitsForUser (s : State) : Prop := s.sdu.phase ∈ [.idle, .awaitAgent, .awaitRinse]

theorem sduNext_waits (h : waitsForUser s) : sduNext s = none := by
  simp only [waitsForUser, List.mem_cons, List.not_mem_nil, or_false] at h
  rcases h with h | h | h <;> simp [sduNext, h]

section
variable (hlock : s.pu.trips.lock = false)
include hlock

theorem sduNext_awaitsDrain (h : awaitsDrain s) : sduNext s = awaitDrain s := by
  obtain ⟨hdrained, h | h | ⟨h, hstep⟩⟩ := h
  · simp [sduNext, frozen, hlock, h, hdrained]
  · simp [sduNext, frozen, hlock, h, hdrained]
  · simp [sduNext, frozen, hlock, h, hstep, hdrained]

theorem sduNext_heats (h : heatsBoiler s) : sduNext s = if s.sgc.state = .off then some (requestFill s) else none := by
  obtain h | ⟨h, hcount⟩ | ⟨h, hstep⟩ := h
  · simp [sduNext, frozen, hlock, h]
  · simp [sduNext, frozen, hlock, h, hcount]
  · simp [sduNext, frozen, hlock, h, hstep]

theorem sduNext_soaked (h : s.sdu.phase = .soak) (hcount : 1200 ≤ s.sdu.soakCount) :
    sduNext s = if s.sgc.state = .dryFault then none else some (enterDrainAgent s) := by
  simp [sduNext, frozen, hlock, h, hcount, boilerDried]

theorem sduNext_soakFill (h : s.sdu.phase = .soakFill) :
    sduNext s =
      if s.sgc.state = .heat then some (enterPhase .soakHeat s)
      else if fillTakes s then some (requestFill s) else none := by
  simp [sduNext, frozen, hlock, h]

theorem sduNext_rinseFill (h : s.sdu.phase = .rinse) (hstep : s.sdu.rinseStep = .fill) :
    sduNext s =
      if s.sgc.state = .heat then some (enterRinseHeat s) else if fillTakes s then some (requestFill s) else none := by
  simp [sduNext, frozen, hlock, h, hstep]

theorem sduNext_locking (h : s.sdu.phase = .locking) :
    sduNext s = if s.pu.lock = .locked then some (afterLocking s) else none := by
  simp [sduNext, frozen, hlock, h]

theorem sduNext_unlocking (h : s.sdu.phase = .unlocking) :
    sduNext s = if s.pu.lock = .unlocked then some (enterDone s) else none := by
  simp [sduNext, frozen, hlock, h]

/-! ### Where the phases come to rest -/

theorem sduNext_requestDrain (h : awaitsDrain s) : sduNext (requestDrain s) = none := by
  have hwaits : awaitsDrain (requestDrain s) := by simpa [awaitsDrain] using h
  rw [sduNext_awaitsDrain (by simpa using hlock) hwaits, awaitDrain, if_neg]
  rw [drainTakes_iff]
  by_cases hstate : s.sgc.state ∈ [.off, .fill, .heat, .waitWater, .cool]
  · simp [requestDrain_state hstate]
  · rwa [requestDrain_waits hstate]

/-- A phase that needs a drain asks for it and waits (R133, R146, R151). -/
theorem followFor_drain (h : awaitsDrain s) : followFor (n + 1) s = requestDrain s := by
  have hnext := sduNext_awaitsDrain hlock h
  have hrests := sduNext_requestDrain hlock h
  by_cases hstate : s.sgc.state ∈ [.off, .fill, .heat, .waitWater, .cool]
  · rw [awaitDrain, if_pos ((drainTakes_iff s).2 hstate)] at hnext
    rw [followFor_step hnext, followFor_rest hrests]
  · rw [requestDrain_waits hstate] at hrests ⊢
    exact followFor_rest hrests

/-- A soak that is complete leads to the agent's drain (R150). -/
theorem sduFollow_soaked (h : s.sdu.phase = .soak) (hcount : 1200 ≤ s.sdu.soakCount) (hdry : s.sgc.state ≠ .dryFault) :
    sduFollow s = requestDrain (enterDrainAgent s) := by
  have hnext := sduNext_soaked hlock h hcount
  rw [if_neg hdry] at hnext
  rw [sduFollow_step hnext]
  exact followFor_drain (by simpa [enterDrainAgent] using hlock) (by simp [awaitsDrain, enterDrainAgent])

/-- A rinse's heating that ends leads to the cycle's drain (R151). -/
theorem sduFollow_enterRinseDrain : sduFollow (enterRinseDrain s) = requestDrain (enterRinseDrain s) :=
  followFor_drain (by simpa [enterRinseDrain] using hlock) (by simp [awaitsDrain, enterRinseDrain])

end

end

end Sys2Proof.Machine.Water
end

section
/-! The ends of a soak, of a rinse's heating and of a lock travel (R133, R150, R151, R197 to R200): SoakRinseAndTravelEnd. -/

namespace Sys2Proof.Machine.Water

open Sharing Cooking

section
variable {s u : State}

/-- Nothing has moved but the boiler, which drains, the STEAM_HEATER demand, which is 0, the scale unit and what an EVENTS report
moves (R36, R133). -/
def drainsFor (s t : State) : Prop :=
  t.lpd.loads.steamHeater.demand = 0 ∧
    (s.sgc.state ∈ [.off, .fill, .heat, .waitWater, .cool] → t.sgc.state = .drain ∧ t.sgc.drainCount = 0) ∧
    t.pu = s.pu ∧ t.mu = s.mu ∧ t.cr = s.cr ∧ t.re = s.re ∧ t.ssu = s.ssu ∧ t.od.power = s.od.power

/-- The end of a phase or step that heats, in the drain that follows it (R150, R151). -/
theorem drainsFor_enterPhase {p : Phase} {d : Scale} (huser : s.sgc.user = .descale)
    (hp : phaseDemand { s with sdu := { d with phase := p } } = 0) :
    drainsFor s (serviceEvents (requestDrain (enterPhase p { s with sdu := d }))) := by
  have hframe := requestDrain_frame (s := enterPhase p { s with sdu := d }) (by simpa using huser)
  refine ⟨?_, fun hstate => ?_, ?_⟩
  · have hunheated := enterPhase_unheated (s := { s with sdu := d }) huser hp
    rw [serviceEvents_frame, hframe]
    exact hunheated
  · have hdrains := requestDrain_state (s := enterPhase p { s with sdu := d }) (by simpa using hstate)
    rw [serviceEvents_frame]
    exact hdrains
  · rw [serviceEvents_frame, hframe]
    simp

/-! ### A soak and a rinse's heating (R150, R151) -/

theorem soaking_iff (s : State) : soaking s = true ↔ s.sdu.phase = .soak ∧ s.pu.trips.lock = false := by
  simp [soaking, frozen]

theorem rinseHeating_iff (s : State) :
    rinseHeating s = true ↔
      s.sdu.phase = .rinse ∧ s.sdu.rinseStep = .heat ∧ s.sgc.state = .heat ∧ s.pu.trips.lock = false := by
  simp [rinseHeating, frozen, and_assoc]

theorem soakCompletes_drains (hphase : s.sdu.phase = .soak) (hlock : s.pu.trips.lock = false) (hdry : s.sgc.state ≠ .dryFault) :
    soakCompletes s =
      serviceEvents (requestDrain (enterPhase .drainAgent { s with sdu := { s.sdu with soakCount := 1200, drained := false } })) := by
  have hfollow := sduFollow_soaked (s := { s with sdu.soakCount := 1200 }) hlock hphase (le_refl _) hdry
  rw [soakCompletes, if_pos ((soaking_iff s).2 ⟨hphase, hlock⟩), hfollow]
  rfl

/-- A complete soak waits for a boiler in DRY_FAULT (R153). -/
theorem soakCompletes_waits (hphase : s.sdu.phase = .soak) (hlock : s.pu.trips.lock = false) (hdry : s.sgc.state = .dryFault)
    (hserved : eventsServed s) : soakCompletes s = { s with sdu.soakCount := 1200 } := by
  have hnext := sduNext_soaked (s := { s with sdu.soakCount := 1200 }) hlock hphase (le_refl _)
  rw [if_pos hdry] at hnext
  rw [soakCompletes, if_pos ((soaking_iff s).2 ⟨hphase, hlock⟩), sduFollow_rest hnext]
  exact serviceEvents_of_served (s := { s with sdu.soakCount := 1200 }) hserved

theorem heatLimit_drains (h : rinseHeating s = true) :
    heatLimit s =
      serviceEvents (requestDrain (enterPhase .rinse
        { s with sdu := { s.sdu with heatingTime := 600, rinseStep := .drain, drained := false } })) := by
  obtain ⟨-, -, -, hlock⟩ := (rinseHeating_iff s).1 h
  have hfollow := sduFollow_enterRinseDrain (s := { s with sdu.heatingTime := 600 }) hlock
  rw [heatLimit, if_pos h, endRinseHeat, hfollow]
  rfl

/-! ### A lock travel (R198 to R200) -/

theorem lockTravelling_iff (s : State) : lockTravelling s = true ↔ s.pu.lock = .locking ∨ s.pu.lock = .unlocking := by
  simp [lockTravelling]

theorem lockFault_pu (s : State) : (lockFault s).pu = { s.pu with lock := .fault, trips.lock := true } :=
  addTrip_pu .lock { s with pu.lock := .fault }

/-- A lock fault that adds LOCK is told: TRIP is pending, and a descale's heater is off (R153, R200). -/
theorem lockFault_told (h : s.pu.trips.lock = false) :
    (lockFault s).od.events.has .trip = true ∧
      (s.sgc.user = .descale → (lockFault s).lpd.loads.steamHeater.demand = 0) := by
  have hadded : lockFault s = tellAdded .lock
      (raise .trip { s with pu := { s.pu with lock := .fault, trips := s.pu.trips.put .lock true } }) :=
    addTrip_new (s := { s with pu.lock := .fault }) h
  rw [hadded]
  refine ⟨(calm_tellAdded (.refl _)).events (by simp), fun huser => ?_⟩
  simp [tellAdded, huser, writeDemand, Loads.set]

theorem lockFault_frame (s : State) :
    (lockFault s).sdu = s.sdu ∧ (lockFault s).mu = s.mu ∧ (lockFault s).config = s.config ∧
      (lockFault s).cr.request = s.cr.request ∧ (lockFault s).cr.owner = s.cr.owner := by
  simp

theorem outputs_lock (h : s.pu.lock = .fault) : (outputs s).lockEngage = false ∧ (outputs s).lockRelease = false := by
  unfold outputs
  split <;> simp [h]

end

/-! ### The obligation -/

/-- Settles O53: a soak and a rinse's heating end in the drain their phase asks for, a travel in a lock fault. -/
theorem soakRinseAndTravelEnd : Obligations.SoakRinseAndTravelEnd := by
  intro s hrun
  refine ⟨fun hno => exec_next rfl hrun (if_neg ?_), fun hphase hlock hdry hserved => ?_,
    fun hphase hlock huser hdry => ?_, fun hno => exec_next rfl hrun (if_neg ?_),
    fun hphase hstep hstate hlock huser => ?_, fun hno => exec_next rfl hrun (if_neg ?_), fun htravels htime => ?_⟩
  · rw [soaking_iff]
    simpa [imp_iff_not_or] using hno
  · exact exec_next rfl hrun (soakCompletes_waits hphase hlock hdry hserved)
  · obtain ⟨hdemand, hdrain, hpu, hmu, hcr, hre, hssu, hpower⟩ :=
      drainsFor_enterPhase (p := .drainAgent) (d := { s.sdu with soakCount := 1200, drained := false }) huser rfl
    exact ⟨_, exec_next rfl hrun (soakCompletes_drains hphase hlock hdry), by simp, by simp, hdemand, hdrain, by simp, by simp,
      hpu, hmu, hcr, hre, hssu, hpower⟩
  · rw [rinseHeating_iff]
    simpa [imp_iff_not_or] using hno
  · have hheats := (rinseHeating_iff s).2 ⟨hphase, hstep, hstate, hlock⟩
    obtain ⟨hdemand, hdrain, hpu, hmu, hcr, hre, hssu, hpower⟩ :=
      drainsFor_enterPhase (p := .rinse) (d := { s.sdu with heatingTime := 600, rinseStep := .drain, drained := false }) huser rfl
    obtain ⟨hdraining, hcount⟩ := hdrain (by simp [hstate])
    exact ⟨_, exec_next rfl hrun (heatLimit_drains hheats), by simp, by simp, by simp, hdraining, hcount, hdemand, by simp,
      by simp, hpu, hmu, hcr, hre, hssu, hpower⟩
  · rw [lockTravelling_iff]
    rintro ⟨htravels, htime⟩
    rcases hno with ⟨hin, hout⟩ | hlimit
    · exact htravels.elim hin hout
    · exact hlimit htime
  · obtain ⟨-, hsdu, hpu, hmu, hheater, hevents, -, hrequest, howner⟩ := sameWater_conclude (lockFault s)
    obtain ⟨hsduf, hmuf, hconfig, hrequestf, hownerf⟩ := lockFault_frame s
    rw [lockFault_pu] at hpu
    obtain ⟨hengage, hrelease⟩ := outputs_lock (s := conclude (lockFault s)) (by rw [hpu])
    refine ⟨_, exec_next rfl hrun (if_pos ⟨(lockTravelling_iff s).2 htravels, htime⟩), hpu, hengage, hrelease, fun hnew => ?_,
      hsdu.trans hsduf, hmu.trans hmuf, by simp, hrequest.trans hrequestf, howner.trans hownerf⟩
    rw [hevents, hheater]
    exact lockFault_told hnew

end Sys2Proof.Machine.Water
end

section
/-! The metering tick: the account and its levels, the soak count and a rinse's heating time (R137 to R139, R142, R150, R151):
MeteringTickAdds. -/

namespace Sys2Proof.Machine.Water

open Sharing Cooking

section
variable {s u : State}

/-! ### The account's addition (R137 to R139, R142) -/

/-- The account and its levels after the addition, before a retained write is requested. -/
def accountAdded (s : State) : State :=
  judgeAdvice s.sdu.account (setAccount (meteredAccount s.sdu) { s with sdu.meteringSum := 0 })

theorem addMetered_eq (s : State) :
    addMetered s =
      if s.sdu.account / 2000 = meteredAccount s.sdu / 2000 then accountAdded s else requestWrite (accountAdded s) := by
  have haccount : (accountAdded s).sdu.account = meteredAccount s.sdu := by simp [accountAdded]
  rw [← haccount]
  rfl

theorem accountAdded_sdu (s : State) :
    (accountAdded s).sdu = { s.sdu with account := meteredAccount s.sdu, meteringSum := 0 } := by
  simp [accountAdded, setAccount]

/-- Outside the scale unit, the derate signal, the STEAM_HEATER record and the events nothing has moved. -/
def withinMetering (s t : State) : Prop :=
  ∃ events load derate d,
    t = { s with od.events := events, lpd.loads.steamHeater := load, sgc.derate := derate, sdu := d }

theorem withinMetering.trans {t : State} (h : withinMetering s t) (k : withinMetering t u) : withinMetering s u := by
  obtain ⟨_, _, _, _, rfl⟩ := h
  obtain ⟨_, _, _, _, rfl⟩ := k
  exact ⟨_, _, _, _, rfl⟩

theorem withinMetering.frame {t : State} (h : withinMetering s t) :
    t = { s with
      od := t.od, lpd.loads.steamHeater := t.lpd.loads.steamHeater, sgc.derate := t.sgc.derate, sdu := t.sdu } := by
  obtain ⟨_, _, _, _, rfl⟩ := h
  rfl

theorem withinMetering_writeHeater (s : State) : withinMetering s (writeHeater s) := by
  unfold writeHeater
  split <;> exact ⟨_, _, _, _, rfl⟩

theorem withinMetering_handDerate (d : Bool) (s : State) : withinMetering s (handDerate d s) := by
  unfold handDerate
  dsimp only
  split_ifs
  · exact ⟨_, _, _, _, rfl⟩
  · exact ⟨_, _, _, _, rfl⟩
  · exact ⟨_, _, _, _, rfl⟩
  · exact .trans ⟨_, _, _, _, rfl⟩ (withinMetering_writeHeater _)

theorem withinMetering_requestWrite (s : State) : withinMetering s (requestWrite s) := by
  unfold requestWrite
  split <;> exact ⟨_, _, _, _, rfl⟩

theorem withinMetering_judgeAdvice (a : Nat) (s : State) : withinMetering s (judgeAdvice a s) := by
  unfold judgeAdvice
  split <;> exact ⟨_, _, _, _, rfl⟩

theorem withinMetering_addMetered (s : State) : withinMetering s (addMetered s) := by
  have hset : withinMetering s (setAccount (meteredAccount s.sdu) { s with sdu.meteringSum := 0 }) :=
    .trans ⟨_, _, _, _, rfl⟩ (withinMetering_handDerate _ _)
  have hadded : withinMetering s (accountAdded s) := hset.trans (withinMetering_judgeAdvice _ _)
  rw [addMetered_eq]
  split
  · exact hadded
  · exact hadded.trans (withinMetering_requestWrite _)

/-- The account takes the sum metered, the derate signal follows it, and DESCALE_ADVICE is raised as it reaches its level. -/
theorem addMetered_levels (s : State) :
    (addMetered s).sdu.account = meteredAccount s.sdu ∧ (addMetered s).sdu.meteringSum = 0 ∧
      (addMetered s).sgc.derate = derateOf (meteredAccount s.sdu) ∧
      (addMetered s).od.events =
        if s.sdu.account < 150000 ∧ 150000 ≤ meteredAccount s.sdu then s.od.events ||| Event.descaleAdvice.mask
        else s.od.events := by
  have hadded : (accountAdded s).sgc.derate = derateOf (meteredAccount s.sdu) ∧
      (accountAdded s).od.events =
        if s.sdu.account < 150000 ∧ 150000 ≤ meteredAccount s.sdu then s.od.events ||| Event.descaleAdvice.mask
        else s.od.events := by
    unfold accountAdded judgeAdvice
    split_ifs <;> simp_all
  obtain ⟨hderate, hevents⟩ := hadded
  rw [addMetered_eq]
  split
  · exact ⟨by rw [accountAdded_sdu], by rw [accountAdded_sdu], hderate, hevents⟩
  · exact ⟨by simp [accountAdded_sdu], by simp [accountAdded_sdu], by simp [hderate], by simp [hevents]⟩

theorem heaterDemand_derated (h : s.sgc.derate = true) : heaterDemand s ≤ 600 := by
  simp only [heaterDemand, h, if_true]
  split <;> simp

/-- A demand in range stays so as the derate signal is handed over (R121, R139). -/
theorem handDerate_capped (hheater : s.sgc.derate = true → s.lpd.loads.steamHeater.demand ≤ 600) (d : Bool) :
    (handDerate d s).sgc.derate = true → (handDerate d s).lpd.loads.steamHeater.demand ≤ 600 := by
  intro hon
  rw [handDerate_derate] at hon
  unfold handDerate
  subst hon
  split
  next hsame => exact hheater hsame
  · dsimp only
    split
    · simp [writeDemand, Loads.set]
    next huser =>
      have hclimate : s.sgc.user = .climate := by
        cases hu : s.sgc.user with
        | climate => rfl
        | descale => exact absurd hu huser
      rw [writeHeater_demand { s with sgc.derate := true } hclimate]
      exact heaterDemand_derated rfl

theorem addMetered_heater (s : State) :
    (addMetered s).lpd.loads.steamHeater = (accountAdded s).lpd.loads.steamHeater := by
  rw [addMetered_eq]
  split <;> simp

theorem addMetered_capped (hrange : scaleInRange s) (ha : 200000 ≤ meteredAccount s.sdu) :
    (addMetered s).lpd.loads.steamHeater.demand ≤ 600 := by
  obtain ⟨-, -, hsignal, hheater⟩ := hrange
  have hset : (accountAdded s).lpd.loads.steamHeater =
      (setAccount (meteredAccount s.sdu) { s with sdu.meteringSum := 0 }).lpd.loads.steamHeater := by simp [accountAdded]
  rw [addMetered_heater, hset]
  refine handDerate_capped (s := { s with sdu := { s.sdu with meteringSum := 0, account := meteredAccount s.sdu } })
    (fun hon => hheater (hsignal.1 hon)) _ ?_
  simpa [handDerate_derate, derateOf] using ha

/-! ### The counts (R150, R151) -/

theorem soaks_iff (s : State) :
    (soaking s && inSoakBand s) = true ↔
      s.sdu.phase = .soak ∧ s.pu.trips.lock = false ∧ ∃ v, s.mu.boiler.value = .value v ∧ 600 ≤ v ∧ v ≤ 750 := by
  rw [Bool.and_eq_true, soaking_iff, and_assoc, inSoakBand, boilerValue]
  cases s.mu.boiler.value <;> simp [Reading.atLeast, Reading.above]

theorem soakTick_idle (h : ¬ (soaking s && inSoakBand s) = true) : soakTick s = s := if_neg h

theorem soakTick_counts (h : (soaking s && inSoakBand s) = true) (hcount : s.sdu.soakCount < 1199) :
    soakTick s = { s with sdu.soakCount := s.sdu.soakCount + 1 } := by
  have hmin : min (s.sdu.soakCount + 1) 1200 = s.sdu.soakCount + 1 := by omega
  have hne : ¬ s.sdu.soakCount + 1 = 1200 := by omega
  simp only [soakTick, h, if_true, hmin, if_neg hne]

theorem soakTick_completes (h : (soaking s && inSoakBand s) = true) (hcount : s.sdu.soakCount = 1199) :
    soakTick s = sduFollow { s with sdu.soakCount := 1200 } := by
  simp only [soakTick, h, if_true, hcount]
  rfl

theorem heatingTick_idle (h : ¬ rinseHeating s = true) : heatingTick s = s := if_neg h

theorem heatingTick_counts (h : rinseHeating s = true) (htime : s.sdu.heatingTime < 599) :
    heatingTick s = { s with sdu.heatingTime := s.sdu.heatingTime + 1 } := by
  have hlimit : ¬ 600 ≤ s.sdu.heatingTime + 1 := by omega
  simp only [heatingTick, h, if_true, if_neg hlimit]

theorem heatingTick_ends (h : rinseHeating s = true) (htime : s.sdu.heatingTime = 599) :
    heatingTick s = endRinseHeat { s with sdu.heatingTime := 600 } := by
  simp only [heatingTick, h, if_true, htime]
  rfl

theorem heatingTick_outside (h : s.sdu.phase ≠ .rinse) : heatingTick s = s :=
  heatingTick_idle fun hheats => h ((rinseHeating_iff s).1 hheats).1

theorem soakTick_outside (h : s.sdu.phase ≠ .soak) : soakTick s = s :=
  soakTick_idle fun hsoaks => h ((soaks_iff s).1 hsoaks).1

theorem addMetered_soaks (s : State) :
    (soaking (addMetered s) && inSoakBand (addMetered s)) = (soaking s && inSoakBand s) := by
  simp [soaking, inSoakBand, frozen, boilerValue]

theorem addMetered_heats (s : State) : rinseHeating (addMetered s) = rinseHeating s := by simp [rinseHeating, frozen]

/-! ### The tick, by what it counts (R137, R150, R151) -/

/-- A tick outside the soak and a rinse's heating is the account's alone. -/
theorem meteringTick_rests (hsoak : s.sdu.phase ≠ .soak) (hheat : ¬ (s.sdu.phase = .rinse ∧ s.sdu.rinseStep = .heat)) :
    meteringTick s = addMetered s := by
  rw [meteringTick, soakTick_outside (by simpa using hsoak)]
  refine heatingTick_idle fun h => hheat ?_
  obtain ⟨hphase, hstep, -⟩ := (rinseHeating_iff _).1 h
  exact ⟨by simpa using hphase, by simpa using hstep⟩

theorem meteringTick_soakCounts (h : (soaking s && inSoakBand s) = true) (hcount : s.sdu.soakCount < 1199) :
    meteringTick s = { addMetered s with sdu.soakCount := s.sdu.soakCount + 1 } := by
  obtain ⟨hphase, -⟩ := (soaks_iff s).1 h
  have hcounts := soakTick_counts ((addMetered_soaks s).trans h) (by simpa using hcount)
  rw [meteringTick, hcounts, heatingTick_outside (by simp [hphase])]
  simp

theorem meteringTick_soakHolds (hphase : s.sdu.phase = .soak) (h : ¬ (soaking s && inSoakBand s) = true) :
    meteringTick s = addMetered s := by
  rw [meteringTick, soakTick_idle (by rwa [addMetered_soaks]), heatingTick_outside (by simp [hphase])]

/-- The last second of a soak with the boiler in DRY_FAULT (R153). -/
theorem meteringTick_soakWaits (h : (soaking s && inSoakBand s) = true) (hcount : s.sdu.soakCount = 1199)
    (hdry : s.sgc.state = .dryFault) : meteringTick s = { addMetered s with sdu.soakCount := 1200 } := by
  obtain ⟨hphase, hlock, -⟩ := (soaks_iff s).1 h
  have hcompletes := soakTick_completes ((addMetered_soaks s).trans h) (by simpa using hcount)
  have hnext := sduNext_soaked (s := { addMetered s with sdu.soakCount := 1200 }) (by simpa using hlock) (by simpa using hphase)
    (le_refl _)
  rw [if_pos (by simpa using hdry)] at hnext
  rw [meteringTick, hcompletes, sduFollow_rest hnext, heatingTick_outside (by simp [hphase])]

/-- The last second of a soak: the agent's drain follows (R150). -/
theorem meteringTick_soakEnds (h : (soaking s && inSoakBand s) = true) (hcount : s.sdu.soakCount = 1199)
    (hdry : s.sgc.state ≠ .dryFault) :
    meteringTick s =
      requestDrain (enterPhase .drainAgent
        { addMetered s with sdu := { (addMetered s).sdu with soakCount := 1200, drained := false } }) := by
  obtain ⟨hphase, hlock, -⟩ := (soaks_iff s).1 h
  have hcompletes := soakTick_completes ((addMetered_soaks s).trans h) (by simpa using hcount)
  have hfollow := sduFollow_soaked (s := { addMetered s with sdu.soakCount := 1200 }) (by simpa using hlock)
    (by simpa using hphase) (le_refl _) (by simpa using hdry)
  rw [meteringTick, hcompletes, hfollow, heatingTick_outside (by simp [enterDrainAgent])]
  rfl

theorem meteringTick_heatCounts (h : rinseHeating s = true) (htime : s.sdu.heatingTime < 599) :
    meteringTick s = { addMetered s with sdu.heatingTime := s.sdu.heatingTime + 1 } := by
  obtain ⟨hphase, -⟩ := (rinseHeating_iff s).1 h
  have hcounts := heatingTick_counts ((addMetered_heats s).trans h) (by simpa using htime)
  rw [meteringTick, soakTick_outside (by simp [hphase]), hcounts]
  simp

theorem meteringTick_heatHolds (hphase : s.sdu.phase = .rinse) (h : ¬ rinseHeating s = true) :
    meteringTick s = addMetered s := by
  rw [meteringTick, soakTick_outside (by simp [hphase]), heatingTick_idle (by rwa [addMetered_heats])]

/-- The last second of a rinse's heating: the cycle's drain follows (R151). -/
theorem meteringTick_heatEnds (h : rinseHeating s = true) (htime : s.sdu.heatingTime = 599) :
    meteringTick s =
      requestDrain (enterPhase .rinse
        { addMetered s with
          sdu := { (addMetered s).sdu with heatingTime := 600, rinseStep := .drain, drained := false } }) := by
  obtain ⟨hphase, -, -, hlock⟩ := (rinseHeating_iff s).1 h
  have hends := heatingTick_ends ((addMetered_heats s).trans h) (by simpa using htime)
  have hfollow := sduFollow_enterRinseDrain (s := { addMetered s with sdu.heatingTime := 600 }) (by simpa using hlock)
  rw [meteringTick, soakTick_outside (by simp [hphase]), hends, endRinseHeat, hfollow]
  rfl

theorem drainsFor_of_addMetered {t : State} (h : drainsFor (addMetered s) t) : drainsFor s t := by
  simpa [drainsFor] using h

/-! ### What the addition leaves in the scale unit (R142, R143) -/

/-- The scale unit after a tick that meters only, by the multiples of 2,000 and the write in progress. -/
theorem addMetered_sdu (s : State) :
    (s.sdu.account / 2000 = meteredAccount s.sdu / 2000 →
      (addMetered s).sdu = { s.sdu with account := meteredAccount s.sdu, meteringSum := 0 }) ∧
    (s.sdu.account / 2000 ≠ meteredAccount s.sdu / 2000 → s.sdu.writing = none →
      (addMetered s).sdu = { s.sdu with
        account := meteredAccount s.sdu, meteringSum := 0, rewritePending := false, writeTimer := 0,
        writing := some { account := meteredAccount s.sdu, hardness := s.sdu.hardness, mark := s.sdu.mark.code,
                          sumOk := true } }) ∧
    (s.sdu.account / 2000 ≠ meteredAccount s.sdu / 2000 → s.sdu.writing ≠ none →
      (addMetered s).sdu = { s.sdu with
        account := meteredAccount s.sdu, meteringSum := 0, rewritePending := true }) := by
  have hadded := accountAdded_sdu s
  have hwriting : (accountAdded s).sdu.writing = s.sdu.writing := by rw [hadded]
  rw [addMetered_eq]
  refine ⟨fun hsame => ?_, fun hnew hidle => ?_, fun hnew hbusy => ?_⟩
  · rw [if_pos hsame, hadded]
  · rw [if_neg hnew, requestWrite, if_pos (hwriting.trans hidle)]
    simp [beginWrite, recordOf, hadded]
  · rw [if_neg hnew, requestWrite, if_neg (hwriting ▸ hbusy)]
    simp [hadded]

end

/-! ### The obligation -/

/-- Settles O51: the account's addition first, then the soak's count or the rinse's time, each short of its end or at it. -/
theorem meteringTickAdds : Obligations.MeteringTickAdds := by
  intro s hrun a soaks heats
  have hsoaks := soaks_iff s
  have hheats := rinseHeating_iff s
  obtain ⟨haccount, hsum, hderate, hevents⟩ := addMetered_levels s
  have hexec {u : State} (hu : meteringTick s = u) : exec .meteringTick s = .next (serviceEvents u) :=
    exec_next rfl hrun (congrArg serviceEvents hu)
  have hserved (u : State) : (serviceEvents u).sdu = u.sdu := by simp
  refine ⟨fun hsoak hheat => ?_, fun hphase hshort => ?_, fun hsoak hcount huser => ?_, fun hphase hstep hshort => ?_,
    fun hheat htime huser => ?_⟩
  · obtain ⟨hsame, hbegun, hpending⟩ := addMetered_sdu s
    refine ⟨_, hexec (meteringTick_rests hsoak hheat), ?_⟩
    rw [serviceEvents_events, hserved]
    refine ⟨haccount, hsum, ?_, hevents, fun hrange ha => ?_, hsame, hbegun, hpending, ?_⟩
    · simp [hderate, derateOf, meteredAccount, a]
    · simpa using addMetered_capped hrange ha
    · rw [serviceEvents_frame, (withinMetering_addMetered s).frame]
  · by_cases h : (soaking s && inSoakBand s) = true
    · refine ⟨_, hexec (meteringTick_soakCounts h (hshort (hsoaks.1 h))), ?_⟩
      rw [hserved]
      exact ⟨by simp [hphase], haccount, hsum, fun _ => rfl, fun hno => absurd (hsoaks.1 h) hno⟩
    · refine ⟨_, hexec (meteringTick_soakHolds hphase h), ?_⟩
      rw [hserved]
      exact ⟨by simp [hphase], haccount, hsum, fun hyes => absurd (hsoaks.2 hyes) h, fun _ => by simp⟩
  · have h := hsoaks.2 hsoak
    obtain ⟨hphase, -⟩ := hsoak
    by_cases hdry : s.sgc.state = .dryFault
    · refine ⟨_, hexec (meteringTick_soakWaits h hcount hdry), ?_⟩
      rw [hserved]
      refine ⟨rfl, haccount, hsum, ?_⟩
      simp [hphase, hdry]
    · obtain ⟨hdemand, hdrain, hpu, hmu, hcr, hre, hssu, hpower⟩ := drainsFor_of_addMetered <|
        drainsFor_enterPhase (s := addMetered s) (p := .drainAgent)
          (d := { (addMetered s).sdu with soakCount := 1200, drained := false }) (by simpa using huser) rfl
      exact ⟨_, hexec (meteringTick_soakEnds h hcount hdry), by simp, by simp [haccount, meteredAccount, a], by simp [hsum],
        by simp, hpu, hmu, hcr, hre, hssu, hpower, fun hyes => absurd hyes hdry, fun _ => ⟨by simp, hdemand, hdrain⟩⟩
  · by_cases h : rinseHeating s = true
    · refine ⟨_, hexec (meteringTick_heatCounts h (hshort (hheats.1 h))), ?_⟩
      rw [hserved]
      exact ⟨by simp [hphase], by simp [hstep], haccount, hsum, fun _ => rfl, fun hno => absurd (hheats.1 h) hno⟩
    · refine ⟨_, hexec (meteringTick_heatHolds hphase h), ?_⟩
      rw [hserved]
      exact ⟨by simp [hphase], by simp [hstep], haccount, hsum, fun hyes => absurd (hheats.2 hyes) h, fun _ => by simp⟩
  · have h := hheats.2 hheat
    obtain ⟨hphase, hstep, hstate, hlock⟩ := hheat
    obtain ⟨hdemand, hdrain, hpu, hmu, hcr, hre, hssu, hpower⟩ := drainsFor_of_addMetered <|
      drainsFor_enterPhase (s := addMetered s) (p := .rinse)
        (d := { (addMetered s).sdu with heatingTime := 600, rinseStep := .drain, drained := false }) (by simpa using huser) rfl
    obtain ⟨hdraining, hzero⟩ := hdrain (by simp [hstate])
    exact ⟨_, hexec (meteringTick_heatEnds h htime), by simp, by simp, by simp, by simp, by simp [haccount, meteredAccount, a],
      by simp [hsum], by simp, hdraining, hzero, hdemand, hpu, hmu, hcr, hre, hssu, hpower⟩

end Sys2Proof.Machine.Water
end

section
/-! A fill the descale asks for, and where its phases come to rest (R119, R132, R149, R151). -/

namespace Sys2Proof.Machine.Water

open Sharing Cooking

section
variable {s t u : State} {n : Nat}

/-! ### A FILL request (R123, R127, R132) -/

theorem fillTakes_iff (s : State) : fillTakes s = true ↔ s.sgc.state ∈ [.off, .cool, .drain] := by
  simp [fillTakes, or_assoc]

theorem requestFill_waits (h : fillTakes s = false) : requestFill s = s := by
  unfold requestFill
  split <;> simp_all [fillTakes]

theorem requestFill_takes (h : fillTakes s = true) : requestFill s = enterFill s := by
  rw [fillTakes_iff] at h
  simp only [List.mem_cons, List.not_mem_nil, or_false] at h
  rcases h with h | h | h <;> simp [requestFill, h]

theorem requestFill_full (h : fillTakes s = true) (huser : s.sgc.user = .descale) (hfull : boilerFull s = true) :
    requestFill s = becomeBoiler .heat { fillBegun s with sgc := { (fillBegun s).sgc with pulses := 0, pulseTimer := none } } := by
  rw [requestFill_takes h, enterFill_full hfull]
  refine enterHeat_stays (s := { fillBegun s with sgc.pulses := 0 }) (lowWet_of_boilerFull hfull) ?_
  rintro ⟨hclimate, -⟩
  exact absurd (huser.symm.trans hclimate) (by decide)

theorem requestFill_ready (h : fillTakes s = true) (hlow : boilerFull s = false) (hready : tankReady s = true) :
    requestFill s =
      pulsed (becomeBoiler .fill { fillBegun s with sgc := { (fillBegun s).sgc with pulses := 0, pulseTimer := none } }) := by
  rw [requestFill_takes h, enterFill_low hlow]
  exact startFill_ready (s := fillBegun s) (.inl rfl) hready hlow

theorem requestFill_unready (h : fillTakes s = true) (hlow : boilerFull s = false) (hready : tankReady s = false) :
    requestFill s =
      enterWaitWater false { fillBegun s with sgc := { (fillBegun s).sgc with pulses := 0, pulseTimer := none } } := by
  rw [requestFill_takes h, enterFill_low hlow]
  exact startFill_unready (s := fillBegun s) hready .fill

/-- Under the user DESCALE a fill meters nothing and writes no heater demand (R119). -/
theorem requestFill_alone (huser : s.sgc.user = .descale) :
    (requestFill s).sdu = s.sdu ∧ (requestFill s).lpd.loads.steamHeater = s.lpd.loads.steamHeater := by
  cases htakes : fillTakes s with
  | false => rw [requestFill_waits htakes]; exact ⟨rfl, rfl⟩
  | true =>
    cases hfull : boilerFull s with
    | true =>
      rw [requestFill_full htakes huser hfull, becomeBoiler_heater .heat (by exact huser)]
      exact ⟨by simp [fillBegun], rfl⟩
    | false =>
      cases hready : tankReady s with
      | true =>
        rw [requestFill_ready htakes hfull hready]
        refine ⟨by simp [pulsed, fillBegun, huser], ?_⟩
        exact becomeBoiler_heater .fill (by exact huser)
      | false =>
        rw [requestFill_unready htakes hfull hready]
        exact ⟨by simp [fillBegun], becomeBoiler_heater .waitWater (by exact huser)⟩

/-- A boiler that is asked to fill stands in none of the states that wait for the request. -/
theorem requestFill_settles (huser : s.sgc.user = .descale) : fillTakes (requestFill s) = false := by
  cases htakes : fillTakes s with
  | false => rw [requestFill_waits htakes, htakes]
  | true =>
    cases hfull : boilerFull s with
    | true => simp [requestFill_full htakes huser hfull, fillTakes]
    | false =>
      cases hready : tankReady s with
      | true => simp [requestFill_ready htakes hfull hready, pulsed, fillTakes]
      | false => simp [requestFill_unready htakes hfull hready, fillTakes]

/-! ### What WAIT_WATER tells in a descale (R149, R151) -/

theorem enterWaitWater_descale (marked : Bool) (huser : s.sgc.user = .descale) :
    (s.sdu.phase = .rinse → (enterWaitWater marked s).od.events.has .tankEmpty = true) ∧
      (s.sdu.phase ∈ [.soakFill, .soakHeat, .soak] → (enterWaitWater marked s).od.events.has .descaleWaitUser = true) := by
  refine ⟨fun h => ?_, fun h => ?_⟩
  · simp [enterWaitWater, becomeBoiler, waitWaterEvent, huser, h]
  · simp only [List.mem_cons, List.not_mem_nil, or_false] at h
    rcases h with h | h | h <;> simp [enterWaitWater, becomeBoiler, waitWaterEvent, huser, h]

/-- The boiler a FILL request finds: full, to be filled, or without a tank that is ready (R123, R127, R132). -/
theorem requestFill_finds (htakes : fillTakes s = true) (huser : s.sgc.user = .descale) :
    (boilerFull s = true → (requestFill s).sgc.state = .heat) ∧
    (boilerFull s = false → s.mu.tank = .present →
      (requestFill s).sgc.state = .fill ∧ (requestFill s).sgc.pulses = 1) ∧
    (boilerFull s = false → s.mu.tank ≠ .present →
      (requestFill s).sgc.state = .waitWater ∧ (requestFill s).sgc.wait = none ∧
        (s.sdu.phase = .rinse → (requestFill s).od.events.has .tankEmpty = true)) := by
  refine ⟨fun hfull => ?_, fun hlow htank => ?_, fun hlow htank => ?_⟩
  · simp [requestFill_full htakes huser hfull]
  · simp [requestFill_ready htakes hlow (by simpa [tankReady] using htank), pulsed]
  · have hready : tankReady s = false := by simpa [tankReady] using htank
    rw [requestFill_unready htakes hlow hready]
    refine ⟨by simp, by simp [tankReady, fillBegun, htank], fun hphase => ?_⟩
    obtain ⟨htold, -⟩ := enterWaitWater_descale false
      (s := { fillBegun s with sgc := { (fillBegun s).sgc with pulses := 0, pulseTimer := none } }) huser
    exact htold hphase

/-! ### A fill that is awaited (R149, R151) -/

/-- The phase or step ends with the boiler in HEAT. -/
def awaitsFill (s : State) : Prop :=
  s.sdu.phase = .soakFill ∨ (s.sdu.phase = .rinse ∧ s.sdu.rinseStep = .fill)

/-- The phase or step that a fill leads to. -/
def afterFill (s : State) : State := if s.sdu.phase = .soakFill then enterPhase .soakHeat s else enterRinseHeat s

/-- A fill that has been asked for, and the move it allows where it finds the boiler full. -/
def filled (s : State) : State :=
  if (requestFill s).sgc.state = .heat then afterFill (requestFill s) else requestFill s

theorem filled_heat (hheat : (requestFill s).sgc.state = .heat) : filled s = afterFill (requestFill s) := if_pos hheat

theorem filled_rests (hheat : (requestFill s).sgc.state ≠ .heat) : filled s = requestFill s := if_neg hheat

theorem afterFill_soak (hphase : s.sdu.phase = .soakFill) : afterFill s = enterPhase .soakHeat s := if_pos hphase

theorem afterFill_rinse (hphase : s.sdu.phase = .rinse) : afterFill s = enterRinseHeat s := if_neg (by simp [hphase])

theorem heatsBoiler_afterFill (h : awaitsFill s) : heatsBoiler (afterFill s) := by
  unfold afterFill
  rcases h with h | ⟨h, -⟩
  · simp [h, heatsBoiler]
  · simp [h, heatsBoiler, enterRinseHeat]

section
variable (hlock : s.pu.trips.lock = false)
include hlock

theorem sduNext_awaitsFill (h : awaitsFill s) :
    sduNext s =
      if s.sgc.state = .heat then some (afterFill s) else if fillTakes s then some (requestFill s) else none := by
  rcases h with h | ⟨h, hstep⟩
  · rw [sduNext_soakFill hlock h, afterFill, if_pos h]
  · have hne : ¬ s.sdu.phase = .soakFill := by simp [h]
    rw [sduNext_rinseFill hlock h hstep, afterFill, if_neg hne]

/-- A heating whose boiler is not OFF waits for its temperature. -/
theorem sduNext_heating (h : heatsBoiler s) (hon : s.sgc.state ≠ .off) : sduNext s = none := by
  rw [sduNext_heats hlock h, if_neg hon]

theorem sduNext_afterFill (h : awaitsFill s) (hheat : s.sgc.state = .heat) : sduNext (afterFill s) = none := by
  have hkept : (afterFill s).sgc = s.sgc ∧ (afterFill s).pu = s.pu := by
    unfold afterFill
    split <;> simp [enterRinseHeat]
  obtain ⟨hsgc, hpu⟩ := hkept
  exact sduNext_heating (by rw [hpu]; exact hlock) (heatsBoiler_afterFill h) (by simp [hsgc, hheat])

theorem sduNext_filled (h : awaitsFill s) (huser : s.sgc.user = .descale) : sduNext (filled s) = none := by
  obtain ⟨hsdu, -⟩ := requestFill_alone huser
  have hwaits : awaitsFill (requestFill s) := by rwa [awaitsFill, hsdu]
  have hlock' : (requestFill s).pu.trips.lock = false := by simpa using hlock
  by_cases hheat : (requestFill s).sgc.state = .heat
  · rw [filled_heat hheat]
    exact sduNext_afterFill hlock' hwaits hheat
  · rw [filled_rests hheat, sduNext_awaitsFill hlock' hwaits, if_neg hheat, requestFill_settles huser]
    rfl

/-- A phase that needs a fill asks for it, and moves on where it finds the boiler full (R132). -/
theorem followFor_fill (h : awaitsFill s) (huser : s.sgc.user = .descale) : followFor (n + 2) s = filled s := by
  obtain ⟨hsdu, -⟩ := requestFill_alone huser
  have hwaits : awaitsFill (requestFill s) := by rwa [awaitsFill, hsdu]
  have hlock' : (requestFill s).pu.trips.lock = false := by simpa using hlock
  have hrests := sduNext_filled hlock h huser
  have hsettled (m : Nat) : followFor (m + 1) (requestFill s) = filled s := by
    by_cases hheat : (requestFill s).sgc.state = .heat
    · have hnext := sduNext_awaitsFill hlock' hwaits
      rw [if_pos hheat, ← filled_heat hheat] at hnext
      rw [followFor_step hnext, followFor_rest hrests]
    · rw [filled_rests hheat] at hrests ⊢
      exact followFor_rest hrests
  cases htakes : fillTakes s with
  | false =>
    have hsame := requestFill_waits htakes
    rw [← hsettled (n + 1), hsame]
  | true =>
    have hstate : s.sgc.state ≠ .heat := by
      rintro hheat
      simp [fillTakes, hheat] at htakes
    have hnext := sduNext_awaitsFill hlock h
    rw [if_neg hstate, htakes, if_pos rfl] at hnext
    rw [followFor_step hnext, hsettled n]

/-- A heating whose boiler is found OFF fills it again (R149, R153). -/
theorem followFor_heats (h : heatsBoiler s) (huser : s.sgc.user = .descale) :
    followFor (n + 1) s = if s.sgc.state = .off then requestFill s else s := by
  split
  next hoff =>
    have hnext := sduNext_heats hlock h
    rw [if_pos hoff] at hnext
    rw [followFor_step hnext]
    obtain ⟨hsdu, -⟩ := requestFill_alone huser
    have hheats : heatsBoiler (requestFill s) := by rwa [heatsBoiler, hsdu]
    have hsettled := requestFill_settles huser
    refine followFor_rest (sduNext_heating (by simpa using hlock) hheats fun hstill => ?_)
    simp [fillTakes, hstill] at hsettled
  next hon => exact followFor_rest (sduNext_heating hlock h hon)

end

/-- Outside the boiler, the phase and what it counts, a fill asked for and the move it allows change nothing. -/
theorem filled_frame (s : State) :
    (filled s).sgc.user = s.sgc.user ∧ (filled s).sgc.derate = s.sgc.derate ∧ (filled s).od.power = s.od.power ∧
      (filled s).mu = s.mu ∧ (filled s).pu = s.pu ∧ (filled s).cr = s.cr ∧ (filled s).sdu.mark = s.sdu.mark ∧
      (filled s).sdu.account = s.sdu.account ∧ (filled s).sdu.writing = s.sdu.writing ∧
      (filled s).sdu.rinseCycle = s.sdu.rinseCycle := by
  unfold filled afterFill
  split_ifs <;> simp [enterRinseHeat]

/-! ### The heating's demand (R139, R149, R151) -/

/-- A demand while the boiler value is VALID, at most 600 under the derate signal (R139, R149). -/
def cappedHeat (s : State) (d : Nat) : Nat :=
  match s.mu.boiler.value with
  | .value _ => if s.sgc.derate then min d 600 else d
  | _ => 0

theorem writePhaseDemand_fullHeat (huser : s.sgc.user = .descale) (hlock : s.pu.trips.lock = false)
    (hphase : phaseDemand s = fullHeat s) :
    (writePhaseDemand s).lpd.loads.steamHeater.demand = cappedHeat s 1000 := by
  rw [writePhaseDemand_demand huser hlock, hphase, fullHeat, boilerValue, cappedHeat]
  cases s.mu.boiler.value <;> simp [Reading.isValue]

theorem enterRinseHeat_heats (huser : s.sgc.user = .descale) (hlock : s.pu.trips.lock = false) :
    (enterRinseHeat s).lpd.loads.steamHeater.demand = cappedHeat s 1000 :=
  writePhaseDemand_fullHeat (s := { s with sdu := { s.sdu with rinseStep := .heat, heatingTime := 0, phase := .rinse } })
    huser hlock rfl

end

end Sys2Proof.Machine.Water
end

section
/-! The orders that start a descale and move it on (R145 to R149, R151): DescaleStartTakesBoiler and DescaleConfirmMovesOn. -/

namespace Sys2Proof.Machine.Water

open Sharing Cooking

section
variable {s t u : State} {a : Addr}

/-! ### A descale order past its common checks (R22 to R25) -/

/-- What an order past its common checks leaves: its own refusal, or its effect. -/
def decided (refusal : Option Reason) (t s : State) : State :=
  match refusal with
  | some r => answered (.refuse r) s
  | none => answered .accept t

theorem admitted_unbusy {c : Instr} (h : admitted c s) (hlisten : neverBusy c = false) (hlock : asksLock c = true) :
    (listening s || lockTravelling s) = false := by
  obtain ⟨-, -, -, hbusy, -⟩ := h
  simpa [meetsBusy, hlisten, hlock, listening, lockTravelling] using hbusy

theorem runOrder_decided {α : Type} {parsed : Option α} {busy : Bool} {refusal : α → Option Reason} {act : α → State}
    {x : α} (hsender : a = s.config.console) (hparsed : parsed = some x) (hbusy : busy = false)
    (hrestart : s.od.restartPending = false) :
    runOrder a parsed busy refusal act s = decided (refusal x) (act x) s := by
  cases hrefusal : refusal x <;>
    simp [runOrder, decided, hsender, hparsed, hbusy, hrestart, hrefusal, answer, answered]

theorem exec_descaleStart (h : admitted (.descaleStart a []) s) :
    exec (.descaleStart a []) s = .next (decided (descaleRefusal s) (serviceEvents (startDescale s)) s) := by
  have hbusy := admitted_unbusy h rfl rfl
  obtain ⟨hrun, hsender, -, -, hrestart⟩ := h
  exact exec_next rfl hrun (runOrder_decided (Option.some.inj hsender) rfl hbusy hrestart)

theorem exec_descaleConfirm {b : Byte} {c : ConfirmStep} (hb : stepField [b] = some c) (h : admitted (.descaleConfirm a [b]) s) :
    exec (.descaleConfirm a [b]) s = .next (decided (confirmRefusal c s) (serviceEvents (confirmDescale c s)) s) := by
  have hbusy := admitted_unbusy h rfl rfl
  obtain ⟨hrun, hsender, -, -, hrestart⟩ := h
  exact exec_next rfl hrun (runOrder_decided (Option.some.inj hsender) hb hbusy hrestart)

theorem confirmRefusal_some {c : ConfirmStep}
    (h : c.awaited s.sdu.phase = false ∨ s.pu.trips.lock = true ∨ (c = .agent ∧ doorOpen s = true)) :
    confirmRefusal c s = some .notNow := by
  cases hwaits : c.awaited s.sdu.phase <;> cases hlock : s.pu.trips.lock <;>
    simp_all [confirmRefusal, firstOf, frozen]

/-! ### DESCALE_START (R145, R146) -/

/-- PREP_DRAIN as it is entered: the user taken, and the drain owed unless the boiler is OFF (R119, R146). -/
def prepared (s : State) : State := enterPhase .prepDrain (takeUser { s with sdu.drained := s.sgc.state == .off })

theorem prepared_sgc (s : State) : (prepared s).sgc = { s.sgc with user := .descale } := by simp [prepared, takeUser]

theorem prepared_sdu (s : State) :
    (prepared s).sdu = { s.sdu with phase := .prepDrain, drained := s.sgc.state == .off } := by
  simp [prepared, enterPhase_sdu, takeUser]

theorem prepared_unheated (s : State) : (prepared s).lpd.loads.steamHeater.demand = 0 :=
  enterPhase_unheated (by simp [takeUser]) rfl

/-- A boiler in OFF needs no drain: the agent is awaited at once (R146). -/
theorem startDescale_off (hlock : s.pu.trips.lock = false) (hoff : s.sgc.state = .off) :
    startDescale s = enterAwait .awaitAgent (prepared s) := by
  have hnext : sduNext (prepared s) = some (enterAwait .awaitAgent (prepared s)) := by
    have hphase : (prepared s).sdu.phase = .prepDrain := by rw [prepared_sdu]
    have hdrained : (prepared s).sdu.drained = true := by simp [prepared_sdu, hoff]
    have hunfrozen : (prepared s).pu.trips.lock = false := by simpa [prepared] using hlock
    simp [sduNext, frozen, hunfrozen, hphase, hdrained]
  have hrests : sduNext (enterAwait .awaitAgent (prepared s)) = none := sduNext_waits (by simp [waitsForUser, enterAwait])
  exact (sduFollow_step hnext).trans (followFor_rest hrests)

theorem startDescale_drains (hlock : s.pu.trips.lock = false) (hoff : s.sgc.state ≠ .off) :
    startDescale s = requestDrain (prepared s) := by
  refine followFor_drain (s := prepared s) (by simpa [prepared] using hlock) ?_
  rw [awaitsDrain, prepared_sdu]
  simp [hoff]

/-- What DESCALE_START leaves outside the boiler and the scale unit's phase. -/
theorem startDescale_frame (hlock : s.pu.trips.lock = false) :
    (startDescale s).sgc.user = .descale ∧ (startDescale s).lpd.loads.steamHeater.demand = 0 ∧
      (startDescale s).sdu.mark = s.sdu.mark ∧ (startDescale s).sdu.account = s.sdu.account ∧
      (startDescale s).mu = s.mu ∧ (startDescale s).pu = s.pu ∧ (startDescale s).cr = s.cr ∧ (startDescale s).re = s.re ∧
      (startDescale s).ssu = s.ssu ∧ (startDescale s).config = s.config ∧ (startDescale s).od.power = s.od.power := by
  have huser : (prepared s).sgc.user = .descale := by rw [prepared_sgc]
  by_cases hoff : s.sgc.state = .off
  · have hdemand : (enterAwait .awaitAgent (prepared s)).lpd.loads.steamHeater.demand = 0 := enterPhase_unheated huser rfl
    rw [startDescale_off hlock hoff]
    refine ⟨by simpa [enterAwait] using huser, hdemand, ?_⟩
    simp [enterAwait, prepared]
  · have hdemand := prepared_unheated s
    rw [startDescale_drains hlock hoff, requestDrain_frame huser]
    refine ⟨by simpa using huser, hdemand, ?_⟩
    simp [prepared]

/-- Settles O32: the refusals in R145's order, then the drain that an OFF boiler does not need. -/
theorem descaleStartTakesBoiler : Obligations.DescaleStartTakesBoiler := by
  intro a s hadmitted
  rw [exec_descaleStart hadmitted]
  refine ⟨fun hpower => ?_, fun hpower hrecipe => ?_, fun hpower hrecipe howner => ?_, fun hpower hrecipe howner htrips => ?_,
    fun hpower hrecipe howner htrips hphase => ?_, fun hpower hrecipe howner htrips hphase => ?_⟩
  · simp [decided, descaleRefusal, firstOf, hpower]
  · simp [decided, descaleRefusal, firstOf, hpower, hrecipe]
  · simp [decided, descaleRefusal, firstOf, hpower, hrecipe, howner]
  · have hsome : s.pu.trips.none = false := by rwa [Bool.eq_false_iff, ne_eq, TripSet.none_iff]
    simp [decided, descaleRefusal, firstOf, hpower, hrecipe, howner, hsome]
  · have hnone := (TripSet.none_iff _).2 htrips
    simp [decided, descaleRefusal, firstOf, hpower, hrecipe, howner, hnone, hphase]
  · have hnone := (TripSet.none_iff _).2 htrips
    have hlock : s.pu.trips.lock = false := by rw [htrips]; rfl
    have haccepted : decided (descaleRefusal s) (serviceEvents (startDescale s)) s =
        answered .accept (serviceEvents (startDescale s)) := by
      simp [decided, descaleRefusal, firstOf, hpower, hrecipe, howner, hnone, hphase]
    obtain ⟨huser, hdemand, hmark, haccount, hmu, hpu, hcr, hre, hssu, hconfig, hpow⟩ := startDescale_frame hlock
    refine ⟨_, congrArg _ haccepted, rfl, ?_⟩
    simp only [answered, serviceEvents_keeps]
    refine ⟨huser, hdemand, hmark, haccount, fun hs => ?_, fun hs => ?_, fun hs => ?_, hmu, hpu, hcr, hre, hssu, hconfig,
      hpow.trans hpower⟩
    · rw [startDescale_off hlock hs]
      exact ⟨by simp [enterAwait], by simpa [enterAwait, prepared_sgc] using hs, by simp [enterAwait, prepared]⟩
    · have hdrains := requestDrain_state (s := prepared s) (by simp [prepared_sgc, hs])
      rw [startDescale_drains hlock (by simp [hs])]
      exact ⟨by simp [prepared], hdrains⟩
    · rw [startDescale_drains hlock (by simp [hs]), requestDrain_waits (by simp [prepared_sgc, hs])]
      exact ⟨by simp [prepared], prepared_sgc s⟩

/-! ### LOCKING (R148, R198) -/

/-- The lock asked engaged, and travelling in since `k` ms (R197, R198). -/
def travelling (k : Nat) (s : State) : State :=
  { s with pu := { s.pu with command := .engage, lock := .locking, travel := k } }

/-- The lock asked engaged where it is LOCKED (R197, R198). -/
def engaged (s : State) : State := { s with pu.command := .engage }

/-- A lock that is not LOCKED travels in, with the door closed: a travel in goes on, and from elsewhere one begins (R198). -/
theorem requestLock_travels (hlock : s.pu.lock ≠ .locked) (hdoor : doorOpen s = false) :
    requestLock .engage s = travelling (if s.pu.lock = .locking then s.pu.travel else 0) s := by
  have htravels : travelIn (engaged s) = travelling 0 s := by
    have hclosed : doorOpen (engaged s) = false := hdoor
    rw [travelIn, hclosed]
    rfl
  change takeLockCommand (engaged s) = _
  cases hl : s.pu.lock with
  | locked => exact absurd hl hlock
  | locking => simp [takeLockCommand, engaged, travelling, hl]
  | unlocked | unlocking | fault =>
    have htaken : takeLockCommand (engaged s) = travelIn (engaged s) := by simp only [takeLockCommand, engaged, hl]
    rw [htaken, htravels]
    rfl

theorem requestLock_locked (hlocked : s.pu.lock = .locked) : requestLock .engage s = engaged s := by
  simp [requestLock, takeLockCommand, hlocked, engaged]

/-- LOCKING as it is entered, before the lock is asked (R148). -/
def lockingEntered (f : LockingFrom) (s : State) : State := enterPhase .locking { s with sdu.lockingFrom := f }

theorem lockingEntered_frame (f : LockingFrom) (s : State) :
    (lockingEntered f s).sdu = { s.sdu with phase := .locking, lockingFrom := f } ∧ (lockingEntered f s).pu = s.pu ∧
      (lockingEntered f s).sgc = s.sgc ∧ (lockingEntered f s).mu = s.mu ∧ (lockingEntered f s).cr = s.cr ∧
      (lockingEntered f s).od = s.od := by
  simp [lockingEntered, enterPhase_sdu]

theorem enterLocking_travels (f : LockingFrom) (hlock : s.pu.lock ≠ .locked) (hdoor : doorOpen s = false) :
    enterLocking f s = travelling (if s.pu.lock = .locking then s.pu.travel else 0) (lockingEntered f s) := by
  obtain ⟨-, hpu, -, hmu, -⟩ := lockingEntered_frame f s
  have htravels := requestLock_travels (s := lockingEntered f s) (by rw [hpu]; exact hlock)
    (by rw [doorOpen, hmu]; exact hdoor)
  rwa [hpu] at htravels

theorem enterLocking_locked (f : LockingFrom) (hlocked : s.pu.lock = .locked) :
    enterLocking f s = engaged (lockingEntered f s) := by
  obtain ⟨-, hpu, -⟩ := lockingEntered_frame f s
  exact requestLock_locked (s := lockingEntered f s) (by rw [hpu]; exact hlocked)

/-- A lock that travels is waited for (R148). -/
theorem sduFollow_travels (hlock : s.pu.trips.lock = false) (hphase : s.sdu.phase = .locking) (hstate : s.pu.lock ≠ .locked) :
    sduFollow s = s := sduFollow_rest (by rw [sduNext_locking hlock hphase, if_neg hstate])

/-- A lock that has come to LOCKED from AWAIT_AGENT leads on to the agent's fill (R149). -/
theorem sduFollow_agent (hlock : s.pu.trips.lock = false) (hphase : s.sdu.phase = .locking) (hlocked : s.pu.lock = .locked)
    (hfrom : s.sdu.lockingFrom = .awaitAgent) (huser : s.sgc.user = .descale) :
    sduFollow s = filled (enterSoakFill s) := by
  have hnext := sduNext_locking hlock hphase
  rw [if_pos hlocked] at hnext
  have hafter : afterLocking s = enterSoakFill s := by simp [afterLocking, hfrom]
  rw [sduFollow_step hnext, hafter]
  exact followFor_fill (by simpa [enterSoakFill] using hlock) (.inl (by simp [enterSoakFill]))
    (by simpa [enterSoakFill] using huser)

theorem filled_soakFill (hphase : s.sdu.phase = .soakFill) :
    (filled s).sdu.phase = .soakFill ∨ (filled s).sdu.phase = .soakHeat := by
  have hkept : (requestFill s).sdu.phase = .soakFill := by simpa using hphase
  unfold filled afterFill
  split_ifs
  · exact .inr (by simp)
  · exact .inl hkept

/-! ### DESCALE_CONFIRM for the agent (R147 to R149) -/

theorem confirm_travels (hlock : s.pu.trips.lock = false) (hunlocked : s.pu.lock = .unlocked) (hdoor : doorOpen s = false) :
    confirmDescale .agent s = travelling 0 (lockingEntered .awaitAgent s) := by
  obtain ⟨hsdu, hpu, -⟩ := lockingEntered_frame .awaitAgent s
  have htravels := enterLocking_travels .awaitAgent (by simp [hunlocked]) hdoor
  rw [if_neg (by simp [hunlocked])] at htravels
  have hrests : sduFollow (travelling 0 (lockingEntered .awaitAgent s)) = travelling 0 (lockingEntered .awaitAgent s) :=
    sduFollow_travels (by rw [travelling, hpu]; exact hlock) (by rw [travelling, hsdu]) (by simp [travelling])
  change sduFollow (enterLocking .awaitAgent s) = _
  rw [htravels, hrests]

theorem confirm_locked (hlock : s.pu.trips.lock = false) (hlocked : s.pu.lock = .locked) (huser : s.sgc.user = .descale) :
    confirmDescale .agent s = filled (enterSoakFill (engaged (lockingEntered .awaitAgent s))) := by
  obtain ⟨hsdu, hpu, hsgc, -⟩ := lockingEntered_frame .awaitAgent s
  change sduFollow (enterLocking .awaitAgent s) = _
  rw [enterLocking_locked .awaitAgent hlocked]
  exact sduFollow_agent (by rw [engaged, hpu]; exact hlock) (by rw [engaged, hsdu]) (by rw [engaged, hpu]; exact hlocked)
    (by rw [engaged, hsdu]) (by rw [engaged, hsgc]; exact huser)

/-! ### DESCALE_CONFIRM for the rinse (R147, R151) -/

/-- The first rinse cycle's fill, as it is entered. -/
def rinseBegun (s : State) : State := enterRinseFill 1 s

theorem rinseBegun_frame (s : State) :
    (rinseBegun s).sgc = s.sgc ∧ (rinseBegun s).mu = s.mu ∧ (rinseBegun s).pu = s.pu ∧ (rinseBegun s).cr = s.cr ∧
      (rinseBegun s).sdu = { s.sdu with phase := .rinse, rinseCycle := 1, rinseStep := .fill, drained := false } := by
  simp [rinseBegun, enterRinseFill, enterPhase_sdu]

theorem confirm_rinse (hlock : s.pu.trips.lock = false) (huser : s.sgc.user = .descale) :
    confirmDescale .rinse s = filled (rinseBegun s) := by
  obtain ⟨hsgc, -, hpu, -, hsdu⟩ := rinseBegun_frame s
  exact followFor_fill (s := rinseBegun s) (by rw [hpu]; exact hlock) (.inr (by rw [hsdu]; exact ⟨rfl, rfl⟩))
    (by rw [hsgc]; exact huser)

/-- What DESCALE_CONFIRM for the rinse leaves whatever the boiler finds. -/
theorem confirm_rinse_frame (hlock : s.pu.trips.lock = false) (huser : s.sgc.user = .descale) :
    (confirmDescale .rinse s).sdu.phase = .rinse ∧ (confirmDescale .rinse s).sdu.rinseCycle = 1 ∧
      (confirmDescale .rinse s).sdu.meteringSum = s.sdu.meteringSum ∧ (confirmDescale .rinse s).sdu.mark = s.sdu.mark ∧
      (confirmDescale .rinse s).sdu.account = s.sdu.account ∧ (confirmDescale .rinse s).pu = s.pu := by
  obtain ⟨hsgc, -, hpu, -, hsdu⟩ := rinseBegun_frame s
  obtain ⟨hfilled, -⟩ := requestFill_alone (s := rinseBegun s) (by rw [hsgc]; exact huser)
  rw [confirm_rinse hlock huser]
  by_cases hheat : (requestFill (rinseBegun s)).sgc.state = .heat
  · rw [filled_heat hheat, afterFill_rinse (by rw [hfilled, hsdu])]
    simp [enterRinseHeat, enterPhase_sdu, hfilled, hsdu, hpu]
  · rw [filled_rests hheat, hfilled, hsdu]
    simp [hpu]

/-- A boiler in DRY_FAULT takes no fill, and stays there (R132, R153). -/
theorem confirm_rinse_dry (hlock : s.pu.trips.lock = false) (huser : s.sgc.user = .descale) (hdry : s.sgc.state = .dryFault) :
    confirmDescale .rinse s = rinseBegun s := by
  obtain ⟨hsgc, -⟩ := rinseBegun_frame s
  have hwaits : requestFill (rinseBegun s) = rinseBegun s := requestFill_waits (by simp [fillTakes, hsgc, hdry])
  rw [confirm_rinse hlock huser, filled_rests (by rw [hwaits, hsgc, hdry]; decide), hwaits]

theorem rinseBegun_unheated (huser : s.sgc.user = .descale) : (rinseBegun s).lpd.loads.steamHeater.demand = 0 :=
  enterPhase_unheated huser rfl

/-- The rinse's first fill, by the level and the tank (R151). -/
theorem confirm_rinse_finds (hlock : s.pu.trips.lock = false) (huser : s.sgc.user = .descale)
    (htakes : s.sgc.state ∈ [.off, .cool, .drain]) :
    (boilerFull s = false →
      (confirmDescale .rinse s).sdu.rinseStep = .fill ∧ (confirmDescale .rinse s).lpd.loads.steamHeater.demand = 0 ∧
        (s.mu.tank = .present →
          (confirmDescale .rinse s).sgc.state = .fill ∧ (confirmDescale .rinse s).sgc.pulses = 1) ∧
        (s.mu.tank ≠ .present →
          (confirmDescale .rinse s).sgc.state = .waitWater ∧ (confirmDescale .rinse s).sgc.wait = none ∧
            (confirmDescale .rinse s).od.events.has .tankEmpty = true)) ∧
    (boilerFull s = true →
      (confirmDescale .rinse s).sdu.rinseStep = .heat ∧ (confirmDescale .rinse s).sdu.heatingTime = 0 ∧
        (confirmDescale .rinse s).sgc.state = .heat ∧
        (confirmDescale .rinse s).lpd.loads.steamHeater.demand = cappedHeat s 1000) := by
  obtain ⟨hsgc, hmu, hpu, -, hsdu⟩ := rinseBegun_frame s
  have huser' : (rinseBegun s).sgc.user = .descale := by rw [hsgc]; exact huser
  have hlevel : boilerFull (rinseBegun s) = boilerFull s := by simp only [boilerFull, lowWet, highWet, hmu]
  obtain ⟨hfilled, hheater⟩ := requestFill_alone huser'
  obtain ⟨hfull, hready, hunready⟩ := requestFill_finds ((fillTakes_iff _).2 (by rw [hsgc]; exact htakes)) huser'
  rw [hlevel] at hfull hready hunready
  rw [hmu] at hready hunready
  rw [confirm_rinse hlock huser]
  refine ⟨fun hlow => ?_, fun hhigh => ?_⟩
  · have hrests : filled (rinseBegun s) = requestFill (rinseBegun s) := by
      refine filled_rests ?_
      by_cases htank : s.mu.tank = .present
      · obtain ⟨hstate, -⟩ := hready hlow htank
        simp [hstate]
      · obtain ⟨hstate, -⟩ := hunready hlow htank
        simp [hstate]
    rw [hrests, hfilled, hheater, hsdu]
    refine ⟨rfl, rinseBegun_unheated huser, hready hlow, fun htank => ?_⟩
    obtain ⟨hstate, hwait, htold⟩ := hunready hlow htank
    exact ⟨hstate, hwait, htold (by rw [hsdu])⟩
  · have hheat := hfull hhigh
    have hdemand := enterRinseHeat_heats (s := requestFill (rinseBegun s)) (by simpa using huser')
      (by simpa [hpu] using hlock)
    have hcapped : cappedHeat (requestFill (rinseBegun s)) 1000 = cappedHeat s 1000 := by simp [cappedHeat, hmu, hsgc]
    rw [filled_heat hheat, afterFill_rinse (by rw [hfilled, hsdu])]
    exact ⟨by simp [enterRinseHeat], by simp [enterRinseHeat], by simpa [enterRinseHeat] using hheat, hdemand.trans hcapped⟩

/-- What DESCALE_CONFIRM for the agent leaves with the lock LOCKED (R149). -/
theorem confirm_locked_frame (hlock : s.pu.trips.lock = false) (hlocked : s.pu.lock = .locked) (huser : s.sgc.user = .descale) :
    (confirmDescale .agent s).pu = { s.pu with command := .engage } ∧
      (confirmDescale .agent s).sdu.account = s.sdu.account ∧ (confirmDescale .agent s).sdu.mark = .agentIn ∧
      ((confirmDescale .agent s).sdu.phase = .soakFill ∨ (confirmDescale .agent s).sdu.phase = .soakHeat) := by
  obtain ⟨hsdu, hpu, -⟩ := lockingEntered_frame .awaitAgent s
  obtain ⟨-, -, -, -, hpuf, -, hmarkf, haccountf, -⟩ := filled_frame (enterSoakFill (engaged (lockingEntered .awaitAgent s)))
  rw [confirm_locked hlock hlocked huser, hpuf, hmarkf, haccountf]
  exact ⟨by simp [enterSoakFill, engaged, hpu], by simp [enterSoakFill, engaged, hsdu], by simp [enterSoakFill],
    filled_soakFill (by simp [enterSoakFill])⟩

/-! ### The obligation -/

/-- Settles O33: the two steps' refusals, then the lock driven in for the agent and the first fill of the rinse. -/
theorem descaleConfirmMovesOn : Obligations.DescaleConfirmMovesOn := by
  intro a s
  refine ⟨fun hadmitted => ?_, fun hadmitted => ?_⟩
  · have hunbusy := admitted_unbusy hadmitted rfl rfl
    rw [exec_descaleConfirm (c := .agent) rfl hadmitted]
    refine ⟨fun hno => ?_, fun hphase hlock hdoor hfault huser => ?_⟩
    · have hrefused : confirmRefusal .agent s = some .notNow := confirmRefusal_some <| by
        refine hno.imp (fun hphase => ?_) (Or.imp_right fun hopen => ⟨rfl, hopen⟩)
        unfold ConfirmStep.awaited
        split <;> simp_all
      rw [hrefused]
      rfl
    · have haccepted : confirmRefusal .agent s = none := by
        simp [confirmRefusal, firstOf, frozen, hphase, hlock, hdoor, ConfirmStep.awaited]
      rw [haccepted]
      refine ⟨answered .accept (serviceEvents (confirmDescale .agent s)), rfl, rfl, ?_⟩
      have hstands : s.pu.lock = .unlocked ∨ s.pu.lock = .locked := by
        have hnofault : s.pu.lock ≠ .fault := fun hf => by simp [hfault.1 hf] at hlock
        rw [Bool.or_eq_false_iff] at hunbusy
        cases hl : s.pu.lock <;> simp_all [lockTravelling]
      simp only [answered, serviceEvents_keeps]
      rcases hstands with hl | hl
      · obtain ⟨hsdu, hpu, hsgc, hmu, hcr, -⟩ := lockingEntered_frame .awaitAgent s
        have hdemand : (lockingEntered .awaitAgent s).lpd.loads.steamHeater.demand = 0 := enterPhase_unheated huser rfl
        rw [confirm_travels hlock hl hdoor]
        simp [travelling, hsdu, hpu, hsgc, hmu, hcr, hl, hdemand]
      · obtain ⟨hpu, haccount, hmark, hmoved⟩ := confirm_locked_frame hlock hl huser
        simp [hpu, haccount, hmark, hmoved, hl]
  · rw [exec_descaleConfirm (c := .rinse) rfl hadmitted]
    refine ⟨fun hno => ?_, fun hphase hlock hstate huser => ?_⟩
    · have hrefused : confirmRefusal .rinse s = some .notNow := confirmRefusal_some <| by
        refine hno.imp (fun hphase => ?_) .inl
        unfold ConfirmStep.awaited
        split <;> simp_all
      rw [hrefused]
      rfl
    · have haccepted : confirmRefusal .rinse s = none := by
        simp [confirmRefusal, firstOf, frozen, hphase, hlock, ConfirmStep.awaited]
      have htakes (hwet : s.sgc.state ≠ .dryFault) : s.sgc.state ∈ [.off, .cool, .drain] := by
        simpa [hwet] using hstate
      obtain ⟨hrinse, hcycle, hsum, hmark, haccount, hpu⟩ := confirm_rinse_frame hlock huser
      rw [haccepted]
      refine ⟨answered .accept (serviceEvents (confirmDescale .rinse s)), rfl, rfl, ?_⟩
      simp only [answered, serviceEvents_keeps]
      refine ⟨hrinse, hcycle, hsum, hmark, haccount, hpu, by simp, by simp, fun hdry => ?_, fun hwet hlow => ?_,
        fun hwet hhigh => ?_⟩
      · obtain ⟨hsgc, -, -, -, hsdu⟩ := rinseBegun_frame s
        rw [confirm_rinse_dry hlock huser hdry, hsdu]
        exact ⟨rfl, hsgc, rinseBegun_unheated huser⟩
      · obtain ⟨hfinds, -⟩ := confirm_rinse_finds hlock huser (htakes hwet)
        simpa using hfinds hlow
      · obtain ⟨-, hfinds⟩ := confirm_rinse_finds hlock huser (htakes hwet)
        obtain ⟨hstep, htime, hheat, hdemand⟩ := hfinds hhigh
        refine ⟨hstep, htime, hheat, hdemand.trans ?_⟩
        unfold cappedHeat
        cases s.mu.boiler.value <;> simp

end

end Sys2Proof.Machine.Water
end

section
/-! A round during a descale: the lock's travel and the boiler, which the descale's phases then follow (R119, R123 to R129,
R198). -/

namespace Sys2Proof.Machine.Water

open Sharing Cooking Sampling

section
variable {s t u : State} {st : BoilerState} {first : Bool} {x : Samples}

/-! ### The lock (R198) -/

/-- The lock as the feedback published leaves it (R198). -/
def lockSettled (l : LockState) (fb : Option Bool) : LockState :=
  match l, fb with
  | .locking, some true => .locked
  | .unlocking, some false => .unlocked
  | l, _ => l

theorem endTravel_eq (s : State) : endTravel s = { s with pu.lock := lockSettled s.pu.lock s.mu.lockFb.published } := by
  unfold endTravel
  split
  next hl hf => rw [hl, hf]; rfl
  next hl hf => rw [hl, hf]; rfl
  next hin hout =>
    have hkept : lockSettled s.pu.lock s.mu.lockFb.published = s.pu.lock := by
      unfold lockSettled
      split
      next hl hf => exact absurd hf (hin hl)
      next hl hf => exact absurd hf (hout hl)
      · rfl
    rw [hkept]

/-- The state in which the boiler follows a round that adds no trip, once LOCK_FB has been published: the set published, and the
lock's travel ended where its feedback shows it. -/
def travelled (x : Samples) (s : State) : State :=
  { sampled x s with pu.lock := lockSettled s.pu.lock (sampleAll s.mu x).lockFb.published }

theorem judged_travelled (htrips : (samplingRound x s).pu.trips = s.pu.trips) (hlock : s.pu.trips.lock = false)
    (hfb : s.mu.lockFb.published ≠ none) : judged x s = travelled x s := by
  have hlater : firstPublished s.mu.lockFb (sampleAll s.mu x).lockFb = false := by
    rw [Bool.eq_false_iff, ne_eq, firstPublished_iff]
    exact fun h => hfb h.1
  obtain ⟨hjudged, hcontradicted, -⟩ := judged_quiet htrips
  rw [hlater] at hjudged hcontradicted
  have hread : lockRead false (sampled x s) = endTravel (sampled x s) := if_neg (by simp)
  have hquiet : ¬ lockContradicted (lockRead false (sampled x s)) = true := fun hc => by
    simp [hcontradicted hc] at hlock
  have hpublication : lockPublication false (sampled x s) = lockRead false (sampled x s) := if_neg hquiet
  rw [hjudged, hpublication, hread, endTravel_eq]
  rfl

/-! ### The boiler writes no demand (R119) -/

/-- The boiler serves the descale, and the STEAM_HEATER record is the one of `s`. -/
def unheated (s t : State) : Prop :=
  t.sgc.user = .descale ∧ t.lpd.loads.steamHeater = s.lpd.loads.steamHeater

theorem unheated.of_same {v : State} (hv : v.sgc.user = t.sgc.user ∧ v.lpd.loads.steamHeater = t.lpd.loads.steamHeater)
    (h : unheated s t) : unheated s v := by
  obtain ⟨huser, hheater⟩ := hv
  obtain ⟨tuser, theater⟩ := h
  exact ⟨huser.trans tuser, hheater.trans theater⟩

theorem unheated_ite {p : Prop} [Decidable p] (ht : unheated s t) (hu : unheated s u) : unheated s (if p then t else u) := by
  split
  · exact ht
  · exact hu

theorem unheated_becomeBoiler (h : unheated s t) : unheated s (becomeBoiler st t) := by
  obtain ⟨huser, hheater⟩ := h
  exact ⟨by simpa using huser, (becomeBoiler_heater st huser).trans hheater⟩

theorem unheated_writeHeater (h : unheated s t) : unheated s (writeHeater t) := by
  obtain ⟨huser, -⟩ := id h
  rwa [writeHeater, if_neg (by simp [huser])]

theorem unheated_enterWaitWater {b : Bool} (h : unheated s t) : unheated s (enterWaitWater b t) := unheated_becomeBoiler h

theorem unheated_givePulse (h : unheated s t) : unheated s (givePulse t) := unheated_ite (unheated_enterWaitWater h) h

theorem unheated_judgePump (h : unheated s t) : unheated s (judgePump t) :=
  unheated_ite (unheated_ite (unheated_givePulse h) h) h

theorem unheated_startFill (h : unheated s t) : unheated s (startFill st t) :=
  unheated_ite (unheated_judgePump (unheated_becomeBoiler h)) (unheated_enterWaitWater h)

theorem unheated_enterSteam (h : unheated s t) : unheated s (enterSteam t) := unheated_becomeBoiler h

theorem unheated_enterHeat (h : unheated s t) : unheated s (enterHeat t) := by
  have hheat : unheated s (becomeBoiler .heat { t with sgc.pulseTimer := none }) := unheated_becomeBoiler h
  exact unheated_ite (unheated_ite (unheated_enterSteam hheat) hheat) (unheated_startFill hheat)

theorem unheated_enterFill (h : unheated s t) : unheated s (enterFill t) :=
  unheated_ite (unheated_enterHeat h) (unheated_startFill h)

theorem unheated_enterCool (h : unheated s t) : unheated s (enterCool t) := by
  have hcool : unheated s (becomeBoiler .cool { discardFill t with sgc.coolTime := 0 }) := unheated_becomeBoiler h
  exact hcool.of_same (by simp [enterCool])

theorem unheated_boilerPublication (huser : s.sgc.user = .descale) : unheated s (boilerPublication first s) := by
  have h : unheated s s := ⟨huser, rfl⟩
  have hheater := unheated_writeHeater h
  have hfilling : unheated s (if tankReady s then judgePump (writeHeater s) else enterWaitWater false s) :=
    unheated_ite (unheated_judgePump hheater) (unheated_enterWaitWater h)
  refine unheated_ite (unheated_ite h (unheated_becomeBoiler h)) ?_
  split
  · exact unheated_ite (unheated_enterCool h) h
  · exact unheated_ite (unheated_enterHeat h) hfilling
  · exact unheated_ite (unheated_ite (unheated_enterSteam h) hheater) (unheated_enterFill h)
  · exact unheated_ite (unheated_ite hheater (unheated_enterHeat h)) (unheated_startFill h)
  · exact unheated_ite (unheated_enterSteam h) hfilling
  · exact hheater.of_same (by simp)
  · exact unheated_ite (unheated_becomeBoiler hheater) hheater
  · exact hheater
  · exact hheater

/-- A fill in which a pulse may be due goes on, or its limit ends it (R118, R123). -/
theorem judgePump_fill (h : s.sgc.state = .fill) :
    (judgePump s).sgc.state = .fill ∨ (judgePump s).sgc.state = .waitWater := by
  by_cases hmay : pumpMay s = true
  · by_cases htimer : s.sgc.pulseTimer = none
    · rw [judgePump_pulses hmay htimer]
      by_cases hlimit : s.sgc.pulses < 299
      · exact .inl (by simp [givePulse_below hlimit, pulsed, h])
      · exact .inr (by rw [givePulse_limit (by omega), enterWaitWater_state])
    · exact .inl (by rw [judgePump_goesOn hmay htimer, h])
  · exact .inl (by simp [judgePump, hmay, h])

/-! ### The boiler's states in a descale (R123 to R129) -/

section
variable (hcool : (boilerValue s).above 1600 = false) (huser : s.sgc.user = .descale)
include hcool huser

/-- No boiler state that a descale waits in moves by itself. -/
theorem boilerPublication_stays (h : s.sgc.state = .cool ∨ s.sgc.state = .drain ∨ s.sgc.state = .dryFault) :
    boilerPublication first s = s := by
  have hheater : writeHeater s = s := by simp [writeHeater, huser]
  rcases h with h | h
  · have hstays : judgeCool s = s := by simp [judgeCool, huser]
    rw [boilerPublication_cool hcool h, hheater, hstays]
  · rw [boilerPublication_draining hcool h, hheater]

omit huser in
/-- A boiler in OFF at most cools, where its low electrode is first published (R136). -/
theorem boilerPublication_resting (h : s.sgc.state = .off) :
    (boilerPublication first s).sgc.state ∈ [.off, .cool] ∧
      (boilerPublication first s).sdu.meteringSum = s.sdu.meteringSum := by
  rw [boilerPublication_off hcool h]
  split <;> simp [h]

theorem boilerPublication_fills (h : s.sgc.state = .fill) :
    (boilerFull s = true → (boilerPublication first s).sgc.state = .heat) ∧
    (boilerFull s = false →
      (boilerPublication first s).sgc.state = .fill ∨ (boilerPublication first s).sgc.state = .waitWater) ∧
    (boilerFull s = false → s.mu.tank = .present → s.sgc.pulseTimer ≠ none → boilerPublication first s = s) ∧
    (boilerFull s = false → s.mu.tank ≠ .present → boilerPublication first s = enterWaitWater false s) := by
  have hheater : writeHeater s = s := by simp [writeHeater, huser]
  have hclimate : ¬ (s.sgc.user = .climate ∧ (boilerValue s).atLeast 980 = true) := by simp [huser]
  refine ⟨fun hfull => ?_, fun hlow => ?_, fun hlow htank htimer => ?_, fun hlow htank => ?_⟩
  · rw [boilerPublication_fill_full hcool h hfull, enterHeat_sgc (lowWet_of_boilerFull hfull) hclimate]
  · rw [boilerPublication_filling hcool (.inl h) hlow, hheater]
    split
    · exact judgePump_fill h
    · exact .inr (enterWaitWater_state _ _)
  · have hready := (tankReady_iff s).2 htank
    have hmay : pumpMay s = true := by simp [pumpMay, h, hready, hlow]
    rw [boilerPublication_filling hcool (.inl h) hlow, if_pos hready, hheater, judgePump_goesOn hmay htimer]
  · rw [boilerPublication_filling hcool (.inl h) hlow, if_neg (by simpa [tankReady] using htank)]

theorem boilerPublication_heats (h : s.sgc.state = .heat) :
    (lowWet s = true → boilerPublication first s = s) ∧
    (lowWet s = false → s.mu.tank = .present → (boilerPublication first s).sgc.state = .fill) := by
  have hheater : writeHeater s = s := by simp [writeHeater, huser]
  rw [boilerPublication_heat hcool h]
  refine ⟨fun hwet => ?_, fun hdry htank => ?_⟩
  · rw [if_pos hwet, if_neg (by simp [huser]), hheater]
  · have hlow := boilerFull_of_dry hdry
    rw [if_neg (by simp [hdry]), enterFill_low hlow,
      startFill_ready (s := fillBegun s) (.inl rfl) ((tankReady_iff s).2 htank) hlow]
    simp [pulsed]

end

end

end Sys2Proof.Machine.Water
end

section
/-! The scale unit at a publication, phase by phase: where its phases come to rest and what they heat (R119, R144, R148 to R156). -/

namespace Sys2Proof.Machine.Water

open Sharing Cooking

section
variable {s t u : State} {n : Nat}

/-! ### The heating judged (R149 to R151) -/

theorem heatedTo_iff (v : Int) (s : State) :
    heatedTo v s = true ↔ (boilerValue s).atLeast v = true ∧ s.sgc.state ≠ .dryFault := by
  simp [heatedTo, boilerDried]

/-- The phase heats nothing. -/
def isCold (s : State) : Prop :=
  s.sdu.phase ∉ [.soakHeat, .soak] ∧ ¬ (s.sdu.phase = .rinse ∧ s.sdu.rinseStep = .heat)

theorem judgeHeating_cold (h : isCold s) : judgeHeating s = s := by
  obtain ⟨hsoak, hrinse⟩ := h
  simp only [List.mem_cons, List.not_mem_nil, or_false, not_or] at hsoak
  unfold judgeHeating
  split
  · rfl
  · split
    · exact absurd ‹_› hsoak.1
    · exact absurd ‹_› hsoak.2
    next hphase => exact if_neg fun hstep => hrinse ⟨hphase, hstep⟩
    · rfl

/-- Where the phases rest and none heats, the publication leaves them there. -/
theorem sduPublication_cold (hfollow : sduFollow s = t) (hrests : sduNext t = none) (hcold : isCold t) :
    sduPublication s = t := by
  rw [sduPublication, hfollow, judgeHeating_cold hcold, sduFollow_rest hrests]

section
variable (hlock : t.pu.trips.lock = false)
include hlock

theorem judgeHeating_soakHeat (h : t.sdu.phase = .soakHeat) :
    judgeHeating t = if heatedTo 700 t then enterSoak t else writePhaseDemand t := by
  simp [judgeHeating, frozen, hlock, h]

theorem judgeHeating_soak (h : t.sdu.phase = .soak) : judgeHeating t = writePhaseDemand t := by
  simp [judgeHeating, frozen, hlock, h]

theorem judgeHeating_rinse (h : t.sdu.phase = .rinse) (hstep : t.sdu.rinseStep = .heat) :
    judgeHeating t = if heatedTo 900 t then enterRinseDrain t else writePhaseDemand t := by
  simp [judgeHeating, frozen, hlock, h, hstep]

/-- A demand that is written moves no phase on. -/
theorem sduNext_writePhaseDemand (hheats : heatsBoiler t) (hon : t.sgc.state ≠ .off) :
    sduNext (writePhaseDemand t) = none :=
  sduNext_heating (by simpa using hlock) (by simpa [heatsBoiler] using hheats) (by simpa using hon)

theorem sduPublication_soakHeat (hfollow : sduFollow s = t) (hphase : t.sdu.phase = .soakHeat) (hon : t.sgc.state ≠ .off) :
    sduPublication s = if heatedTo 700 t then enterSoak t else writePhaseDemand t := by
  rw [sduPublication, hfollow, judgeHeating_soakHeat hlock hphase]
  split
  · exact sduFollow_rest (sduNext_heating (by simpa [enterSoak] using hlock) (.inr (.inl (by simp [enterSoak])))
      (by simpa [enterSoak] using hon))
  · exact sduFollow_rest (sduNext_writePhaseDemand hlock (.inl hphase) hon)

theorem sduPublication_soak (hfollow : sduFollow s = t) (hphase : t.sdu.phase = .soak) (hcount : t.sdu.soakCount < 1200)
    (hon : t.sgc.state ≠ .off) : sduPublication s = writePhaseDemand t := by
  rw [sduPublication, hfollow, judgeHeating_soak hlock hphase]
  exact sduFollow_rest (sduNext_writePhaseDemand hlock (.inr (.inl ⟨hphase, hcount⟩)) hon)

theorem sduPublication_rinse (hfollow : sduFollow s = t) (hphase : t.sdu.phase = .rinse) (hstep : t.sdu.rinseStep = .heat)
    (hon : t.sgc.state ≠ .off) :
    sduPublication s = if heatedTo 900 t then requestDrain (enterRinseDrain t) else writePhaseDemand t := by
  rw [sduPublication, hfollow, judgeHeating_rinse hlock hphase hstep]
  split
  · exact sduFollow_enterRinseDrain hlock
  · exact sduFollow_rest (sduNext_writePhaseDemand hlock (.inr (.inr ⟨hphase, hstep⟩)) hon)

end

/-! ### What is heated (R149 to R151) -/

theorem enterSoak_unheated (huser : s.sgc.user = .descale) (h : (boilerValue s).atLeast 700 = true) :
    (enterSoak s).lpd.loads.steamHeater.demand = 0 := by
  refine enterPhase_unheated (s := { s with sdu.soakCount := 0 }) huser ?_
  obtain ⟨v, hv, hle⟩ := (atLeast_iff _ _).1 h
  have hvalue : s.mu.boiler.value = .value v := hv
  have hbelow : ¬ v < 650 := by omega
  simp [phaseDemand, soakHeatDemand, boilerValue, hvalue, Reading.below, Reading.atLeast, hbelow, hle]

/-- The soak's heater on its two thresholds (R150). -/
theorem soak_heats (huser : s.sgc.user = .descale) (hlock : s.pu.trips.lock = false) (hphase : s.sdu.phase = .soak) :
    ((boilerValue s).atLeast 650 = false → (writePhaseDemand s).lpd.loads.steamHeater.demand = cappedHeat s 1000) ∧
    ((boilerValue s).atLeast 700 = true → (writePhaseDemand s).lpd.loads.steamHeater.demand = 0) ∧
    ((boilerValue s).atLeast 650 = true → (boilerValue s).atLeast 700 = false →
      (writePhaseDemand s).lpd.loads.steamHeater.demand = cappedHeat s s.lpd.loads.steamHeater.demand) := by
  have hdemand : phaseDemand s = soakHeatDemand s := by simp only [phaseDemand, hphase]
  rw [writePhaseDemand_demand huser hlock, hdemand, soakHeatDemand]
  unfold cappedHeat boilerValue
  cases hv : s.mu.boiler.value with
  | value v =>
    simp only [Reading.atLeast, Reading.below, Reading.isValue, decide_eq_true_iff, decide_eq_false_iff_not]
    refine ⟨fun hlow => ?_, fun hhigh => ?_, fun hlow hhigh => ?_⟩
    · simp [show v < 650 by omega]
    · simp [show ¬ v < 650 by omega, hhigh]
    · simp [show ¬ v < 650 by omega, hhigh]
  | invalid => simp [Reading.atLeast, Reading.below, Reading.isValue]
  | absent => simp [Reading.atLeast, Reading.below, Reading.isValue]

/-! ### Where LOCKING leads (R148, R149, R151) -/

/-- A lock that has come to LOCKED leads on to the phase it was driven in for, from wherever in the command (R148). -/
theorem followFor_locked (hlock : s.pu.trips.lock = false) (hphase : s.sdu.phase = .locking) (hlocked : s.pu.lock = .locked) :
    (s.sdu.lockingFrom = .recoverDrain → followFor (n + 2) s = requestDrain (enterDrainAgent s)) ∧
      (s.sdu.lockingFrom = .recoverRinse → followFor (n + 2) s = enterAwait .awaitRinse s) := by
  have hnext := sduNext_locking hlock hphase
  rw [if_pos hlocked] at hnext
  refine ⟨fun hfrom => ?_, fun hfrom => ?_⟩
  · rw [followFor_step hnext, afterLocking, hfrom]
    exact followFor_drain (by simpa [enterDrainAgent] using hlock) (by simp [awaitsDrain, enterDrainAgent])
  · rw [followFor_step hnext, afterLocking, hfrom]
    exact followFor_rest (sduNext_waits (by simp [waitsForUser, enterAwait]))

/-- A drain of the agent that follows LOCKING, at rest: the boiler drains where R133 lets it, with the heater off. -/
theorem agentDrained (hlock : s.pu.trips.lock = false) (huser : s.sgc.user = .descale) :
    sduNext (requestDrain (enterDrainAgent s)) = none ∧ isCold (requestDrain (enterDrainAgent s)) ∧
      (requestDrain (enterDrainAgent s)).sdu = { s.sdu with phase := .drainAgent, drained := false } ∧
      (requestDrain (enterDrainAgent s)).pu = s.pu ∧ (requestDrain (enterDrainAgent s)).sgc.user = .descale ∧
      (requestDrain (enterDrainAgent s)).lpd.loads.steamHeater.demand = 0 := by
  have hdemand : (enterDrainAgent s).lpd.loads.steamHeater.demand = 0 := enterPhase_unheated huser rfl
  refine ⟨sduNext_requestDrain (by simpa [enterDrainAgent] using hlock) (by simp [awaitsDrain, enterDrainAgent]),
    by simp [isCold, enterDrainAgent], by simp [enterDrainAgent, enterPhase_sdu], by simp [enterDrainAgent],
    by simpa [enterDrainAgent] using huser, ?_⟩
  rw [requestDrain_frame (by simpa [enterDrainAgent] using huser)]
  exact hdemand

/-- The rinse awaited after LOCKING, at rest. -/
theorem rinseAwaited (huser : s.sgc.user = .descale) :
    sduNext (enterAwait .awaitRinse s) = none ∧ isCold (enterAwait .awaitRinse s) ∧
      (enterAwait .awaitRinse s).sdu = { s.sdu with phase := .awaitRinse } ∧ (enterAwait .awaitRinse s).pu = s.pu ∧
      (enterAwait .awaitRinse s).sgc.user = .descale ∧ (enterAwait .awaitRinse s).lpd.loads.steamHeater.demand = 0 ∧
      (enterAwait .awaitRinse s).od.events.has .descaleWaitUser = true := by
  have hdemand : (enterAwait .awaitRinse s).lpd.loads.steamHeater.demand = 0 := enterPhase_unheated huser rfl
  exact ⟨sduNext_waits (by simp [waitsForUser, enterAwait]), by simp [isCold, enterAwait],
    by simp [enterAwait, enterPhase_sdu], by simp [enterAwait], by simpa [enterAwait] using huser, hdemand,
    by simp [enterAwait]⟩

/-! ### DONE (R119, R152) -/

theorem requestWrite_writing (s : State) : (requestWrite s).sdu.writing ≠ none := by
  unfold requestWrite
  split
  · simp
  next hw => exact hw

theorem stopSteam_writing (h : s.sdu.writing ≠ none) : (stopSteam s).sdu.writing ≠ none := by
  unfold stopSteam
  split
  case h_6 => exact h
  all_goals exact requestWrite_writing _

/-- The boiler is returned to the climate, and a write under way goes on (R119, R128). -/
theorem returnUser_leaves (h : s.sdu.writing ≠ none) :
    (returnUser s).sgc.user = .climate ∧ (returnUser s).sdu.writing ≠ none := by
  unfold returnUser
  dsimp only
  split
  · exact ⟨by simp, by simpa using h⟩
  · exact ⟨by simp, stopSteam_writing (by simpa using h)⟩

/-- The descale as it is done, before the boiler is returned: the account and the mark cleared, and a write requested (R152). -/
def cleared (s : State) : State := requestWrite (setAccount 0 { s with sdu.mark := .none })

theorem enterDone_eq (s : State) :
    enterDone s = raise .descaleDone (leaveStarvedWithoutWork (returnUser { cleared s with sdu.phase := .idle })) := rfl

theorem enterDone_clears (s : State) :
    (enterDone s).sdu.phase = .idle ∧ (enterDone s).sdu.account = 0 ∧ (enterDone s).sdu.mark = .none ∧
      (enterDone s).sgc.derate = false ∧ (enterDone s).sgc.user = .climate ∧ (enterDone s).sdu.writing ≠ none ∧
      (enterDone s).od.events.has .descaleDone = true := by
  obtain ⟨huser, hwriting⟩ := returnUser_leaves (s := { cleared s with sdu.phase := .idle }) (requestWrite_writing _)
  rw [enterDone_eq]
  exact ⟨by simp, by simp [cleared], by simp [cleared], by simp [cleared, derateOf], by simpa using huser,
    by simpa using hwriting, by simp⟩

/-- A boiler returned in OFF stays there, with demand 0 (R119, R121). -/
theorem enterDone_off (hoff : s.sgc.state = .off) :
    (enterDone s).sgc.state = .off ∧ (enterDone s).lpd.loads.steamHeater.demand = 0 := by
  have hcleared : (cleared s).sgc.state = .off := by simpa [cleared] using hoff
  have hreturned : returnUser { cleared s with sdu.phase := .idle } =
      writeHeater { cleared s with sdu.phase := .idle, sgc.user := .climate } := by
    have hstop : stopSteam (writeHeater { cleared s with sdu.phase := .idle, sgc.user := .climate }) =
        writeHeater { cleared s with sdu.phase := .idle, sgc.user := .climate } := by
      unfold stopSteam
      split <;> simp_all
    unfold returnUser
    dsimp only
    rw [hstop]
    exact ite_self _
  have hdemand := writeHeater_demand { cleared s with sdu.phase := .idle, sgc.user := .climate } rfl
  rw [enterDone_eq, hreturned]
  refine ⟨by simpa using hcleared, ?_⟩
  simp only [raise_keeps, leaveStarvedWithoutWork_keeps, hdemand]
  simp [heaterDemand, baseDemand, hcleared]

end

end Sys2Proof.Machine.Water
end

section
/-! The scale unit's heatings and fills at a publication: what they leave, by the temperature (R149 to R151). -/

namespace Sys2Proof.Machine.Water

open Sharing Cooking

section
variable {s t : State} {p : Phase}

/-- From `s` to `t` the descale has come to the phase, with the account as it was and the boiler still taken. -/
def inPhase (p : Phase) (s t : State) : Prop :=
  t.sdu.phase = p ∧ t.sdu.account = s.sdu.account ∧ t.sgc.user = .descale

/-- The boiler drains, from the drain's beginning, with the heater off (R133). -/
def drains (t : State) : Prop :=
  t.sgc.state = .drain ∧ t.sgc.drainCount = 0 ∧ t.lpd.loads.steamHeater.demand = 0

theorem heatedTo_of_below {v : Int} (h : (boilerValue s).atLeast v = false) : heatedTo v s = false := by simp [heatedTo, h]

/-! ### The soak's heating judged (R149) -/

/-- The soak's heating at a publication: over at 70.0 °C, and heated on below. -/
def soakJudged (s : State) : State := if heatedTo 700 s then enterSoak s else writePhaseDemand s

theorem soakJudged_frame (s : State) :
    (soakJudged s).sgc = s.sgc ∧ (soakJudged s).pu = s.pu ∧ (soakJudged s).sdu.account = s.sdu.account ∧
      (soakJudged s).sdu.mark = s.sdu.mark ∧ (soakJudged s).sdu.writing = s.sdu.writing := by
  unfold soakJudged
  split <;> simp [enterSoak]

theorem soakJudged_ends (huser : s.sgc.user = .descale) (h : heatedTo 700 s = true) :
    (soakJudged s).sdu.phase = .soak ∧ (soakJudged s).sdu.soakCount = 0 ∧
      (soakJudged s).lpd.loads.steamHeater.demand = 0 := by
  obtain ⟨hreached, -⟩ := (heatedTo_iff _ _).1 h
  rw [soakJudged, if_pos h]
  exact ⟨by simp [enterSoak], by simp [enterSoak], enterSoak_unheated huser hreached⟩

theorem soakJudged_heats (huser : s.sgc.user = .descale) (hlock : s.pu.trips.lock = false) (hphase : s.sdu.phase = .soakHeat)
    (h : heatedTo 700 s = false) :
    (soakJudged s).sdu.phase = .soakHeat ∧ (soakJudged s).lpd.loads.steamHeater.demand = cappedHeat s 1000 := by
  have hfull : phaseDemand s = fullHeat s := by simp only [phaseDemand, hphase]
  rw [soakJudged, if_neg (by simp [h])]
  exact ⟨by simpa using hphase, writePhaseDemand_fullHeat huser hlock hfull⟩

theorem soakJudged_phase (hphase : s.sdu.phase = .soakHeat) :
    (soakJudged s).sdu.phase = .soakHeat ∨ (soakJudged s).sdu.phase = .soak := by
  unfold soakJudged
  split
  · exact .inr (by simp [enterSoak])
  · exact .inl (by simpa using hphase)

/-! ### A rinse's heating judged (R151) -/

/-- A rinse's heating at a publication: over at 90.0 °C, in its drain, and heated on below. -/
def rinseJudged (s : State) : State := if heatedTo 900 s then requestDrain (enterRinseDrain s) else writePhaseDemand s

theorem rinseJudged_frame (s : State) :
    (rinseJudged s).sgc.user = s.sgc.user ∧ (rinseJudged s).sdu.account = s.sdu.account ∧
      (rinseJudged s).sdu.rinseCycle = s.sdu.rinseCycle := by
  unfold rinseJudged
  split <;> simp [enterRinseDrain]

theorem rinseJudged_ends (huser : s.sgc.user = .descale) (hstate : s.sgc.state = .heat) (h : heatedTo 900 s = true) :
    (rinseJudged s).sdu.phase = .rinse ∧ (rinseJudged s).sdu.rinseStep = .drain ∧ drains (rinseJudged s) := by
  have huser' : (enterRinseDrain s).sgc.user = .descale := by simpa [enterRinseDrain] using huser
  have hdemand : (enterRinseDrain s).lpd.loads.steamHeater.demand = 0 := enterPhase_unheated huser rfl
  obtain ⟨hdrain, hcount⟩ := requestDrain_state (s := enterRinseDrain s) (by simp [enterRinseDrain, hstate])
  rw [rinseJudged, if_pos h]
  refine ⟨by simp [enterRinseDrain], by simp [enterRinseDrain], hdrain, hcount, ?_⟩
  rw [requestDrain_frame huser']
  exact hdemand

theorem rinseJudged_heats (huser : s.sgc.user = .descale) (hlock : s.pu.trips.lock = false) (hphase : s.sdu.phase = .rinse)
    (hstep : s.sdu.rinseStep = .heat) (h : heatedTo 900 s = false) :
    (rinseJudged s).sdu = s.sdu ∧ (rinseJudged s).sgc = s.sgc ∧
      (rinseJudged s).lpd.loads.steamHeater.demand = cappedHeat s 1000 := by
  have hfull : phaseDemand s = fullHeat s := by simp only [phaseDemand, hphase, hstep, if_true]
  rw [rinseJudged, if_neg (by simp [h])]
  exact ⟨by simp, by simp, writePhaseDemand_fullHeat huser hlock hfull⟩

/-! ### A heating whose boiler is found OFF (R149, R153) -/

/-- A heating, with its boiler filled again where it is OFF. -/
def reheated (s : State) : State := if s.sgc.state = .off then requestFill s else s

theorem reheated_on (h : s.sgc.state ≠ .off) : reheated s = s := if_neg h

theorem reheated_state (huser : s.sgc.user = .descale) : (reheated s).sgc.state ≠ .off := by
  unfold reheated
  split
  · intro hoff
    have hsettled := requestFill_settles huser
    simp [fillTakes, hoff] at hsettled
  next hon => exact hon

theorem reheated_frame (huser : s.sgc.user = .descale) :
    (reheated s).sdu = s.sdu ∧ (reheated s).lpd.loads.steamHeater = s.lpd.loads.steamHeater ∧
      (reheated s).sgc.user = .descale ∧ (reheated s).sgc.derate = s.sgc.derate ∧ (reheated s).mu = s.mu ∧
      (reheated s).pu = s.pu := by
  unfold reheated
  split
  · obtain ⟨hsdu, hheater⟩ := requestFill_alone huser
    exact ⟨hsdu, hheater, by simpa using huser, by simp, by simp, by simp⟩
  · exact ⟨rfl, rfl, huser, rfl, rfl, rfl⟩

/-! ### The publication, phase by phase -/

section
variable (huser : s.sgc.user = .descale) (hlock : s.pu.trips.lock = false)
include huser hlock

theorem sduFollow_heats (h : heatsBoiler s) : sduFollow s = reheated s := followFor_heats hlock h huser

theorem reheated_unlocked : (reheated s).pu.trips.lock = false := by
  obtain ⟨-, -, -, -, -, hpu⟩ := reheated_frame huser
  rw [hpu, hlock]

theorem sduPublication_heatsSoak (h : s.sdu.phase = .soakHeat) : sduPublication s = soakJudged (reheated s) := by
  obtain ⟨hsdu, -⟩ := reheated_frame huser
  exact sduPublication_soakHeat (reheated_unlocked huser hlock) (sduFollow_heats huser hlock (.inl h)) (by rw [hsdu, h])
    (reheated_state huser)

theorem sduPublication_soaks (h : s.sdu.phase = .soak) (hcount : s.sdu.soakCount < 1200) :
    sduPublication s = writePhaseDemand (reheated s) := by
  obtain ⟨hsdu, -⟩ := reheated_frame huser
  exact sduPublication_soak (reheated_unlocked huser hlock) (sduFollow_heats huser hlock (.inr (.inl ⟨h, hcount⟩)))
    (by rw [hsdu, h]) (by rw [hsdu]; exact hcount) (reheated_state huser)

theorem sduPublication_heatsRinse (h : s.sdu.phase = .rinse) (hstep : s.sdu.rinseStep = .heat) :
    sduPublication s = rinseJudged (reheated s) := by
  obtain ⟨hsdu, -⟩ := reheated_frame huser
  exact sduPublication_rinse (reheated_unlocked huser hlock) (sduFollow_heats huser hlock (.inr (.inr ⟨h, hstep⟩)))
    (by rw [hsdu, h]) (by rw [hsdu, hstep]) (reheated_state huser)

/-- A soak's fill that has been asked for: where it is full its heating is judged at once. -/
theorem sduPublication_soakFilled (hfollow : sduFollow t = filled s) (h : s.sdu.phase = .soakFill) :
    sduPublication t =
      if (requestFill s).sgc.state = .heat then soakJudged (enterPhase .soakHeat (requestFill s)) else requestFill s := by
  have hrests := sduNext_filled hlock (.inl h) huser
  have hkept : (requestFill s).sdu.phase = .soakFill := by simpa using h
  split
  next hheat =>
    rw [filled_heat hheat, afterFill_soak hkept] at hfollow
    exact sduPublication_soakHeat (by simpa using hlock) hfollow (by simp) (by simp [hheat])
  next hheat =>
    rw [filled_rests hheat] at hfollow hrests
    exact sduPublication_cold hfollow hrests (by simp [isCold, h])

/-- A rinse's fill that has been asked for: where it is full its heating is judged at once. -/
theorem sduPublication_rinseFilled (h : s.sdu.phase = .rinse) (hstep : s.sdu.rinseStep = .fill) :
    sduPublication s =
      if (requestFill s).sgc.state = .heat then rinseJudged (enterRinseHeat (requestFill s)) else requestFill s := by
  have hwaits : awaitsFill s := .inr ⟨h, hstep⟩
  have hfollow : sduFollow s = filled s := followFor_fill hlock hwaits huser
  have hrests := sduNext_filled hlock hwaits huser
  have hkept : (requestFill s).sdu = s.sdu := (requestFill_alone huser).1
  split
  next hheat =>
    rw [filled_heat hheat, afterFill_rinse (by rw [hkept, h])] at hfollow
    exact sduPublication_rinse (by simpa [enterRinseHeat] using hlock) hfollow (by simp [enterRinseHeat])
      (by simp [enterRinseHeat]) (by simp [enterRinseHeat, hheat])
  next hheat =>
    rw [filled_rests hheat] at hfollow hrests
    exact sduPublication_cold hfollow hrests (by simp [isCold, hkept, h, hstep])

end

end

end Sys2Proof.Machine.Water
end

section
/-! LOCKING at a publication: the travel waited for, and the phases its end leads to (R148, R149, R156). -/

namespace Sys2Proof.Machine.Water

open Sharing Cooking

section
variable {s t : State} {first : Bool}

/-- The boiler's part of a publication and the scale unit's after it. -/
def descaled (first : Bool) (s : State) : State := sduPublication (boilerPublication first s)

theorem cappedHeat_congr (hmu : t.mu = s.mu) (hderate : t.sgc.derate = s.sgc.derate) (d : Nat) :
    cappedHeat t d = cappedHeat s d := by rw [cappedHeat, cappedHeat, hmu, hderate]

theorem enterSoakFill_unheated (huser : t.sgc.user = .descale) : (enterSoakFill t).lpd.loads.steamHeater.demand = 0 := by
  have hdemand : (enterPhase .soakFill t).lpd.loads.steamHeater.demand = 0 := enterPhase_unheated huser rfl
  simpa [enterSoakFill] using hdemand

theorem enterSoakFill_writing (h : t.sdu.mark ≠ .agentIn) : (enterSoakFill t).sdu.writing ≠ none := by
  rw [enterSoakFill, setMark, if_neg (by simpa using h)]
  exact requestWrite_writing _

section
variable (huser : s.sgc.user = .descale) (hlock : s.pu.trips.lock = false)

/-! ### What the boiler's part leaves (R117, R119) -/

section
include huser

theorem boilerPublication_serves : (boilerPublication first s).sgc.user = .descale := by simpa using huser

theorem boilerPublication_heater :
    (boilerPublication first s).lpd.loads.steamHeater = s.lpd.loads.steamHeater := (unheated_boilerPublication huser).2

/-- What is fixed while a heating's boiler is moved and filled again. -/
theorem reheated_boilerPublication_frame :
    (reheated (boilerPublication first s)).lpd.loads.steamHeater = s.lpd.loads.steamHeater ∧
      (reheated (boilerPublication first s)).sgc.user = .descale ∧
      (reheated (boilerPublication first s)).mu = s.mu ∧
      ∀ d, cappedHeat (reheated (boilerPublication first s)) d = cappedHeat s d := by
  obtain ⟨-, hheater, huser', hderate, hmu, -⟩ := reheated_frame (boilerPublication_serves (first := first) huser)
  have hmu' : (reheated (boilerPublication first s)).mu = s.mu := by simpa using hmu
  exact ⟨hheater.trans (boilerPublication_heater huser), huser', hmu', cappedHeat_congr hmu' (by simpa using hderate)⟩

end

include hlock

theorem boilerPublication_unlocked : (boilerPublication first s).pu.trips.lock = false := by simpa using hlock

/-! ### LOCKING (R148, R149) -/

theorem descaled_locking (h : s.sdu.phase = .locking) (hstate : s.pu.lock ≠ .locked) :
    descaled first s = boilerPublication first s := by
  have hrests : sduNext (boilerPublication first s) = none := by
    rw [sduNext_locking (boilerPublication_unlocked hlock) (by simpa using h), if_neg (by simpa using hstate)]
  exact sduPublication_cold (sduFollow_rest hrests) hrests (by simp [isCold, h])

/-- LOCKING's end, from AWAIT_AGENT: the agent's fill, as the scale unit enters it. -/
theorem descaled_agent (huser : s.sgc.user = .descale) (h : s.sdu.phase = .locking) (hlocked : s.pu.lock = .locked)
    (hfrom : s.sdu.lockingFrom = .awaitAgent) :
    descaled first s =
      if (requestFill (enterSoakFill (boilerPublication first s))).sgc.state = .heat then
        soakJudged (enterPhase .soakHeat (requestFill (enterSoakFill (boilerPublication first s))))
      else requestFill (enterSoakFill (boilerPublication first s)) := by
  have hfollow := sduFollow_agent (s := boilerPublication first s) (by simpa using hlock) (by simpa using h)
    (by simpa using hlocked) (by simpa using hfrom) (by simpa using huser)
  exact sduPublication_soakFilled (by simpa [enterSoakFill] using huser) (by simpa [enterSoakFill] using hlock) hfollow
    (by simp [enterSoakFill])

/-- What LOCKING's end leaves whatever the fill finds. -/
theorem descaled_agent_frame (huser : s.sgc.user = .descale) (h : s.sdu.phase = .locking) (hlocked : s.pu.lock = .locked)
    (hfrom : s.sdu.lockingFrom = .awaitAgent) :
    (descaled first s).pu = s.pu ∧ (descaled first s).sdu.mark = .agentIn ∧
      (descaled first s).sdu.phase ∈ [.soakFill, .soakHeat, .soak] ∧
      (s.sdu.mark ≠ .agentIn → (descaled first s).sdu.writing ≠ none) := by
  have hwriting (hmark : s.sdu.mark ≠ .agentIn) : (enterSoakFill (boilerPublication first s)).sdu.writing ≠ none :=
    enterSoakFill_writing (by simpa using hmark)
  rw [descaled_agent hlock huser h hlocked hfrom]
  split
  · obtain ⟨-, hpu, -, hmark, hwrites⟩ :=
      soakJudged_frame (enterPhase .soakHeat (requestFill (enterSoakFill (boilerPublication first s))))
    have hmoved := soakJudged_phase (s := enterPhase .soakHeat (requestFill (enterSoakFill (boilerPublication first s))))
      (by simp)
    rw [hpu, hmark, hwrites]
    refine ⟨by simp [enterSoakFill], by simp [enterSoakFill], ?_, by simpa using hwriting⟩
    rcases hmoved with hmoved | hmoved <;> simp [hmoved]
  · exact ⟨by simp [enterSoakFill], by simp [enterSoakFill], by simp [enterSoakFill], by simpa using hwriting⟩

/-- A boiler in OFF with the tank ready: the agent's fill begins. -/
theorem descaled_agent_fills (hcool : (boilerValue s).above 1600 = false) (huser : s.sgc.user = .descale)
    (h : s.sdu.phase = .locking) (hlocked : s.pu.lock = .locked) (hfrom : s.sdu.lockingFrom = .awaitAgent)
    (hoff : s.sgc.state = .off) (htank : s.mu.tank = .present) (hlow : boilerFull s = false) :
    inPhase .soakFill s (descaled first s) ∧ (descaled first s).sgc.state = .fill ∧ (descaled first s).sgc.pulses = 1 ∧
      (descaled first s).sdu.meteringSum = s.sdu.meteringSum ∧
      (descaled first s).lpd.loads.steamHeater.demand = 0 := by
  obtain ⟨hrests, hsum⟩ := boilerPublication_resting (first := first) hcool hoff
  obtain ⟨e, he⟩ : ∃ e, e = enterSoakFill (boilerPublication first s) := ⟨_, rfl⟩
  have hsgc : e.sgc = (boilerPublication first s).sgc := by simp [he, enterSoakFill]
  have huser' : e.sgc.user = .descale := by simpa [hsgc] using huser
  have hmu : e.mu = s.mu := by simp [he, enterSoakFill]
  have htakes : fillTakes e = true := by
    rw [fillTakes_iff, hsgc]
    simp only [List.mem_cons, List.not_mem_nil, or_false] at hrests ⊢
    tauto
  obtain ⟨-, hfills, -⟩ := requestFill_finds htakes huser'
  obtain ⟨hfill, hpulses⟩ := hfills (by simpa [boilerFull, lowWet, highWet, hmu] using hlow) (by rw [hmu, htank])
  obtain ⟨hsdu, hheater⟩ := requestFill_alone huser'
  have hunheated : e.lpd.loads.steamHeater.demand = 0 := by
    rw [he]
    exact enterSoakFill_unheated (by simpa using huser)
  rw [descaled_agent hlock huser h hlocked hfrom, ← he, if_neg (by simp [hfill]), hsdu, hheater]
  exact ⟨⟨by simp [he, enterSoakFill], by simp [he, enterSoakFill], by simpa using huser'⟩, hfill, hpulses,
    by simp [he, enterSoakFill, hsum], hunheated⟩

/-- LOCKING's end in a recovery: the agent's drain. -/
theorem descaled_recoverDrain (hcool : (boilerValue s).above 1600 = false) (huser : s.sgc.user = .descale)
    (h : s.sdu.phase = .locking) (hlocked : s.pu.lock = .locked) (hfrom : s.sdu.lockingFrom = .recoverDrain) :
    (descaled first s).pu = s.pu ∧ inPhase .drainAgent s (descaled first s) ∧ (descaled first s).sdu.mark = s.sdu.mark ∧
      (descaled first s).lpd.loads.steamHeater.demand = 0 ∧
      (s.sgc.state ∈ [.off, .cool] → drains (descaled first s)) := by
  obtain ⟨hfollow, -⟩ := followFor_locked (s := boilerPublication first s) (n := 6) (by simpa using hlock) (by simpa using h)
    (by simpa using hlocked)
  obtain ⟨hrests, hcold, hsdu, hpu, huser', hdemand⟩ :=
    agentDrained (s := boilerPublication first s) (by simpa using hlock) (by simpa using huser)
  rw [descaled, sduPublication_cold (hfollow (by simpa using hfrom)) hrests hcold, inPhase, hsdu, hpu]
  refine ⟨by simp, ⟨rfl, by simp, huser'⟩, by simp, hdemand, fun hstate => ?_⟩
  have hstays : (boilerPublication first s).sgc.state ∈ [.off, .cool] := by
    simp only [List.mem_cons, List.not_mem_nil, or_false] at hstate
    rcases hstate with hoff | hcooling
    · exact (boilerPublication_resting hcool hoff).1
    · simp [boilerPublication_stays hcool huser (.inl hcooling), hcooling]
  obtain ⟨hdrain, hcount⟩ := requestDrain_state (s := enterDrainAgent (boilerPublication first s)) (by
    simp only [List.mem_cons, List.not_mem_nil, or_false] at hstays
    rcases hstays with hstays | hstays <;> simp [enterDrainAgent, hstays])
  exact ⟨hdrain, hcount, hdemand⟩

/-- LOCKING's end in a recovery: the rinse is awaited. -/
theorem descaled_recoverRinse (huser : s.sgc.user = .descale) (h : s.sdu.phase = .locking) (hlocked : s.pu.lock = .locked)
    (hfrom : s.sdu.lockingFrom = .recoverRinse) :
    (descaled first s).pu = s.pu ∧ inPhase .awaitRinse s (descaled first s) ∧ (descaled first s).sdu.mark = s.sdu.mark ∧
      (descaled first s).lpd.loads.steamHeater.demand = 0 ∧
      (descaled first s).od.events.has .descaleWaitUser = true := by
  obtain ⟨-, hfollow⟩ := followFor_locked (s := boilerPublication first s) (n := 6) (by simpa using hlock) (by simpa using h)
    (by simpa using hlocked)
  obtain ⟨hrests, hcold, hsdu, hpu, huser', hdemand, htold⟩ :=
    rinseAwaited (s := boilerPublication first s) (by simpa using huser)
  rw [descaled, sduPublication_cold (hfollow (by simpa using hfrom)) hrests hcold, inPhase, hsdu, hpu]
  exact ⟨by simp, ⟨rfl, by simp, huser'⟩, by simp, hdemand, htold⟩

end

end

end Sys2Proof.Machine.Water
end

section
/-! The descale's fills and heatings at a publication, after the boiler's part of it (R149 to R151). -/

namespace Sys2Proof.Machine.Water

open Sharing Cooking

section
variable {s : State} {first : Bool}

section
variable (hcool : (boilerValue s).above 1600 = false) (huser : s.sgc.user = .descale) (hlock : s.pu.trips.lock = false)

/-! ### The fills (R149, R151) -/

section
include hcool huser

/-- A boiler that was filling waits for no FILL request. -/
theorem requestFill_boilerPublication (h : s.sgc.state = .fill) :
    requestFill (boilerPublication first s) = boilerPublication first s := by
  obtain ⟨hheat, hfills, -⟩ := boilerPublication_fills (first := first) hcool huser h
  refine requestFill_waits ?_
  cases hfull : boilerFull s with
  | true => simp [fillTakes, hheat hfull]
  | false => rcases hfills hfull with hstate | hstate <;> simp [fillTakes, hstate]

/-- A fill that ends in HEAT is followed at once; until then the boiler fills alone. -/
theorem filled_or_fills {v : State} (hfill : s.sgc.state = .fill) :
    (if (boilerPublication first s).sgc.state = .heat then v else boilerPublication first s) =
      if boilerFull s = true then v else boilerPublication first s := by
  obtain ⟨hheat, hfills, -⟩ := boilerPublication_fills (first := first) hcool huser hfill
  cases hfull : boilerFull s with
  | true => rw [if_pos (hheat hfull), if_pos rfl]
  | false =>
    have hlow : (boilerPublication first s).sgc.state ≠ .heat := by rcases hfills hfull with hstate | hstate <;> simp [hstate]
    rw [if_neg hlow, if_neg (by simp)]

include hlock

theorem descaled_soakFill_eq (h : s.sdu.phase = .soakFill) (hfill : s.sgc.state = .fill) :
    descaled first s =
      if boilerFull s = true then soakJudged (enterPhase .soakHeat (boilerPublication first s))
      else boilerPublication first s := by
  have hfollow : sduFollow (boilerPublication first s) = filled (boilerPublication first s) :=
    followFor_fill (by simpa using hlock) (.inl (by simpa using h)) (by simpa using huser)
  have hjudged := sduPublication_soakFilled (by simpa using huser) (by simpa using hlock) hfollow (by simpa using h)
  rwa [requestFill_boilerPublication hcool huser hfill, filled_or_fills hcool huser hfill] at hjudged

theorem descaled_soakFill (h : s.sdu.phase = .soakFill) (hfill : s.sgc.state = .fill) :
    (boilerFull s = true → (boilerValue s).atLeast 700 = false →
      inPhase .soakHeat s (descaled first s) ∧ (descaled first s).sgc.state = .heat ∧
        (descaled first s).lpd.loads.steamHeater.demand = cappedHeat s 1000) ∧
    (boilerFull s = true → (boilerValue s).atLeast 700 = true →
      inPhase .soak s (descaled first s) ∧ (descaled first s).sgc.state = .heat ∧
        (descaled first s).lpd.loads.steamHeater.demand = 0) ∧
    (boilerFull s = false → s.mu.tank = .present → s.sgc.pulseTimer ≠ none →
      inPhase .soakFill s (descaled first s) ∧ (descaled first s).sgc = s.sgc ∧ (descaled first s).sdu = s.sdu) ∧
    (boilerFull s = false → s.mu.tank ≠ .present →
      inPhase .soakFill s (descaled first s) ∧ (descaled first s).sgc.state = .waitWater ∧
        (descaled first s).od.events.has .descaleWaitUser = true) := by
  obtain ⟨hheat, -, hgoesOn, hwaits⟩ := boilerPublication_fills (first := first) hcool huser hfill
  obtain ⟨r, hr⟩ : ∃ r, r = enterPhase .soakHeat (boilerPublication first s) := ⟨_, rfl⟩
  have hkept : r.sgc = (boilerPublication first s).sgc := by simp [hr]
  have hmu : r.mu = s.mu := by simp [hr]
  have huser' : r.sgc.user = .descale := by simpa [hkept] using huser
  obtain ⟨hsgc, -, haccount, -⟩ := soakJudged_frame r
  rw [descaled_soakFill_eq hcool huser hlock h hfill, ← hr]
  refine ⟨fun hfull hbelow => ?_, fun hfull hreached => ?_, fun hlow htank htimer => ?_, fun hlow htank => ?_⟩
  · obtain ⟨hphase, hdemand⟩ := soakJudged_heats huser' (by simpa [hr] using hlock) (by simp [hr])
      (heatedTo_of_below (by rw [boilerValue, hmu]; exact hbelow))
    rw [if_pos hfull, inPhase, hphase, haccount, hsgc, hdemand, cappedHeat_congr hmu (by simp [hkept])]
    exact ⟨⟨rfl, by simp [hr], huser'⟩, by rw [hkept, hheat hfull], rfl⟩
  · have hstate : r.sgc.state = .heat := by rw [hkept, hheat hfull]
    obtain ⟨hphase, -, hdemand⟩ := soakJudged_ends huser' <| (heatedTo_iff _ _).2
      ⟨by rw [boilerValue, hmu]; exact hreached, by simp [hstate]⟩
    rw [if_pos hfull, inPhase, hphase, haccount, hsgc, hdemand]
    exact ⟨⟨rfl, by simp [hr], huser'⟩, hstate, rfl⟩
  · rw [if_neg (by simp [hlow]), hgoesOn hlow htank htimer]
    exact ⟨⟨h, rfl, huser⟩, rfl, rfl⟩
  · obtain ⟨-, htold⟩ := enterWaitWater_descale false huser
    rw [if_neg (by simp [hlow]), hwaits hlow htank]
    exact ⟨⟨by simpa using h, by simp, by simpa using huser⟩, by simp, htold (by simp [h])⟩

theorem descaled_rinseFill_eq (h : s.sdu.phase = .rinse) (hstep : s.sdu.rinseStep = .fill) (hfill : s.sgc.state = .fill) :
    descaled first s =
      if boilerFull s = true then rinseJudged (enterRinseHeat (boilerPublication first s))
      else boilerPublication first s := by
  have hjudged := sduPublication_rinseFilled (s := boilerPublication first s) (by simpa using huser) (by simpa using hlock)
    (by simpa using h) (by simpa using hstep)
  rwa [requestFill_boilerPublication hcool huser hfill, filled_or_fills hcool huser hfill] at hjudged

theorem descaled_rinseFill (h : s.sdu.phase = .rinse) (hstep : s.sdu.rinseStep = .fill) (hfill : s.sgc.state = .fill) :
    (descaled first s).sdu.rinseCycle = s.sdu.rinseCycle ∧
    (boilerFull s = true → (boilerValue s).atLeast 900 = false →
      inPhase .rinse s (descaled first s) ∧ (descaled first s).sdu.rinseStep = .heat ∧
        (descaled first s).sdu.heatingTime = 0 ∧ (descaled first s).sgc.state = .heat ∧
        (descaled first s).lpd.loads.steamHeater.demand = cappedHeat s 1000) ∧
    (boilerFull s = true → (boilerValue s).atLeast 900 = true →
      inPhase .rinse s (descaled first s) ∧ (descaled first s).sdu.rinseStep = .drain ∧ drains (descaled first s)) ∧
    (boilerFull s = false → s.mu.tank ≠ .present →
      inPhase .rinse s (descaled first s) ∧ (descaled first s).sdu.rinseStep = .fill ∧
        (descaled first s).sgc.state = .waitWater ∧ (descaled first s).od.events.has .tankEmpty = true) := by
  obtain ⟨hheat, -, -, hwaits⟩ := boilerPublication_fills (first := first) hcool huser hfill
  obtain ⟨r, hr⟩ : ∃ r, r = enterRinseHeat (boilerPublication first s) := ⟨_, rfl⟩
  have hsgc : r.sgc = (boilerPublication first s).sgc := by simp [hr, enterRinseHeat]
  have hmu : r.mu = s.mu := by simp [hr, enterRinseHeat]
  have huser' : r.sgc.user = .descale := by simpa [hsgc] using huser
  obtain ⟨hkeptUser, haccount, hcycle⟩ := rinseJudged_frame r
  rw [descaled_rinseFill_eq hcool huser hlock h hstep hfill, ← hr]
  refine ⟨?_, fun hfull hbelow => ?_, fun hfull hreached => ?_, fun hlow htank => ?_⟩
  · split
    · rw [hcycle]
      simp [hr, enterRinseHeat]
    · simp
  · obtain ⟨hsdu, hkept, hdemand⟩ := rinseJudged_heats huser' (by simpa [hr, enterRinseHeat] using hlock)
      (by simp [hr, enterRinseHeat]) (by simp [hr, enterRinseHeat])
      (heatedTo_of_below (by rw [boilerValue, hmu]; exact hbelow))
    rw [if_pos hfull, inPhase, hkeptUser, hsdu, hkept, hdemand, cappedHeat_congr hmu (by simp [hsgc])]
    exact ⟨⟨by simp [hr, enterRinseHeat], by simp [hr, enterRinseHeat], huser'⟩, by simp [hr, enterRinseHeat],
      by simp [hr, enterRinseHeat], by rw [hsgc, hheat hfull], rfl⟩
  · have hstate : r.sgc.state = .heat := by rw [hsgc, hheat hfull]
    obtain ⟨hphase, hdrainStep, hdrains⟩ := rinseJudged_ends huser' hstate <| (heatedTo_iff _ _).2
      ⟨by rw [boilerValue, hmu]; exact hreached, by simp [hstate]⟩
    rw [if_pos hfull, inPhase, hphase, haccount, hkeptUser]
    exact ⟨⟨rfl, by simp [hr, enterRinseHeat], huser'⟩, hdrainStep, hdrains⟩
  · obtain ⟨htold, -⟩ := enterWaitWater_descale false huser
    rw [if_neg (by simp [hlow]), hwaits hlow htank]
    exact ⟨⟨by simpa using h, by simp, by simpa using huser⟩, by simpa using hstep, by simp, htold h⟩

end

/-! ### The heatings (R149 to R151) -/

section
include huser hlock

theorem descaled_soakHeat_eq (h : s.sdu.phase = .soakHeat) :
    descaled first s = soakJudged (reheated (boilerPublication first s)) :=
  sduPublication_heatsSoak (by simpa using huser) (by simpa using hlock) (by simpa using h)

theorem descaled_rinseHeat_eq (h : s.sdu.phase = .rinse) (hstep : s.sdu.rinseStep = .heat) :
    descaled first s = rinseJudged (reheated (boilerPublication first s)) :=
  sduPublication_heatsRinse (by simpa using huser) (by simpa using hlock) (by simpa using h) (by simpa using hstep)

end

section
include hcool huser

/-- A boiler that stands wet in HEAT, or in DRY_FAULT, is neither moved nor filled again. -/
theorem reheated_boilerPublication_same (h : (s.sgc.state = .heat ∧ lowWet s = true) ∨ s.sgc.state = .dryFault) :
    reheated (boilerPublication first s) = s := by
  rcases h with ⟨hheat, hwet⟩ | hdry
  · obtain ⟨hstays, -⟩ := boilerPublication_heats (first := first) hcool huser hheat
    rw [hstays hwet, reheated_on (by simp [hheat])]
  · rw [boilerPublication_stays hcool huser (.inr (.inr hdry)), reheated_on (by simp [hdry])]

include hlock

theorem descaled_soakHeat (h : s.sdu.phase = .soakHeat) :
    (s.sgc.state = .heat → lowWet s = true → (boilerValue s).atLeast 700 = true →
      inPhase .soak s (descaled first s) ∧ (descaled first s).sdu.soakCount = 0 ∧
        (descaled first s).lpd.loads.steamHeater.demand = 0 ∧ (descaled first s).sgc.state = .heat) ∧
    ((boilerValue s).atLeast 700 = false →
      inPhase .soakHeat s (descaled first s) ∧
        (descaled first s).lpd.loads.steamHeater.demand = cappedHeat s 1000) ∧
    (s.sgc.state = .heat → lowWet s = false → s.mu.tank = .present → (descaled first s).sgc.state = .fill) ∧
    (s.sgc.state = .dryFault → inPhase .soakHeat s (descaled first s) ∧ (descaled first s).sgc.state = .dryFault) := by
  have heq := descaled_soakHeat_eq (first := first) huser hlock h
  refine ⟨fun hheat hwet hreached => ?_, fun hbelow => ?_, fun hheat hdry htank => ?_, fun hdry => ?_⟩
  · obtain ⟨hphase, hcount, hdemand⟩ := soakJudged_ends huser <| (heatedTo_iff _ _).2 ⟨hreached, by simp [hheat]⟩
    obtain ⟨hsgc, -, haccount, -⟩ := soakJudged_frame s
    rw [heq, reheated_boilerPublication_same hcool huser (.inl ⟨hheat, hwet⟩), inPhase, hphase, haccount, hsgc]
    exact ⟨⟨rfl, rfl, huser⟩, hcount, hdemand, hheat⟩
  · obtain ⟨-, huser', hmu, hcapped⟩ := reheated_boilerPublication_frame (first := first) huser
    obtain ⟨hsdu, -, -, -, -, hpu⟩ := reheated_frame (boilerPublication_serves (first := first) huser)
    obtain ⟨hsgc, -, haccount, -⟩ := soakJudged_frame (reheated (boilerPublication first s))
    obtain ⟨hphase, hdemand⟩ := soakJudged_heats huser' (by simpa [hpu] using hlock) (by simpa [hsdu] using h)
      (heatedTo_of_below (by rw [boilerValue, hmu]; exact hbelow))
    rw [heq, inPhase, hphase, haccount, hsgc, hdemand, hcapped, hsdu]
    exact ⟨⟨rfl, by simp, huser'⟩, rfl⟩
  · obtain ⟨-, hfills⟩ := boilerPublication_heats (first := first) hcool huser hheat
    have hfill := hfills hdry htank
    obtain ⟨hsgc, -⟩ := soakJudged_frame (reheated (boilerPublication first s))
    rw [heq, hsgc, reheated_on (by simp [hfill]), hfill]
  · have hcold : heatedTo 700 s = false := by simp [heatedTo, boilerDried, hdry]
    obtain ⟨hphase, -⟩ := soakJudged_heats huser hlock h hcold
    obtain ⟨hsgc, -, haccount, -⟩ := soakJudged_frame s
    rw [heq, reheated_boilerPublication_same hcool huser (.inr hdry), inPhase, hphase, haccount, hsgc]
    exact ⟨⟨rfl, rfl, huser⟩, hdry⟩

theorem descaled_rinseHeat (h : s.sdu.phase = .rinse) (hstep : s.sdu.rinseStep = .heat) :
    (descaled first s).sdu.rinseCycle = s.sdu.rinseCycle ∧
    (s.sgc.state = .heat → lowWet s = true → (boilerValue s).atLeast 900 = true →
      inPhase .rinse s (descaled first s) ∧ (descaled first s).sdu.rinseStep = .drain ∧ drains (descaled first s)) ∧
    ((boilerValue s).atLeast 900 = false ∨ s.sgc.state = .dryFault →
      inPhase .rinse s (descaled first s) ∧ (descaled first s).sdu.rinseStep = .heat ∧
        (descaled first s).sdu.heatingTime = s.sdu.heatingTime ∧
        (descaled first s).lpd.loads.steamHeater.demand = cappedHeat s 1000) := by
  obtain ⟨-, huser', hmu, hcapped⟩ := reheated_boilerPublication_frame (first := first) huser
  obtain ⟨hsdu, -, -, -, -, hpu⟩ := reheated_frame (boilerPublication_serves (first := first) huser)
  obtain ⟨-, -, hcycle⟩ := rinseJudged_frame (reheated (boilerPublication first s))
  rw [descaled_rinseHeat_eq huser hlock h hstep]
  refine ⟨by simp [hcycle, hsdu], fun hheat hwet hreached => ?_, fun hcold => ?_⟩
  · obtain ⟨hphase, hdrainStep, hdrains⟩ := rinseJudged_ends huser hheat <| (heatedTo_iff _ _).2 ⟨hreached, by simp [hheat]⟩
    obtain ⟨hkeptUser, haccount, -⟩ := rinseJudged_frame s
    rw [reheated_boilerPublication_same hcool huser (.inl ⟨hheat, hwet⟩), inPhase, hphase, haccount, hkeptUser]
    exact ⟨⟨rfl, rfl, huser⟩, hdrainStep, hdrains⟩
  · have hunheated : heatedTo 900 (reheated (boilerPublication first s)) = false := by
      rcases hcold with hbelow | hdry
      · exact heatedTo_of_below (by rw [boilerValue, hmu]; exact hbelow)
      · rw [reheated_boilerPublication_same hcool huser (.inr hdry)]
        simp [heatedTo, boilerDried, hdry]
    obtain ⟨hkept, hsgc, hdemand⟩ := rinseJudged_heats huser' (by simpa [hpu] using hlock) (by simpa [hsdu] using h)
      (by simpa [hsdu] using hstep) hunheated
    rw [inPhase, hkept, hsgc, hdemand, hcapped, hsdu]
    exact ⟨⟨by simpa using h, by simp, huser'⟩, by simpa using hstep, by simp, rfl⟩

omit hcool in
theorem descaled_soak (h : s.sdu.phase = .soak) (hcount : s.sdu.soakCount < 1200) :
    inPhase .soak s (descaled first s) ∧ (descaled first s).sdu.soakCount = s.sdu.soakCount ∧
      ((boilerValue s).atLeast 650 = false →
        (descaled first s).lpd.loads.steamHeater.demand = cappedHeat s 1000) ∧
      ((boilerValue s).atLeast 700 = true → (descaled first s).lpd.loads.steamHeater.demand = 0) ∧
      ((boilerValue s).atLeast 650 = true → (boilerValue s).atLeast 700 = false →
        (descaled first s).lpd.loads.steamHeater.demand = cappedHeat s s.lpd.loads.steamHeater.demand) := by
  have heq : descaled first s = writePhaseDemand (reheated (boilerPublication first s)) :=
    sduPublication_soaks (by simpa using huser) (by simpa using hlock) (by simpa using h) (by simpa using hcount)
  obtain ⟨hheater, huser', hmu, hcapped⟩ := reheated_boilerPublication_frame (first := first) huser
  obtain ⟨hsdu, -, -, -, -, hpu⟩ := reheated_frame (boilerPublication_serves (first := first) huser)
  have hdemand := soak_heats (s := reheated (boilerPublication first s)) huser' (by simpa [hpu] using hlock)
    (by simpa [hsdu] using h)
  rw [boilerValue, hmu, hcapped, hcapped, hheater] at hdemand
  rw [heq]
  exact ⟨⟨by simpa [hsdu] using h, by simp [hsdu], by simpa using huser'⟩, by simp [hsdu], hdemand⟩

end

end

end

end Sys2Proof.Machine.Water
end

section
/-! UNLOCKING, a recovery, and the obligation (R152, R156, R198): DescaleFollowsPublication. -/

namespace Sys2Proof.Machine.Water

open Sharing Cooking Sampling

section
variable {s : State} {first : Bool} {f : LockingFrom}

/-- The phase waits to recover, and what it drives the lock in for. -/
def recovers (f : LockingFrom) (s : State) : Prop :=
  (s.sdu.phase = .recoverDrain ∧ f = .recoverDrain) ∨ (s.sdu.phase = .recoverRinse ∧ f = .recoverRinse)

/-- An OFF boiler whose low electrode has been published stays as it is. -/
theorem boilerPublication_false_off (hcool : (boilerValue s).above 1600 = false) (hoff : s.sgc.state = .off) :
    boilerPublication false s = s := by
  rw [boilerPublication_off hcool hoff, if_neg (by simp)]

section
variable (hlock : s.pu.trips.lock = false)
include hlock

/-! ### UNLOCKING (R152) -/

theorem descaled_unlocking (h : s.sdu.phase = .unlocking) (hstate : s.pu.lock ≠ .unlocked) :
    descaled first s = boilerPublication first s := by
  have hrests : sduNext (boilerPublication first s) = none := by
    rw [sduNext_unlocking (boilerPublication_unlocked hlock) (by simpa using h), if_neg (by simpa using hstate)]
  exact sduPublication_cold (sduFollow_rest hrests) hrests (by simp [isCold, h])

/-- The lock has come out: the descale is done (R152). -/
theorem descaled_done (h : s.sdu.phase = .unlocking) (hstate : s.pu.lock = .unlocked) :
    descaled first s = enterDone (boilerPublication first s) := by
  obtain ⟨hphase, -⟩ := enterDone_clears (s := boilerPublication first s)
  have hrests : sduNext (enterDone (boilerPublication first s)) = none := sduNext_idle hphase
  have hnext := sduNext_unlocking (s := boilerPublication first s) (by simpa using hlock) (by simpa using h)
  rw [if_pos (by simpa using hstate)] at hnext
  exact sduPublication_cold ((sduFollow_step hnext).trans (followFor_rest hrests)) hrests (by simp [isCold, hphase])

/-! ### A recovery (R156) -/

theorem sduNext_recovers (h : recovers f s) :
    sduNext s = if s.od.power = .active ∧ doorOpen s = false then some (enterLocking f s) else none := by
  rcases h with ⟨h, rfl⟩ | ⟨h, rfl⟩ <;> simp [sduNext, frozen, hlock, h]

theorem descaled_recovers_waits (h : recovers f s) (hno : ¬ (s.od.power = .active ∧ doorOpen s = false)) :
    descaled first s = boilerPublication first s := by
  have hrests : sduNext (boilerPublication first s) = none := by
    rw [sduNext_recovers (f := f) (by simpa using hlock) (by simpa [recovers] using h),
      if_neg (by simpa [doorOpen] using hno)]
  refine sduPublication_cold (sduFollow_rest hrests) hrests ?_
  rcases h with ⟨h, -⟩ | ⟨h, -⟩ <;> simp [isCold, h]

theorem descaled_recovers_travels (h : recovers f s) (hpower : s.od.power = .active) (hdoor : doorOpen s = false)
    (hstate : s.pu.lock ≠ .locked) :
    descaled first s =
      travelling (if s.pu.lock = .locking then s.pu.travel else 0) (lockingEntered f (boilerPublication first s)) := by
  have hnext := sduNext_recovers (s := boilerPublication first s) (f := f) (by simpa using hlock) (by simpa [recovers] using h)
  have htravels := enterLocking_travels (s := boilerPublication first s) f (by simpa using hstate)
    (by simpa [doorOpen] using hdoor)
  rw [if_pos (by simpa [doorOpen, hpower] using hdoor), htravels] at hnext
  simp only [boilerPublication_keeps] at hnext
  obtain ⟨hsdu, hpu, -⟩ := lockingEntered_frame f (boilerPublication first s)
  have hrests (k : Nat) : sduNext (travelling k (lockingEntered f (boilerPublication first s))) = none := by
    rw [sduNext_locking (by simpa [travelling, hpu] using hlock) (by simp [travelling, hsdu]), if_neg (by simp [travelling])]
  exact sduPublication_cold ((sduFollow_step hnext).trans (followFor_rest (hrests _))) (hrests _)
    (by simp [isCold, travelling, hsdu])

theorem sduFollow_recovers_locked (h : recovers f s) (hpower : s.od.power = .active) (hdoor : doorOpen s = false)
    (hlocked : s.pu.lock = .locked) :
    sduFollow (boilerPublication first s) = followFor 7 (engaged (lockingEntered f (boilerPublication first s))) := by
  have hnext := sduNext_recovers (s := boilerPublication first s) (f := f) (by simpa using hlock) (by simpa [recovers] using h)
  rw [if_pos (by simpa [doorOpen, hpower] using hdoor), enterLocking_locked f (by simpa using hlocked)] at hnext
  exact sduFollow_step hnext

/-- A lock that is LOCKED already leads a recovery on at once. -/
theorem descaled_recovers_locked (huser : s.sgc.user = .descale) (h : recovers f s) (hpower : s.od.power = .active)
    (hdoor : doorOpen s = false) (hlocked : s.pu.lock = .locked) :
    inPhase (if s.sdu.phase = .recoverDrain then .drainAgent else .awaitRinse) s (descaled first s) ∧
      (descaled first s).sdu.mark = s.sdu.mark ∧ (descaled first s).pu = { s.pu with command := .engage } := by
  obtain ⟨e, he⟩ : ∃ e, e = engaged (lockingEntered f (boilerPublication first s)) := ⟨_, rfl⟩
  obtain ⟨hsdu, hpu, hsgc, -⟩ := lockingEntered_frame f (boilerPublication first s)
  have hfollow := sduFollow_recovers_locked (first := first) hlock h hpower hdoor hlocked
  have hsdue : e.sdu = { (boilerPublication first s).sdu with phase := .locking, lockingFrom := f } := by
    rw [he, engaged, hsdu]
  have hpue : e.pu = { s.pu with command := .engage } := by simp [he, engaged, hpu]
  have hlocke : e.pu.trips.lock = false := by rw [hpue]; exact hlock
  have husere : e.sgc.user = .descale := by simpa [he, engaged, hsgc] using huser
  obtain ⟨hdrain, hrinse⟩ := followFor_locked (n := 5) hlocke (by rw [hsdue]) (by rw [hpue]; exact hlocked)
  rw [← he] at hfollow
  rw [descaled]
  rcases h with ⟨h, hf⟩ | ⟨h, hf⟩
  · obtain ⟨hrests, hcold, hsduw, hpuw, huserw, -⟩ := agentDrained hlocke husere
    rw [hdrain (by rw [hsdue, hf])] at hfollow
    rw [sduPublication_cold hfollow hrests hcold, if_pos h, inPhase, hsduw, hpuw, hsdue]
    exact ⟨⟨rfl, by simp, huserw⟩, by simp, hpue⟩
  · obtain ⟨hrests, hcold, hsduw, hpuw, huserw, -⟩ := rinseAwaited husere
    rw [hrinse (by rw [hsdue, hf])] at hfollow
    rw [sduPublication_cold hfollow hrests hcold, if_neg (by simp [h]), inPhase, hsduw, hpuw, hsdue]
    exact ⟨⟨rfl, by simp, huserw⟩, by simp, hpue⟩

end

/-- A recovery begins as the door is closed in ACTIVE (R156). -/
theorem descaled_recovers (huser : s.sgc.user = .descale) (hlock : s.pu.trips.lock = false) (h : recovers f s) :
    (s.od.power ≠ .active ∨ s.mu.door.published ≠ some false → inPhase s.sdu.phase s (descaled first s)) ∧
    (s.od.power = .active → s.mu.door.published = some false →
      (descaled first s).sdu.account = s.sdu.account ∧ (descaled first s).sdu.mark = s.sdu.mark ∧
        (descaled first s).pu.command = .engage ∧
        (s.pu.lock = .unlocked →
          inPhase .locking s (descaled first s) ∧ (descaled first s).pu.lock = .locking ∧
            (descaled first s).pu.travel = 0) ∧
        (s.pu.lock = .locked →
          inPhase (if s.sdu.phase = .recoverDrain then .drainAgent else .awaitRinse) s (descaled first s) ∧
            (descaled first s).pu.lock = .locked)) := by
  refine ⟨fun hno => ?_, fun hpower hclosed => ?_⟩
  · have hwaits : ¬ (s.od.power = .active ∧ doorOpen s = false) := by
      simpa [doorOpen, imp_iff_not_or] using hno
    rw [descaled_recovers_waits hlock h hwaits]
    exact ⟨by simp, by simp, by simpa using huser⟩
  · have hdoor : doorOpen s = false := by simp [doorOpen, hclosed]
    by_cases hlocked : s.pu.lock = .locked
    · obtain ⟨⟨hphase, haccount, huser'⟩, hmark, hpu⟩ := descaled_recovers_locked (first := first) hlock huser h hpower hdoor hlocked
      rw [hpu]
      exact ⟨haccount, hmark, rfl, fun hunlocked => absurd (hlocked.symm.trans hunlocked) (by decide),
        fun _ => ⟨⟨hphase, haccount, huser'⟩, hlocked⟩⟩
    · obtain ⟨hsdu, hpu, hsgc, -⟩ := lockingEntered_frame f (boilerPublication first s)
      rw [descaled_recovers_travels hlock h hpower hdoor hlocked]
      refine ⟨by simp [travelling, hsdu], by simp [travelling, hsdu], rfl, fun hunlocked => ?_,
        fun hin => absurd hin hlocked⟩
      exact ⟨⟨by simp [travelling, hsdu], by simp [travelling, hsdu], by simpa [travelling, hsgc] using huser⟩, rfl,
        by simp [travelling, hunlocked]⟩

/-! ### The phases that the lock ends (R148, R152, R198) -/

theorem descaled_atLocking (hcool : (boilerValue s).above 1600 = false) (huser : s.sgc.user = .descale)
    (hlock : s.pu.trips.lock = false) (h : s.sdu.phase = .locking) :
    (s.pu.lock ≠ .locked → inPhase .locking s (descaled first s) ∧ (descaled first s).sdu.mark = s.sdu.mark) ∧
    (s.pu.lock = .locked →
      (s.sdu.lockingFrom = .awaitAgent →
        (descaled first s).sdu.mark = .agentIn ∧ (descaled first s).sdu.phase ∈ [.soakFill, .soakHeat, .soak] ∧
          (s.sdu.mark ≠ .agentIn → (descaled first s).sdu.writing ≠ none) ∧
          (s.sgc.state = .off → s.mu.tank = .present → boilerFull s = false →
            inPhase .soakFill s (descaled first s) ∧ (descaled first s).sgc.state = .fill ∧
              (descaled first s).sgc.pulses = 1 ∧ (descaled first s).sdu.meteringSum = s.sdu.meteringSum ∧
              (descaled first s).lpd.loads.steamHeater.demand = 0)) ∧
      (s.sdu.lockingFrom = .recoverDrain →
        inPhase .drainAgent s (descaled first s) ∧ (descaled first s).sdu.mark = s.sdu.mark ∧
          (descaled first s).lpd.loads.steamHeater.demand = 0 ∧
          (s.sgc.state ∈ [.off, .cool] → drains (descaled first s))) ∧
      (s.sdu.lockingFrom = .recoverRinse →
        inPhase .awaitRinse s (descaled first s) ∧ (descaled first s).sdu.mark = s.sdu.mark ∧
          (descaled first s).lpd.loads.steamHeater.demand = 0 ∧
          (descaled first s).od.events.has .descaleWaitUser = true)) := by
  refine ⟨fun hstate => ?_, fun hlocked => ⟨fun hfrom => ?_, fun hfrom => ?_, fun hfrom => ?_⟩⟩
  · rw [descaled_locking hlock h hstate]
    exact ⟨⟨by simpa using h, by simp, by simpa using huser⟩, by simp⟩
  · obtain ⟨-, hmark, hmoved, hwriting⟩ := descaled_agent_frame (first := first) hlock huser h hlocked hfrom
    exact ⟨hmark, hmoved, hwriting, descaled_agent_fills hlock hcool huser h hlocked hfrom⟩
  · obtain ⟨-, hleaves⟩ := descaled_recoverDrain (first := first) hlock hcool huser h hlocked hfrom
    exact hleaves
  · obtain ⟨-, hleaves⟩ := descaled_recoverRinse (first := first) hlock huser h hlocked hfrom
    exact hleaves

theorem descaled_atUnlocking (hcool : (boilerValue s).above 1600 = false) (huser : s.sgc.user = .descale)
    (hlock : s.pu.trips.lock = false) (h : s.sdu.phase = .unlocking) :
    (s.pu.lock ≠ .unlocked → inPhase .unlocking s (descaled first s) ∧ (descaled first s).sdu.mark = s.sdu.mark) ∧
    (s.pu.lock = .unlocked →
      (descaled first s).sdu.phase = .idle ∧ (descaled first s).sdu.account = 0 ∧
        (descaled first s).sdu.mark = .none ∧ (descaled first s).sgc.derate = false ∧
        (descaled first s).sgc.user = .climate ∧ (descaled first s).sdu.writing ≠ none ∧
        (descaled first s).od.events.has .descaleDone = true ∧
        (s.sgc.state = .off → first = false →
          (descaled first s).sgc.state = .off ∧ (descaled first s).lpd.loads.steamHeater.demand = 0)) := by
  refine ⟨fun hstate => ?_, fun hunlocked => ?_⟩
  · rw [descaled_unlocking hlock h hstate]
    exact ⟨⟨by simpa using h, by simp, by simpa using huser⟩, by simp⟩
  · obtain ⟨hidle, haccount, hmark, hderate, hclimate, hwriting, htold⟩ :=
      enterDone_clears (s := boilerPublication first s)
    rw [descaled_done hlock h hunlocked]
    refine ⟨hidle, haccount, hmark, hderate, hclimate, hwriting, htold, fun hoff hlater => ?_⟩
    rw [hlater, boilerPublication_false_off hcool hoff]
    exact enterDone_off hoff

/-- Outside a recovery the scale unit asks nothing of the lock. -/
theorem descaled_pu (hcool : (boilerValue s).above 1600 = false) (huser : s.sgc.user = .descale)
    (hlock : s.pu.trips.lock = false) (h : s.sdu.phase ∈ [.idle, .locking, .unlocking]) :
    (descaled first s).pu = s.pu := by
  simp only [List.mem_cons, List.not_mem_nil, or_false] at h
  rcases h with h | h | h
  · rw [descaled, sduPublication_idle (by simpa using h)]
    simp
  · by_cases hlocked : s.pu.lock = .locked
    · cases hfrom : s.sdu.lockingFrom with
      | awaitAgent => exact (descaled_agent_frame hlock huser h hlocked hfrom).1
      | recoverDrain => exact (descaled_recoverDrain hlock hcool huser h hlocked hfrom).1
      | recoverRinse => exact (descaled_recoverRinse hlock huser h hlocked hfrom).1
    · rw [descaled_locking hlock h hlocked]
      simp
  · by_cases hunlocked : s.pu.lock = .unlocked
    · rw [descaled_done hlock h hunlocked]
      simp
    · rw [descaled_unlocking hlock h hunlocked]
      simp

end

/-! ### The obligation -/

/-- Settles O54: the lock's travel, the boiler and the scale unit act on one publication, in that order. -/
theorem descaleFollowsPublication : Obligations.DescaleFollowsPublication := by
  intro x s t hrun hx huser htrips hlock hfb hvalue
  obtain rfl : samplingRound x s = t := Host.Outcome.next.inj ((exec_next rfl hrun rfl).symm.trans hx)
  have hsame := sameWater_samplingRound x s
  rw [boiled, judged_travelled htrips hlock hfb] at hsame
  rw [samplingRound_mu] at hvalue
  have hfirst := firstPublished_iff s.mu.levelLow (sampleAll s.mu x).levelLow
  obtain ⟨u, hu⟩ : ∃ u : State, u = travelled x s := ⟨_, rfl⟩
  have hsgcu : u.sgc = s.sgc := by rw [hu]; rfl
  have hsduu : u.sdu = s.sdu := by rw [hu]; rfl
  have hodu : u.od = s.od := by rw [hu]; rfl
  have hlpdu : u.lpd = s.lpd := by rw [hu]; rfl
  have hmuu : sampleAll s.mu x = u.mu := by rw [hu]; rfl
  have hpuu : u.pu = { s.pu with lock := lockSettled s.pu.lock u.mu.lockFb.published } := by rw [hu]; rfl
  rw [hmuu] at hvalue hfirst hsame
  rw [← hu] at hsame
  rw [← hsgcu] at huser
  have hcool := above_eq_false hvalue
  have hlock' : u.pu.trips.lock = false := by rw [hpuu]; exact hlock
  generalize firstPublished s.mu.levelLow u.mu.levelLow = first at hsame hfirst
  obtain ⟨hsgc, hsdu, hpu, hmu, hheater, hevents, -⟩ := hsame
  have hmuv : (sduPublication (boilerPublication first u)).mu = u.mu := by simp
  rw [hmuv] at hmu
  change _ = (descaled first u).sgc at hsgc
  change _ = (descaled first u).sdu at hsdu
  change _ = (descaled first u).pu at hpu
  change _ = (descaled first u).lpd.loads.steamHeater at hheater
  change _ = (descaled first u).od.events at hevents
  dsimp only
  rw [hsgc, hsdu, hpu, hmu, hheater, hevents, ← hsgcu, ← hsduu, ← hodu, ← hlpdu]
  simp only [← boilerFull_iff]
  simp only [← atLeast_iff, ← lowWet_iff, Bool.not_eq_true]
  have hpuk (h : u.sdu.phase ∈ [.idle, .locking, .unlocking]) := descaled_pu (first := first) hcool huser hlock' h
  refine ⟨fun h => ?_, fun h => ?_, descaled_soakFill hcool huser hlock', descaled_soakHeat hcool huser hlock',
    descaled_soak huser hlock', descaled_rinseFill hcool huser hlock', descaled_rinseHeat hcool huser hlock', fun h => ?_,
    fun h => ?_⟩
  · rw [hpuk h, hpuu]
    exact ⟨rfl, rfl⟩
  · rw [hpuk (by simp [h])]
    exact descaled_atLocking hcool huser hlock' h
  · rw [hpuk (by simp [h])]
    obtain ⟨hwaits, hdone⟩ := descaled_atUnlocking (first := first) hcool huser hlock' h
    refine ⟨hwaits, fun hunlocked => ?_⟩
    obtain ⟨hidle, haccount, hmark, hderate, hclimate, hwriting, htold, hrests⟩ := hdone hunlocked
    refine ⟨hidle, haccount, hmark, hderate, hclimate, hwriting, htold, fun hoff hlow => hrests hoff ?_⟩
    rw [Bool.eq_false_iff, ne_eq, hfirst]
    exact fun hnone => hlow hnone.1
  · have hunlocked : s.pu.lock = .unlocked → u.pu.lock = .unlocked := fun hl => by simp [hpuu, hl, lockSettled]
    have hlocked : s.pu.lock = .locked → u.pu.lock = .locked := fun hl => by simp [hpuu, hl, lockSettled]
    obtain ⟨f, hrecovers⟩ : ∃ f, recovers f u := by
      rcases h with h | h
      · exact ⟨_, .inl ⟨h, rfl⟩⟩
      · exact ⟨_, .inr ⟨h, rfl⟩⟩
    obtain ⟨hwaits, hbegins⟩ := descaled_recovers (first := first) huser hlock' hrecovers
    refine ⟨hwaits, fun hpower hclosed => ?_⟩
    obtain ⟨haccount, hmark, hengage, htravels, hleads⟩ := hbegins hpower hclosed
    exact ⟨haccount, hmark, hengage, fun hl => htravels (hunlocked hl), fun hl => hleads (hlocked hl)⟩

end Sys2Proof.Machine.Water
end
